-- ==== Sys2Proof/Word.lean ====
section
/-! DEFINITION. The word types of the TW32 and the plain numbers its rules count in. -/

namespace Sys2Proof

/-- One byte of a frame or of a telegram body. -/
abbrev Byte := BitVec 8

/-- A sensor identity (00_scope 4.4): a 32-bit number. Zero and the tool block are no sensor. -/
abbrev SensorId := BitVec 32

/-- A row of the wheel table, 0..31 (00_scope 4.5). -/
abbrev Row := Fin 32

/-- A receiver lane, 0..3. -/
abbrev LaneNo := Fin 4

/-- An axle index, 0..7: truck axles 0..4, trailer axles 5..7 (00_scope 4.5). -/
abbrev AxleNo := Fin 8

/-- A roster entry, 0..3 (R13). -/
abbrev EntryNo := Fin 4

/-- A slot of a roster entry, 0..11 (R13). -/
abbrev SlotNo := Fin 12

/-- A threshold group, 0..7 (R87). -/
abbrev GroupNo := Fin 8

/-- A moment or a length of the part clock in milliseconds (00_scope 4.3). -/
abbrev Millis := Nat

/-- A pressure in pu, or one of the codes 4094 (error) and 4095 (not available) (00_scope 4.1). -/
abbrev Pu := Nat

/-- A set of the eleven conditions, in the 16-bit form of R183: bit n stands for condition code n. -/
abbrev ConditionSet := BitVec 16

end Sys2Proof
end

