-- ==== Sys2Proof/Syntax.lean ====
section
/-! DEFINITION. The commands of the TW32: one constructor of `Instr` per row of spec/opcode_table.json. -/

namespace Sys2Proof

/-- The two units of the vehicle, each with an applied load of its own (R137). -/
inductive UnitName where
  | truck
  | trailer
deriving DecidableEq, Repr

/-- The three ways a transmit attempt ends (R168). -/
inductive AttemptEnd where
  | sent
  | arbitrationLost
  | failed
deriving DecidableEq, Repr

/-- The identifier of a received frame: 11 bits, or the 29 bits of an extended frame (R165). -/
inductive FrameId where
  | standard (id : BitVec 11)
  | extended (id : BitVec 29)
deriving DecidableEq, Repr

/-- An error-free frame received from the vehicle bus (R165). -/
structure BusFrame where
  id : FrameId
  remote : Bool
  data : List Byte
deriving DecidableEq, Repr

/-- A data frame with an 11-bit identifier. -/
def BusFrame.withId (id : BitVec 11) (data : List Byte) : BusFrame := { id := .standard id, remote := false, data := data }

/-- A command of the block: a step of the part, whole and indivisible (95_what_each_step_holds).

A request row (`identify` to `snapshotRead`, and `badFrame`) is MGU's take of the OLDEST request of the request FIFO when that
request is of the row's kind. Its arguments are the bytes of that frame (R174, R186), so the constructor carries none. A lane row
carries the lane and the bit it takes; SYNC_MATCH also the level of the front end's signal-strength output, in 65,535ths of the way
from ground to the supply level (R187; log entry 24). VEHICLE_DATA_FRAME and REQUEST_FRAME carry the frame that arrives;
OTHER_FRAME_RECEIVED is a frame that LINK ignores, of which nothing is read (log entry 25). -/
inductive Instr where
  -- resets, supply and lines
  | coldReset
  | powerLoss
  | resetAssert
  | resetRelease
  | loadComplete
  | ignitionChange (on : Bool)
  | serviceChange (asserted : Bool)
  | crankAssert
  | crankRelease
  -- lanes and acceptance
  | syncMatch (lane : LaneNo) (bit : Bool) (level : BitVec 16)
  | laneJam (lane : LaneNo) (bit : Bool)
  | laneClear (lane : LaneNo) (bit : Bool)
  | runViolation (lane : LaneNo) (bit : Bool)
  | telegramComplete (lane : LaneNo) (bit : Bool)
  | telegramRecord (lane : LaneNo)
  | skip (lane : LaneNo)
  | back (lane : LaneNo)
  | abort (lane : LaneNo)
  -- timers of the wheel map, the candidate list, evaluation and enrolment
  | recognitionWindowExpiry
  | candidateAgeExpiry (id : SensorId)
  | staleExpiry (row : Row)
  | missingExpiry (row : Row)
  | alertRepeatExpiry (row : Row)
  | rowDue (row : Row)
  | stepDeadlineExpiry
  -- vehicle data and operating state
  | vehicleDataFrame (frame : BusFrame)
  | frameTimeoutExpiry
  | settleExpiry (unit : UnitName)
  | parkDelayExpiry
  | activityExpiry
  -- requests
  | requestFrame (frame : BusFrame)
  | badFrame
  | identify
  | readPartStatus
  | restart
  | setSetting
  | readSetting
  | setLink
  | setGuard
  | freeze
  | goOffline
  | goActive
  | save
  | resumeExpiry
  | saveComplete
  | setAxle
  | readAxle
  | writeRow
  | clearRow
  | readRow
  | rosterWriteTag
  | rosterWriteAxle
  | rosterWriteSlot
  | rosterRead
  | rosterClear
  | trailerSelect
  | setLimitsP
  | setLimitsT
  | readLimits
  | setAnnounce
  | enrolOrder
  | enrolStart
  | enrolCancel
  | enrolStatus
  | proposalAccept
  | proposalReject
  | readCandidate
  | clearLaneStatus
  | eventTake
  | snapshotOpen
  | snapshotRead
  -- the link
  | searchDeadlineExpiry
  | transmitStart
  | transmitDone (how : AttemptEnd)
  | quietDeadlineExpiry
  | reportExpiry
  | partStatusExpiry
  | bitTaken (lane : LaneNo) (bit : Bool)
  | otherFrameReceived
deriving DecidableEq, Repr

end Sys2Proof
end

