-- ==== Sys2Proof/WellFormed.lean ====
section
/-! DEFINITION. Which commands can exist at all. Rows, lanes and units are bounded by their types;
what is left to check is the length of a received data field. -/

namespace Sys2Proof

/-- A CAN data field holds at most eight bytes (R165: "of any data length, 0..8 bytes"). -/
def maxDataLength : Nat := 8

/-- A command is well formed when the frame it delivers can stand on the bus. -/
def Instr.wellFormed : Instr → Bool
  | .vehicleDataFrame frame => decide (frame.data.length ≤ maxDataLength)
  | .requestFrame frame => decide (frame.data.length ≤ maxDataLength)
  | _ => true

end Sys2Proof
end

