-- ==== Sys2Proof/Decode.lean ====
section
/-! DEFINITION. The command a word of the opcode table spells. -/

namespace Sys2Proof

/-- No row of spec/opcode_table.json gives a command any bits: the block has no encoding of its commands, so no word spells
one. -/
def decodeTableWord (_nbits _w : Nat) : Option Instr := none

end Sys2Proof
end

