-- ==== Sys2Proof/Machine/Types.lean ====
section
/-! DEFINITION. The named codes, records and tables of the TW32, each with the rule that gives it. -/

namespace Sys2Proof.Machine

/-! ### Codes shared between chapters (R1) -/

/-- The operating states, coded as the table of 7.5 gives. -/
inductive OpState where
  | starting
  | active
  | parkWatch
  | dormant
  | offline
deriving DecidableEq, Repr

def OpState.code : OpState → Nat
  | .starting => 0
  | .active => 1
  | .parkWatch => 2
  | .dormant => 3
  | .offline => 4

/-- The wheel statuses of R1. -/
inductive WheelStatus where
  | vacant
  | awaiting
  | live
  | stale
  | missing
deriving DecidableEq, Repr

def WheelStatus.code : WheelStatus → Nat
  | .vacant => 0
  | .awaiting => 1
  | .live => 2
  | .stale => 3
  | .missing => 4

/-- The severities of R1, ordered by code. -/
inductive Severity where
  | none
  | advisory
  | warning
  | critical
deriving DecidableEq, Repr

def Severity.code : Severity → Nat
  | .none => 0
  | .advisory => 1
  | .warning => 2
  | .critical => 3

/-- The trailer states of R1 and 1.5. -/
inductive TrailerState where
  | none
  | recognising
  | identified (k : EntryNo)
  | unknown
deriving DecidableEq, Repr

/-- The code of the trailer state in PART_STATUS (R171). -/
def TrailerState.code : TrailerState → Nat
  | .none => 0
  | .recognising => 1
  | .identified _ => 2
  | .unknown => 3

/-- The entry of an identified trailer. -/
def TrailerState.entry? : TrailerState → Option EntryNo
  | .identified k => some k
  | _ => Option.none

/-- The eleven conditions of 5.4. -/
inductive Condition where
  | lowWarn
  | lowCrit
  | highWarn
  | tempWarn
  | tempCrit
  | leak
  | fastLeak
  | imbalance
  | batteryLow
  | sensorFault
  | missing
deriving DecidableEq, Repr

/-- The code of a condition: its bit in a condition set and the index of its counter. -/
def Condition.code : Condition → Fin 11
  | .lowWarn => 0
  | .lowCrit => 1
  | .highWarn => 2
  | .tempWarn => 3
  | .tempCrit => 4
  | .leak => 5
  | .fastLeak => 6
  | .imbalance => 7
  | .batteryLow => 8
  | .sensorFault => 9
  | .missing => 10

/-- The severity of a condition (table of 5.4). -/
def Condition.severity : Condition → Severity
  | .lowCrit | .tempCrit | .fastLeak => .critical
  | .lowWarn | .highWarn | .tempWarn | .leak | .missing => .warning
  | .imbalance | .batteryLow | .sensorFault => .advisory

/-- All conditions in code order. -/
def Condition.all : List Condition :=
  [.lowWarn, .lowCrit, .highWarn, .tempWarn, .tempCrit, .leak, .fastLeak, .imbalance, .batteryLow,
    .sensorFault, .missing]

/-! ### The wheel map (section 1) -/

inductive Layout where
  | absent
  | single
  | dual
deriving DecidableEq, Repr

def Layout.code : Layout → Nat
  | .absent => 0
  | .single => 1
  | .dual => 2

/-- An axle record (1.1). -/
structure AxleRecord where
  layout : Layout
  group : GroupNo
  liftable : Bool
  nearLane : LaneNo
deriving DecidableEq, Repr

/-- The free-axle value (R2). -/
def AxleRecord.free : AxleRecord :=
  { layout := .absent, group := 0, liftable := false, nearLane := 0 }

/-- An entry of the trailer roster (R13). Tag 0 marks a free entry. -/
structure RosterEntry where
  tag : BitVec 16
  axles : Vector AxleRecord 3
  slots : Vector (Option SensorId) 12
deriving DecidableEq, Repr

/-- A free entry: free-axle records and no slot IDs (R13). -/
def RosterEntry.free : RosterEntry :=
  { tag := 0, axles := Vector.replicate 3 .free, slots := Vector.replicate 12 Option.none }

def RosterEntry.isFree (e : RosterEntry) : Bool := decide (e.tag = 0)

/-- What the part remembers of one roster entry while it recognises a trailer (R20): the distinct IDs
heard, and for each slot the sequence and arrival time last counted. -/
structure RecogEntry where
  heard : List SensorId
  sequence : Vector (Option (BitVec 4 × Millis)) 12
deriving DecidableEq, Repr

def RecogEntry.empty : RecogEntry :=
  { heard := [], sequence := Vector.replicate 12 Option.none }

/-! ### Lanes and telegrams (section 2) -/

/-- An unbroken run of equal bits. A run of length 0 is no run, whatever its value field. -/
structure BitRun where
  value : Bool
  length : Nat
deriving DecidableEq, Repr

def BitRun.empty : BitRun := { value := false, length := 0 }

/-- The lane states of R25, each with the data it holds. `body` holds the de-stuffed bits taken, the
stuffing run and the RSSI sampled at the sync match; `jammed` the jam value. -/
inductive LaneState where
  | disabled
  | hunt (history : List Bool) (run : BitRun)
  | body (bits : List Bool) (stuffing : BitRun) (rssi : Byte)
  | jammed (value : Bool)
deriving DecidableEq, Repr

/-- The lane state codes of CLEAR_LANE_STATUS (R186). -/
def LaneState.code : LaneState → Nat
  | .disabled => 0
  | .hunt _ _ => 1
  | .body _ _ _ => 2
  | .jammed _ => 3

/-- HUNT with an empty history and a hunt run of length 0 (R27, R33, R34). -/
def LaneState.freshHunt : LaneState := .hunt [] .empty

/-- The latched status flags of a lane (R40). -/
structure LaneFlags where
  crcFail : Bool
  runViolation : Bool
  malformed : Bool
  jam : Bool
deriving DecidableEq, Repr

def LaneFlags.clear : LaneFlags :=
  { crcFail := false, runViolation := false, malformed := false, jam := false }

structure Lane where
  state : LaneState
  flags : LaneFlags
deriving DecidableEq, Repr

/-- A lane after any reset (R25). -/
def Lane.reset : Lane := { state := .disabled, flags := .clear }

/-- Why a sensor sent (R37). -/
inductive Mode where
  | rolling
  | parked
  | triggered
  | alert
deriving DecidableEq, Repr

def Mode.code : Mode → Nat
  | .rolling => 0
  | .parked => 1
  | .triggered => 2
  | .alert => 3

/-- A telegram record, as a lane hands it to TAU (R39). -/
structure TelegramRecord where
  lane : LaneNo
  rssi : Byte
  arrival : Millis
  id : SensorId
  mode : Mode
  batteryLow : Bool
  fault : Bool
  sequence : BitVec 4
  pressure : BitVec 12
  temperature : Byte
deriving DecidableEq, Repr

/-- A record of the candidate list (R52). -/
structure Candidate where
  id : SensorId
  firstHeard : Millis
  lastHeard : Millis
  hits : Nat
  laneMask : BitVec 4
  bestLane : LaneNo
  bestRssi : Byte
  movingHits : Nat
  lastSequence : BitVec 4
  lastTime : Millis
deriving DecidableEq, Repr

/-! ### Wheel records and thresholds (sections 4 and 5) -/

/-- The four measurement flags, in the order of their bits (R183). -/
structure MeasFlags where
  belowAmbient : Bool
  overrange : Bool
  tempUnavailable : Bool
  sensorFaultSeen : Bool
deriving DecidableEq, Repr

def MeasFlags.clear : MeasFlags :=
  { belowAmbient := false, overrange := false, tempUnavailable := false, sensorFaultSeen := false }

/-- A sample of the trend ring (R69). -/
structure Sample where
  pc : Pu
  time : Millis
deriving DecidableEq, Repr

/-- A wheel record (R78). The alarm level and the announced level are the highest severities of
`active` and of `announced` (R101, R103), so they are computed from those sets and not held beside
them. -/
structure WheelRecord where
  status : WheelStatus
  raw : Pu
  pc : Pu
  pg : Pu
  temperature : Option Int
  flags : MeasFlags
  lastMode : Option Mode
  lastSequence : Option (BitVec 4)
  lastAccepted : Option Millis
  rssi : Vector Byte 4
  base : Option Millis
  staleAt : Option Millis
  missingAt : Option Millis
  active : ConditionSet
  counters : Vector Nat 11
  announced : ConditionSet
  repeatAt : Option Millis
  ring : List Sample
  leakRate : Option Nat
deriving DecidableEq, Repr

/-- The starting content of a wheel record (R79) with the status given. -/
def WheelRecord.fresh (status : WheelStatus) : WheelRecord :=
  { status, raw := 4095, pc := 4095, pg := 4095, temperature := Option.none, flags := .clear,
    lastMode := Option.none, lastSequence := Option.none, lastAccepted := Option.none,
    rssi := Vector.replicate 4 0, base := Option.none, staleAt := Option.none,
    missingAt := Option.none, active := 0, counters := Vector.replicate 11 0, announced := 0,
    repeatAt := Option.none, ring := [], leakRate := Option.none }

/-- The load states a pressure limit record is kept for (R75). -/
inductive LoadState where
  | unladen
  | laden
deriving DecidableEq, Repr

def LoadState.code : LoadState → Nat
  | .unladen => 0
  | .laden => 1

/-- A pressure limit record (R75). -/
structure PressureLimits where
  target : Pu
  lw : Nat
  lc : Nat
  hw : Nat
deriving DecidableEq, Repr

/-- The temperature record of a group (R87). -/
structure TempLimits where
  tempWarn : Nat
  tempCrit : Nat
  imbalance : Nat
  leakWarn : Nat
  hyst : Nat
  tref : Int
deriving DecidableEq, Repr

/-- The records of one threshold group (R87). -/
structure ThresholdGroup where
  unladen : PressureLimits
  laden : PressureLimits
  temp : TempLimits
deriving DecidableEq, Repr

/-- The factory values of a group (R87). -/
def ThresholdGroup.factory : ThresholdGroup :=
  { unladen := { target := 1600, lw := 26, lc := 64, hw := 77 }
    laden := { target := 1800, lw := 26, lc := 64, hw := 77 }
    temp := { tempWarn := 85, tempCrit := 105, imbalance := 60, leakWarn := 20, hyst := 10, tref := 20 } }

/-- The announcement settings (R102). -/
structure Announce where
  minimum : Severity
  exclude : ConditionSet
deriving DecidableEq, Repr

def Announce.factory : Announce := { minimum := .advisory, exclude := 0 }

/-! ### Settings, link settings, guard (sections 9 and 10) -/

/-- The items of the settings table (10.3), in item order. -/
inductive Setting where
  | duplicateWindowMs
  | candidateAgeS
  | recognitionWindowS
  | staleMovingS
  | missingMovingS
  | staleParkedS
  | missingParkedS
  | movingSpeedKmh
  | persistN
  | alertRepeatS
  | stepTimeoutS
  | proposalDelayS
  | vehicleDataTimeoutMs
  | loadSettleS
  | parkDelayS
  | dormantDelayS
  | reportPeriodS
  | partStatusPeriodS
  | laneEnableMask
  | parkLane
  | activityMask
deriving DecidableEq, Repr

/-- The item code of a setting (10.3). -/
def Setting.item : Setting → Fin 21
  | .duplicateWindowMs => 0
  | .candidateAgeS => 1
  | .recognitionWindowS => 2
  | .staleMovingS => 3
  | .missingMovingS => 4
  | .staleParkedS => 5
  | .missingParkedS => 6
  | .movingSpeedKmh => 7
  | .persistN => 8
  | .alertRepeatS => 9
  | .stepTimeoutS => 10
  | .proposalDelayS => 11
  | .vehicleDataTimeoutMs => 12
  | .loadSettleS => 13
  | .parkDelayS => 14
  | .dormantDelayS => 15
  | .reportPeriodS => 16
  | .partStatusPeriodS => 17
  | .laneEnableMask => 18
  | .parkLane => 19
  | .activityMask => 20

/-- The range and the factory value of each item (10.3), in item order: low, high, factory. -/
def settingRanges : Vector (Nat × Nat × Nat) 21 :=
  #v[(100, 2000, 600), (60, 3600, 900), (30, 900, 180), (10, 600, 60), (30, 1800, 180),
    (60, 7200, 1200), (120, 14400, 3600), (1, 20, 3), (1, 8, 2), (1, 60, 5), (30, 600, 120),
    (60, 3600, 300), (200, 5000, 1000), (0, 255, 30), (0, 3600, 120), (600, 86400, 28800), (1, 10, 1),
    (1, 60, 5), (0, 15, 15), (0, 3, 0), (0, 15, 15)]

/-- The values of the settings table, by item code. -/
abbrev Settings := Vector Nat 21

/-- Every setting at its factory value (10.3). -/
def Settings.factory : Settings :=
  #v[600, 900, 180, 60, 180, 1200, 3600, 3, 2, 5, 120, 300, 1000, 30, 120, 28800, 1, 5, 15, 0, 15]

/-- The bit rates of R163, coded as SET_LINK codes them (R179). -/
inductive BitRate where
  | k125
  | k250
  | k500
  | k1000
deriving DecidableEq, Repr

/-- The stored link settings (R163). -/
structure LinkSettings where
  nodeBase : BitVec 11
  vehicleId : BitVec 11
  preferred : BitRate
deriving DecidableEq, Repr

def LinkSettings.factory : LinkSettings :=
  { nodeBase := 0x640, vehicleId := 0x630, preferred := .k250 }

/-- The stored guard levels (R180). -/
inductive GuardLevel where
  | openLevel
  | service
  | fleet
deriving DecidableEq, Repr

def GuardLevel.code : GuardLevel → Nat
  | .openLevel => 0
  | .service => 1
  | .fleet => 2

/-- Everything the stored image holds (R155). `State.tables` is the copy in use. -/
structure Tables where
  axles : Vector AxleRecord 5
  rows : Vector (Option SensorId) 20
  roster : Vector RosterEntry 4
  groups : Vector ThresholdGroup 8
  announce : Announce
  settings : Settings
  link : LinkSettings
  guardLevel : GuardLevel
deriving DecidableEq, Repr

/-- The factory truck axle records (table of R2). -/
def factoryAxles : Vector AxleRecord 5 :=
  #v[{ layout := .single, group := 0, liftable := false, nearLane := 0 },
    { layout := .single, group := 0, liftable := false, nearLane := 0 },
    { layout := .dual, group := 1, liftable := false, nearLane := 1 },
    { layout := .dual, group := 1, liftable := false, nearLane := 2 },
    { layout := .absent, group := 2, liftable := true, nearLane := 2 }]

/-- The factory content of every item of the image (R156). -/
def Tables.factory : Tables :=
  { axles := factoryAxles, rows := Vector.replicate 20 Option.none,
    roster := Vector.replicate 4 .free, groups := Vector.replicate 8 .factory, announce := .factory,
    settings := .factory, link := .factory, guardLevel := .openLevel }

/-- The nonvolatile memory (R155): never written; an image with the CRC it carries; or one left by a
write that was cut short, whose content the spec does not give and which is invalid (R162). -/
inductive Image where
  | blank
  | written (content : Tables) (crc : BitVec 16)
  | cutShort
deriving DecidableEq, Repr

/-! ### Events (section 8) -/

/-- The 25 kinds of event (R151). -/
inductive EventKind where
  | conditionOn
  | conditionOff
  | refill
  | trailerIdentified
  | trailerUnknown
  | trailerRemoved
  | enrolStep
  | enrolRepeat
  | enrolForeign
  | enrolInUse
  | enrolCompleted
  | enrolEnded
  | proposalOpen
  | proposalAmbiguous
  | proposalWithdrawn
  | proposalAccepted
  | proposalRejected
  | laneJam
  | laneClear
  | vehicleDataLost
  | vehicleDataBack
  | stateChange
  | storeInvalid
  | saveDone
  | linkFault
deriving DecidableEq, Repr

def EventKind.code : EventKind → Nat
  | .conditionOn => 0
  | .conditionOff => 1
  | .refill => 2
  | .trailerIdentified => 3
  | .trailerUnknown => 4
  | .trailerRemoved => 5
  | .enrolStep => 6
  | .enrolRepeat => 7
  | .enrolForeign => 8
  | .enrolInUse => 9
  | .enrolCompleted => 10
  | .enrolEnded => 11
  | .proposalOpen => 12
  | .proposalAmbiguous => 13
  | .proposalWithdrawn => 14
  | .proposalAccepted => 15
  | .proposalRejected => 16
  | .laneJam => 17
  | .laneClear => 18
  | .vehicleDataLost => 19
  | .vehicleDataBack => 20
  | .stateChange => 21
  | .storeInvalid => 22
  | .saveDone => 23
  | .linkFault => 24

/-- An event record (R151). `time` is in whole seconds of the part clock. -/
structure Event where
  kind : EventKind
  row : Option Row := Option.none
  condition : Option Condition := Option.none
  level : Option Severity := Option.none
  value : Option (BitVec 32) := Option.none
  time : Nat
deriving DecidableEq, Repr

/-- A critical entry: a CONDITION_ON whose condition is CRITICAL (8.1). -/
def Event.critical (e : Event) : Bool :=
  decide (e.kind = .conditionOn) && decide (e.condition.map Condition.severity = some .critical)

/-- The event queue, its overflow flag and the taken record (R152 to R154). -/
structure EventQueue where
  records : List Event
  overflow : Bool
  taken : Option Event
deriving DecidableEq, Repr

/-! ### Enrolment and proposals (section 6) -/

/-- How the last session ended (R119). -/
inductive Ending where
  | none
  | completed
  | abortedTool
  | cancelled
  | timedOut
  | moved
  | trailerLost
  | refused
  | frozen
deriving DecidableEq, Repr

def Ending.code : Ending → Nat
  | .none => 0
  | .completed => 1
  | .abortedTool => 2
  | .cancelled => 3
  | .timedOut => 4
  | .moved => 5
  | .trailerLost => 6
  | .refused => 7
  | .frozen => 8

/-- A pair of the pending list (6.4). -/
structure EnrolPair where
  row : Row
  id : SensorId
  source : Option Row
deriving DecidableEq, Repr

/-- An entry of the session duplicate memory (R46). -/
structure HeardCopy where
  id : SensorId
  sequence : BitVec 4
  arrival : Millis
deriving DecidableEq, Repr

/-- The state of ENC but for the episode records (R107, R46). `session` is CLOSED (`none`) or
WAITING(i) (`some i`). -/
structure Enrolment where
  walk : List Row
  session : Option Nat
  allowMove : Bool
  pairs : List EnrolPair
  stepDeadline : Option Millis
  lastEnding : Ending
  applied : Nat
  leftVacant : Nat
  proposal : Option (Row × SensorId)
  copies : List HeardCopy
deriving DecidableEq, Repr

/-- ENC after any reset (R107). -/
def Enrolment.reset : Enrolment :=
  { walk := [], session := Option.none, allowMove := false, pairs := [],
    stepDeadline := Option.none, lastEnding := .none, applied := 0, leftVacant := 0,
    proposal := Option.none, copies := [] }

/-- The episode record of a row (R107, R125). `dueTaken` is the MODEL's own: the row's becoming due has
been taken (log entry 9). -/
structure Episode where
  movingMs : Millis
  ambiguous : Bool
  rejected : List SensorId
  dueTaken : Bool
deriving DecidableEq, Repr

def Episode.reset : Episode :=
  { movingMs := 0, ambiguous := false, rejected := [], dueTaken := false }

/-! ### Vehicle data and operating states (section 7) -/

/-- A load as the body controller reports it (R133). -/
inductive LoadReport where
  | unladen
  | laden
  | tipping
  | unknown
deriving DecidableEq, Repr

/-- The reported load, the applied load and the settle state of one unit (R133, R137). -/
structure UnitLoad where
  reported : LoadReport
  applied : LoadState
  settle : Option (LoadState × Millis)
deriving DecidableEq, Repr

def UnitLoad.reset : UnitLoad :=
  { reported := .unknown, applied := .laden, settle := Option.none }

/-- The data status of VDM (R135). -/
inductive DataStatus where
  | waiting
  | present
  | lost
deriving DecidableEq, Repr

/-- The vehicle data record (R133). -/
structure VehicleData where
  speed : Option Nat
  truck : UnitLoad
  trailer : UnitLoad
  connected : Bool
  liftMask : BitVec 8
  ambient : Pu
  status : DataStatus
  frameDeadline : Option Millis
deriving DecidableEq, Repr

/-- VDM after any reset, with the frame timeout deadline given (R133). -/
def VehicleData.reset (deadline : Option Millis) : VehicleData :=
  { speed := Option.none, truck := .reset, trailer := .reset, connected := false, liftMask := 0,
    ambient := 203, status := .waiting, frameDeadline := deadline }

/-- The state of OSC (R143). The IGNITION level it has taken is `Lines.ignition`, and the session-open
flag is that of `Enrolment.session`. `deferredOffline` holds the tag of a deferred GO_OFFLINE. -/
structure Controller where
  state : OpState
  parkDelay : Option Millis
  parkPending : Bool
  activity : Option Millis
  deferredOffline : Option Byte
deriving DecidableEq, Repr

/-- OSC after any reset (R143). -/
def Controller.reset : Controller :=
  { state := .starting, parkDelay := Option.none, parkPending := false, activity := Option.none,
    deferredOffline := Option.none }

/-- The filtered levels of the three discrete inputs (R187). -/
structure Lines where
  ignition : Bool
  service : Bool
  crank : Bool
deriving DecidableEq, Repr

/-- Whether the part runs: powered and out of reset, held in reset by the RESET line, or without
supply (R187). -/
inductive Phase where
  | running
  | inReset
  | off
deriving DecidableEq, Repr

/-! ### The table store (section 8) -/

/-- The save states of 8.8. -/
inductive SaveState where
  | idle
  | writing
  | suspended
  | resuming
deriving DecidableEq, Repr

def SaveState.code : SaveState → Nat
  | .idle => 0
  | .writing => 1
  | .suspended => 2
  | .resuming => 3

/-- The state of TST but for the image (R157, R158). -/
structure Store where
  state : SaveState
  captured : Option Tables
  remaining : Millis
  resumeAt : Option Millis
  saveAgain : Bool
  dirty : Bool
  invalid : Bool
deriving DecidableEq, Repr

/-- TST after any reset, before the load (R158). The spec gives no reset value for the remaining write time, which counts only while
a save is in flight: it is 0 (DESIGN CHOICE, log entry 32). -/
def Store.reset : Store :=
  { state := .idle, captured := Option.none, remaining := 0, resumeAt := Option.none,
    saveAgain := false, dirty := false, invalid := false }

/-! ### Frames, requests and snapshots (sections 9 to 11) -/

/-- The result codes of R175. -/
inductive ResultCode where
  | ok
  | clamped
  | badFrame
  | badValue
  | inUse
  | guarded
  | busy
  | wrongState
  | notFound
deriving DecidableEq, Repr

def ResultCode.code : ResultCode → Nat
  | .ok => 0
  | .clamped => 1
  | .badFrame => 2
  | .badValue => 3
  | .inUse => 4
  | .guarded => 5
  | .busy => 6
  | .wrongState => 7
  | .notFound => 8

/-- The edit class of a request (10.1). -/
inductive EditClass where
  | notAnEdit
  | wheel
  | table
deriving DecidableEq, Repr

/-- An ALERT frame (R104). -/
structure AlertFrame where
  row : Row
  status : WheelStatus
  announced : ConditionSet
  pc : Pu
  pg : Pu
  temperature : Option Int
deriving DecidableEq, Repr

/-- A RESPONSE frame (10.1). `data` holds bytes 3..7. -/
structure ResponseFrame where
  code : Byte
  tag : Byte
  result : ResultCode
  data : List Byte
deriving DecidableEq, Repr

/-- A STATUS frame (R170). -/
structure StatusFrame where
  row : Row
  status : WheelStatus
  level : Severity
  pc : Pu
  pg : Pu
  temperature : Option Int
  flags : MeasFlags
deriving DecidableEq, Repr

/-- The content of a PART_STATUS frame (R171). -/
structure PartStatus where
  opState : OpState
  trailer : TrailerState
  dataLost : Bool
  storeInvalid : Bool
  dirty : Bool
  saveInFlight : Bool
  eventsWaiting : Bool
  eventOverflow : Bool
  requestOverrun : Bool
  jamMask : BitVec 4
  wheelsNone : Nat
  wheelsAdvisory : Nat
  wheelsWarning : Nat
  wheelsCritical : Nat
deriving DecidableEq, Repr

/-- A frame of the transmit queue, by class (R167). -/
inductive TxFrame where
  | alert (frame : AlertFrame)
  | response (frame : ResponseFrame)
  | status (frame : StatusFrame)
  | partStatus (frame : PartStatus)
deriving DecidableEq, Repr

/-- A frame in the transmit buffer, with the identifier and the data bytes of the attempt (R168). -/
structure Attempt where
  frame : TxFrame
  identifier : BitVec 11
  data : List Byte
deriving DecidableEq, Repr

/-- The link states of 9.2. -/
inductive LinkState where
  | searching
  | running
  | busQuiet
deriving DecidableEq, Repr

def LinkState.code : LinkState → Nat
  | .searching => 0
  | .running => 1
  | .busQuiet => 2

/-- A row record of a snapshot (R172). -/
structure SnapRow where
  id : SensorId
  status : WheelStatus
  level : Severity
  announcedLevel : Severity
  active : ConditionSet
  pc : Pu
  pg : Pu
  temperature : Option Int
  flags : MeasFlags
  rssi : Vector Byte 4
  raw : Pu
  lastMode : Option Mode
  leakRate : Nat
  sinceAccepted : Nat
deriving DecidableEq, Repr

/-- A row record that is not available (R172). -/
def SnapRow.notAvailable : SnapRow :=
  { id := 0, status := .vacant, level := .none, announcedLevel := .none, active := 0, pc := 4095,
    pg := 4095, temperature := Option.none, flags := .clear, rssi := Vector.replicate 4 0,
    raw := 4095, lastMode := Option.none, leakRate := 65535, sinceAccepted := 65535 }

/-- A snapshot buffer (R172). -/
structure SnapBuffer where
  rows : Vector SnapRow 32
  sequence : Nat
  time : Nat
deriving DecidableEq, Repr

def SnapBuffer.reset : SnapBuffer :=
  { rows := Vector.replicate 32 .notAvailable, sequence := 0, time := 0 }

/-- The three snapshot buffers by their roles, READY_NEW and the publish count (R172). -/
structure Snapshots where
  fill : SnapBuffer
  ready : SnapBuffer
  held : SnapBuffer
  readyNew : Bool
  count : Nat
deriving DecidableEq, Repr

def Snapshots.reset : Snapshots :=
  { fill := .reset, ready := .reset, held := .reset, readyNew := false, count := 0 }

/-- The state of LINK (section 9). `rate` is the bit rate in effect once it is fixed. -/
structure Link where
  state : LinkState
  searchRates : List BitRate
  searchIndex : Nat
  searchDeadline : Option Millis
  rate : Option BitRate
  failures : Nat
  quietDeadline : Option Millis
  alerts : List AlertFrame
  responses : List ResponseFrame
  statuses : List StatusFrame
  partStatus : Option PartStatus
  buffer : Option Attempt
  requests : List (List Byte)
  overrun : Bool
  reportDeadline : Option Millis
  partStatusDeadline : Option Millis
  snapshots : Snapshots
deriving DecidableEq, Repr

/-- The candidate list of rates of a bit-rate search (R164). -/
def searchList (preferred : BitRate) : List BitRate :=
  preferred :: [BitRate.k250, .k500, .k125, .k1000].filter (fun r => decide (r ≠ preferred))

/-- LINK with queues, FIFO, buffer and deadlines empty (R164, R166 to R168, R170 to R172), in the link
state given. -/
def Link.cleared (state : LinkState) (rate : Option BitRate) (rates : List BitRate)
    (deadline : Option Millis) : Link :=
  { state, searchRates := rates, searchIndex := 0, searchDeadline := deadline, rate, failures := 0,
    quietDeadline := Option.none, alerts := [], responses := [], statuses := [],
    partStatus := Option.none, buffer := Option.none, requests := [], overrun := false,
    reportDeadline := Option.none, partStatusDeadline := Option.none, snapshots := .reset }

/-- The state of MGU: the FROZEN flag and the tag of a deferred RESTART (R180, R161). The stored guard
level is `Tables.guardLevel`. -/
structure Management where
  frozen : Bool
  deferredRestart : Option Byte
deriving DecidableEq, Repr

end Sys2Proof.Machine
end

