-- ==== Sys2Proof/Config.lean ====
section
/-! DEFINITION. What an implementation fixes and the spec leaves open: free values with no body. -/

namespace Sys2Proof

/-- FREE VALUE (log entry 3). R158: how long a save takes within 150..600 ms "depends on the state of the
memory and is not known in advance". The argument is the model's counter of saves started. -/
opaque Config.writeTime : Nat → Nat

/-- FREE VALUE (log entry 4). R155: the image's CRC-16 runs over its content "taken in a fixed order",
which the spec does not give. These are the bits of that order. -/
opaque Config.imageBits : Machine.Tables → List Bool

/-- FREE VALUE (log entry 24). R187: the RSSI input "is converted linearly, ground giving 0 and the supply level giving 255"; how a
level between two results is rounded is not given. This says whether such a level gives the upper of the two. -/
opaque Config.rssiRoundsUp : BitVec 16 → Bool

end Sys2Proof
end

