-- ==== Sys2Proof/Machine/State.lean ====
section
/-! DEFINITION. The whole state of the TW32 as plain data, the reasons a command stops, and the state after
reset. -/

namespace Sys2Proof.Machine

/-- The state of the part. Trailer rows 20..31 and axle records 5..7 are a mirror of the identified roster
entry (R2, R7), so they are read through `trailer` and not held a second time. -/
structure State where
  /-- The part clock: milliseconds in 40 bits from cold reset (00_scope 4.3). -/
  clock : BitVec 40
  phase : Phase
  lines : Lines
  image : Image
  /-- The tables in use: every item of R155. -/
  tables : Tables
  lanes : Vector Lane 4
  /-- Records handed by lanes and not yet taken by TAU, in the order they were handed (R39, R43). -/
  handed : List TelegramRecord
  trailer : TrailerState
  /-- Expiry of the recognition window (R19). -/
  window : Option Millis
  recog : Vector RecogEntry 4
  candidates : List Candidate
  wheels : Vector WheelRecord 32
  enc : Enrolment
  episodes : Vector Episode 32
  vdm : VehicleData
  osc : Controller
  evq : EventQueue
  store : Store
  link : Link
  mgu : Management
  /-- The MODEL's own counter of saves started, which draws the free write times (log entry 3). -/
  saves : Nat
  /-- The commands waiting, first in first out: the block's driver, not the spec's state. -/
  pending : List Instr
deriving DecidableEq, Repr

/-- Why a command stops the model. -/
inductive Fault where
  /-- Raised by `execRequestFrame` and `execVehicleDataFrame` for a data field of more than 8 bytes: no such
  frame exists on a CAN bus (R165). Safe. -/
  | frameTooLong
deriving DecidableEq, Repr

/-- Why a command is refused. -/
inductive Refusal where
  /-- Raised by an arm of `exec` whose command has no meaning yet; no arm is left so. Safe. -/
  | notModelled (mnemonic : String)
deriving DecidableEq, Repr

/-- The outcome of a command. -/
abbrev Result := Host.Outcome State Fault Refusal

/-- The machine right after a cold reset with a blank image, all lines at rest (log entries 1 and 2): the tables
at their factory values, the store invalid and dirty, STORE_INVALID the one record in the event queue (R156), the
bit-rate search at its first candidate (R164), the frame timeout running (R133), and every row VACANT. -/
def State.reset : State :=
  { clock := 0
    phase := .running
    lines := { ignition := false, service := false, crank := false }
    image := .blank
    tables := .factory
    lanes := Vector.replicate 4 .reset
    handed := []
    trailer := .none
    window := Option.none
    recog := Vector.replicate 4 .empty
    candidates := []
    wheels := Vector.replicate 32 (.fresh .vacant)
    enc := .reset
    episodes := Vector.replicate 32 .reset
    vdm := .reset (some 1000)
    osc := .reset
    evq := { records := [{ kind := .storeInvalid, time := 0 }], overflow := false, taken := Option.none }
    store := { Store.reset with dirty := true, invalid := true }
    link := .cleared .searching Option.none (searchList .k250) (some 2000)
    mgu := { frozen := false, deferredRestart := Option.none }
    saves := 0
    pending := [] }

/-! ### One setter per field

Every operation changes the state through these; Laws/State.lean says what each leaves. -/

def State.setClock (s : State) (v : BitVec 40) : State := { s with clock := v }
def State.setPhase (s : State) (v : Phase) : State := { s with phase := v }
def State.setLines (s : State) (v : Lines) : State := { s with lines := v }
def State.setImage (s : State) (v : Image) : State := { s with image := v }
def State.setTables (s : State) (v : Tables) : State := { s with tables := v }
def State.setLanes (s : State) (v : Vector Lane 4) : State := { s with lanes := v }
def State.setHanded (s : State) (v : List TelegramRecord) : State := { s with handed := v }
def State.setTrailer (s : State) (v : TrailerState) : State := { s with trailer := v }
def State.setWindow (s : State) (v : Option Millis) : State := { s with window := v }
def State.setRecog (s : State) (v : Vector RecogEntry 4) : State := { s with recog := v }
def State.setCandidates (s : State) (v : List Candidate) : State := { s with candidates := v }
def State.setWheels (s : State) (v : Vector WheelRecord 32) : State := { s with wheels := v }
def State.setEnc (s : State) (v : Enrolment) : State := { s with enc := v }
def State.setEpisodes (s : State) (v : Vector Episode 32) : State := { s with episodes := v }
def State.setVdm (s : State) (v : VehicleData) : State := { s with vdm := v }
def State.setOsc (s : State) (v : Controller) : State := { s with osc := v }
def State.setEvq (s : State) (v : EventQueue) : State := { s with evq := v }
def State.setStore (s : State) (v : Store) : State := { s with store := v }
def State.setLink (s : State) (v : Link) : State := { s with link := v }
def State.setMgu (s : State) (v : Management) : State := { s with mgu := v }
def State.setSaves (s : State) (v : Nat) : State := { s with saves := v }
def State.setPending (s : State) (v : List Instr) : State := { s with pending := v }

end Sys2Proof.Machine
end

