-- ==== Sys2Proof/Machine/Flags.lean ====
section
/-! DEFINITION. Condition sets and every flag and level computed from them. -/

namespace Sys2Proof.Machine

/-- The one-condition set of `c` (R183). -/
def condBit (c : Condition) : ConditionSet := BitVec.twoPow 16 c.code.val

def hasCond (set : ConditionSet) (c : Condition) : Bool := set.getLsbD c.code.val

def addCond (set : ConditionSet) (c : Condition) : ConditionSet := set ||| condBit c

def dropCond (set : ConditionSet) (c : Condition) : ConditionSet := set &&& ~~~(condBit c)

/-- `set` with condition `c` made active or inactive. -/
def withCond (set : ConditionSet) (c : Condition) (on : Bool) : ConditionSet :=
  if on then addCond set c else dropCond set c

/-- Some condition of severity `v` stands in `set`. -/
def anyOf (v : Severity) (set : ConditionSet) : Bool :=
  Condition.all.any (fun c => decide (c.severity = v) && hasCond set c)

/-- The highest severity in a set of conditions, NONE when it is empty (R101, R103). -/
def highest (set : ConditionSet) : Severity :=
  if anyOf .critical set then .critical
  else if anyOf .warning set then .warning
  else if anyOf .advisory set then .advisory
  else .none

/-- The conditions whose severity is at least `v`. -/
def atLeast (v : Severity) : ConditionSet :=
  (Condition.all.filter (fun c => decide (v.code ≤ c.severity.code))).foldl addCond 0

/-- The announced condition set: every active condition not excluded and of severity at least announce_min
(R103). -/
def announcedOf (a : Announce) (active : ConditionSet) : ConditionSet :=
  active &&& ~~~a.exclude &&& atLeast a.minimum

/-- The alarm level of a wheel (R101). -/
def WheelRecord.alarmLevel (w : WheelRecord) : Severity := highest w.active

/-- The announced level of a wheel (R103). -/
def WheelRecord.announcedLevel (w : WheelRecord) : Severity := highest w.announced

/-- The exclusion mask of SET_ANNOUNCE has no bit above condition code 10 (R102). -/
def maskLegal (mask : ConditionSet) : Bool := decide (mask &&& 0xF800 = 0)

/-- A level at which WEVU repeats ALERT frames: WARNING or CRITICAL (R105). -/
def Severity.repeats : Severity → Bool
  | .warning | .critical => true
  | .none | .advisory => false

/-- The level qualifies for a repeat in the operating state: WARNING or CRITICAL in ACTIVE, CRITICAL in
PARK_WATCH (R105). -/
def repeatQualifies : OpState → Severity → Bool
  | .active, v => v.repeats
  | .parkWatch, v => decide (v = .critical)
  | _, _ => false

/-- Whether a change of announcement queues an ALERT frame (table of R103). -/
def alertDue (o : OpState) (before after : Severity) : Bool :=
  match o with
  | .active | .offline => true
  | .parkWatch => decide (before = .critical) || decide (after = .critical)
  | .starting | .dormant => false

/-- The measurement flags as one byte (R183). -/
def MeasFlags.byte (f : MeasFlags) : Byte :=
  BitVec.ofNat 8 (f.belowAmbient.toNat + 2 * f.overrange.toNat + 4 * f.tempUnavailable.toNat
    + 8 * f.sensorFaultSeen.toNat)

/-- The latched flags and the lane state as one byte of CLEAR_LANE_STATUS (R186). -/
def Lane.statusByte (l : Lane) : Byte :=
  BitVec.ofNat 8 (l.flags.crcFail.toNat + 2 * l.flags.runViolation.toNat + 4 * l.flags.malformed.toNat
    + 8 * l.flags.jam.toNat + 16 * l.state.code)

/-- The seven flags of the PART_STATUS frame as one byte (R185). -/
def PartStatus.flagsByte (p : PartStatus) : Byte :=
  BitVec.ofNat 8 (p.dataLost.toNat + 2 * p.storeInvalid.toNat + 4 * p.dirty.toNat
    + 8 * p.saveInFlight.toNat + 16 * p.eventsWaiting.toNat + 32 * p.eventOverflow.toNat
    + 64 * p.requestOverrun.toNat)

end Sys2Proof.Machine
end

