-- ==== Sys2Proof/Machine/Operands.lean ====
section
/-! DEFINITION. Reading and writing bytes: request arguments, telegram bodies, the two CRCs, and every frame
layout of section 11. -/

namespace Sys2Proof.Machine

/-! ### Bytes, most significant first (R183) -/

/-- The byte of a data field at an index, 0 where the field does not hold it. -/
def byteAt (data : List Byte) (i : Nat) : Byte := data.getD i 0

def natAt (data : List Byte) (i : Nat) : Nat := (byteAt data i).toNat

/-- A 16-bit field from byte `i`. -/
def natAt2 (data : List Byte) (i : Nat) : Nat := natAt data i * 256 + natAt data (i + 1)

/-- A 32-bit field from byte `i`. -/
def natAt4 (data : List Byte) (i : Nat) : Nat := natAt2 data i * 65536 + natAt2 data (i + 2)

def idAt (data : List Byte) (i : Nat) : SensorId := BitVec.ofNat 32 (natAt4 data i)

def be8 (n : Nat) : List Byte := [BitVec.ofNat 8 n]

def be16 (n : Nat) : List Byte := [BitVec.ofNat 8 (n / 256), BitVec.ofNat 8 n]

def be24 (n : Nat) : List Byte := BitVec.ofNat 8 (n / 65536) :: be16 n

def be32 (n : Nat) : List Byte := be16 (n / 65536) ++ be16 n

/-- A data field brought to `n` bytes: what a layout does not assign is sent as 0 (R183). -/
def pad (n : Nat) (data : List Byte) : List Byte := (data ++ List.replicate n 0).take n

/-- A temperature as its code, the value plus 50; 255 when not available (R183, 00_scope 4.2). -/
def tempCode : Option Int → Byte
  | some t => BitVec.ofInt 8 (t + 50)
  | none => 255

/-- A Pc and Pg pair in three bytes, 12 bits each (R183). -/
def packPair (pc pg : Pu) : List Byte := be24 (pc * 4096 + pg)

/-- Three 12-bit limits in five bytes, the last four bits 0 (R183). -/
def packLimits (a b c : Pu) : List Byte :=
  let n := ((a * 4096 + b) * 4096 + c) * 16
  be8 (n / 4294967296) ++ be32 n

/-- A count of seconds in 16 bits, 65535 for larger values and for absent (R183). -/
def seconds16 : Option Nat → Nat
  | some n => min n 65535
  | none => 65535

/-- An optional sensor ID on the wire: zero when there is none. -/
def idOrZero (id : Option SensorId) : SensorId := id.getD 0

/-! ### Sensor identities (00_scope 4.4) -/

/-- The ID lies in the tool block, 0xFFFFFF00..0xFFFFFFFF. -/
def inToolBlock (id : SensorId) : Bool := decide (0xFFFFFF00 ≤ id.toNat)

/-- An ID that a row, a slot or the candidate list may hold (R8). -/
def isSensor (id : SensorId) : Bool := decide (id ≠ 0) && !inToolBlock id

/-! ### CRC and telegram bodies (R35, R155, R184) -/

/-- One step of a CRC register: compare the most significant bit with the incoming bit, shift left filling with
0, and combine with the polynomial when the compared bits differed (R35). -/
def crcStep {w : Nat} (poly reg : BitVec w) (bit : Bool) : BitVec w :=
  let shifted := reg <<< 1
  if reg.msb = bit then shifted else shifted ^^^ poly

/-- The CRC-8 of the lanes: x^8 + x^2 + x + 1, preset 0xFF, no final inversion (R35). -/
def crc8 (bits : List Bool) : BitVec 8 := bits.foldl (crcStep 0x07) 0xFF

/-- The CRC-16 of the image: x^16 + x^12 + x^5 + 1, preset 0xFFFF, no final inversion (R155). -/
def crc16 (bits : List Bool) : BitVec 16 := bits.foldl (crcStep 0x1021) 0xFFFF

/-- The number a run of bits spells, first bit most significant. -/
def bitsNat (bits : List Bool) : Nat := bits.foldl (fun n b => 2 * n + b.toNat) 0

/-- `n` bits of a body from bit `i`, in the order received. -/
def field (bits : List Bool) (i n : Nat) : Nat := bitsNat ((bits.drop i).take n)

/-- The bits of a byte, most significant first. -/
def byteBits (b : Byte) : List Bool := [7, 6, 5, 4, 3, 2, 1, 0].map b.getLsbD

def Mode.ofCode : Nat → Mode
  | 0 => .rolling
  | 1 => .parked
  | 2 => .triggered
  | _ => .alert

/-- The CRC computed over the first 64 de-stuffed bits equals the ninth body byte (R35). -/
def crcGood (body : List Bool) : Bool := decide ((crc8 (body.take 64)).toNat = field body 64 8)

/-- The ID is zero or an upper bit of the pressure field is set (R36). -/
def malformedBody (body : List Bool) : Bool :=
  decide (field body 0 32 = 0) || decide (field body 40 4 ≠ 0)

/-- The telegram record of a body (R37, R39; layout of R184). -/
def recordOf (lane : LaneNo) (rssi : Byte) (arrival : Millis) (body : List Bool) : TelegramRecord :=
  { lane, rssi, arrival
    id := BitVec.ofNat 32 (field body 0 32)
    mode := Mode.ofCode (field body 32 2)
    batteryLow := decide (field body 34 1 = 1)
    fault := decide (field body 35 1 = 1)
    sequence := BitVec.ofNat 4 (field body 36 4)
    pressure := BitVec.ofNat 12 (field body 44 12)
    temperature := BitVec.ofNat 8 (field body 56 8) }

/-! ### Frames sent by the part (R185, R186) -/

/-- The status-and-level byte of a frame that carries one level (R183). -/
def statusLevel (status : WheelStatus) (level : Severity) : Nat := status.code * 16 + level.code

/-- The status-and-level byte with both levels (R183). -/
def statusLevels (status : WheelStatus) (alarm announced : Severity) : Nat :=
  status.code * 16 + alarm.code * 4 + announced.code

/-- Bytes 0..3 of a PART_STATUS frame (R185). -/
def PartStatus.head (p : PartStatus) : List Byte :=
  [BitVec.ofNat 8 (p.trailer.code * 16 + p.opState.code),
    match p.trailer.entry? with
    | some k => BitVec.ofNat 8 k.val
    | none => 255,
    p.flagsByte, BitVec.ofNat 8 p.jamMask.toNat]

/-- Bytes 4..7 of a PART_STATUS frame (R185). -/
def PartStatus.counts (p : PartStatus) : List Byte :=
  [p.wheelsNone, p.wheelsAdvisory, p.wheelsWarning, p.wheelsCritical].map (BitVec.ofNat 8)

/-- The eight data bytes of a frame (R185, R186). -/
def TxFrame.data : TxFrame → List Byte
  | .alert f =>
    be8 f.row.val ++ be8 (statusLevel f.status (highest f.announced)) ++ be16 f.announced.toNat
      ++ packPair f.pc f.pg ++ [tempCode f.temperature]
  | .response f => pad 8 ([f.code, f.tag, BitVec.ofNat 8 f.result.code] ++ f.data)
  | .status f =>
    pad 8 (be8 f.row.val ++ be8 (statusLevel f.status f.level) ++ packPair f.pc f.pg
      ++ [tempCode f.temperature, f.flags.byte])
  | .partStatus p => p.head ++ p.counts

/-- The identifier of a frame from the node base (R163). -/
def TxFrame.identifier (base : BitVec 11) : TxFrame → BitVec 11
  | .alert _ => base
  | .response _ => base + 1
  | .status _ => base + 2
  | .partStatus _ => base + 3

/-! ### Request frames (R186) -/

/-- The codes of a layout, a liftable flag and a near lane checked and read as SET_AXLE and ROSTER_WRITE carry
them in four bytes from byte `i` (R4). -/
def axleAt (data : List Byte) (i : Nat) : Option AxleRecord :=
  let layout? : Option Layout :=
    match natAt data i with
    | 0 => some .absent
    | 1 => some .single
    | 2 => some .dual
    | _ => none
  let g := natAt data (i + 1)
  let l := natAt data (i + 2)
  let n := natAt data (i + 3)
  match layout? with
  | none => none
  | some layout =>
    if hg : g < 8 then
      if hn : n < 4 then
        if l ≤ 1 then
          some { layout, group := ⟨g, hg⟩, liftable := decide (l = 1), nearLane := ⟨n, hn⟩ }
        else none
      else none
    else none

/-- The four fields of an axle record as READ_AXLE and ROSTER_READ carry them (R186). -/
def AxleRecord.bytes (a : AxleRecord) : List Byte :=
  be8 a.layout.code ++ be8 a.group.val ++ be8 a.liftable.toNat ++ be8 a.nearLane.val

/-- A bounded index from a byte: none when the byte is out of range. -/
def indexAt (n : Nat) (data : List Byte) (i : Nat) : Option (Fin n) :=
  if h : natAt data i < n then some ⟨natAt data i, h⟩ else none

/-- The items of a roster entry, with the selector codes of R186. -/
inductive RosterItem where
  | tag
  | axle (a : Fin 3)
  | slot (s : SlotNo)
deriving DecidableEq, Repr

/-- The roster item a selector byte names (R186): TAG 0, AXLE 1..3, SLOT 16..27. -/
def rosterItem (sel : Nat) : Option RosterItem :=
  if sel = 0 then some .tag
  else if h : 1 ≤ sel ∧ sel ≤ 3 then some (.axle ⟨sel - 1, by omega⟩)
  else if h : 16 ≤ sel ∧ sel ≤ 27 then some (.slot ⟨sel - 16, by omega⟩)
  else none

/-- The bit rates by the codes of R179. -/
def bitRateOf : Nat → Option BitRate
  | 0 => some .k125
  | 1 => some .k250
  | 2 => some .k500
  | 3 => some .k1000
  | _ => none

def guardLevelOf : Nat → Option GuardLevel
  | 0 => some .openLevel
  | 1 => some .service
  | 2 => some .fleet
  | _ => none

/-- The severities announce_min may take (R102). -/
def announceMinOf : Nat → Option Severity
  | 1 => some .advisory
  | 2 => some .warning
  | 3 => some .critical
  | _ => none

/-- The load codes of the vehicle data frame; a byte above 3 is UNKNOWN (R134, R183). -/
def loadReportOf : Nat → LoadReport
  | 0 => .unladen
  | 1 => .laden
  | 2 => .tipping
  | _ => .unknown

def loadStateOf : Nat → Option LoadState
  | 0 => some .unladen
  | 1 => some .laden
  | _ => none

/-- The settings by item code (10.3). -/
def settingOf : Nat → Option Setting
  | 0 => some .duplicateWindowMs
  | 1 => some .candidateAgeS
  | 2 => some .recognitionWindowS
  | 3 => some .staleMovingS
  | 4 => some .missingMovingS
  | 5 => some .staleParkedS
  | 6 => some .missingParkedS
  | 7 => some .movingSpeedKmh
  | 8 => some .persistN
  | 9 => some .alertRepeatS
  | 10 => some .stepTimeoutS
  | 11 => some .proposalDelayS
  | 12 => some .vehicleDataTimeoutMs
  | 13 => some .loadSettleS
  | 14 => some .parkDelayS
  | 15 => some .dormantDelayS
  | 16 => some .reportPeriodS
  | 17 => some .partStatusPeriodS
  | 18 => some .laneEnableMask
  | 19 => some .parkLane
  | 20 => some .activityMask
  | _ => none

/-- The request codes and edit classes of the table of 10.1; none for an unknown code. -/
def requestClass (code : Nat) : Option EditClass :=
  if code ∈ [0x07, 0x09, 0x0A, 0x10, 0x20, 0x21, 0x23] then some .table
  else if code ∈ [0x12, 0x13, 0x15, 0x17, 0x29, 0x2C] then some .wheel
  else if code ∈ [0x01, 0x02, 0x03, 0x04, 0x05, 0x06, 0x08, 0x0B, 0x11, 0x14, 0x16, 0x18, 0x22, 0x28, 0x2A,
    0x2B, 0x2D, 0x30, 0x31, 0x32, 0x38, 0x39] then some .notAnEdit
  else none

end Sys2Proof.Machine
end

