-- ==== Sys2Proof/Machine/Ops.lean ====
section
/-! DEFINITION. The named operations every chapter shares: the clock, reading the tables, rows and axles, raising an
event, queueing frames, notices of activity, and starting a save. -/

namespace Sys2Proof.Machine

/-! ### Clock, settings, and the parts of the state by number -/

/-- The part clock as a number of milliseconds. -/
def State.now (s : State) : Millis := s.clock.toNat

/-- A deadline that is present and whose moment has come. -/
def due (s : State) (d : Option Millis) : Bool := d.any (fun t => decide (t ≤ s.now))

def State.setting (s : State) (k : Setting) : Nat := s.tables.settings[k.item]

def State.wheel (s : State) (r : Row) : WheelRecord := s.wheels[r]

def putWheel (r : Row) (w : WheelRecord) (s : State) : State := s.setWheels (s.wheels.set r w)

def State.episode (s : State) (r : Row) : Episode := s.episodes[r]

def putEpisode (r : Row) (e : Episode) (s : State) : State := s.setEpisodes (s.episodes.set r e)

def State.lane (s : State) (l : LaneNo) : Lane := s.lanes[l]

def putLane (l : LaneNo) (v : Lane) (s : State) : State := s.setLanes (s.lanes.set l v)

/-- The rows, ascending. -/
def allRows : List Row := List.finRange 32

/-- The trailer rows 20..31, ascending. -/
def trailerRows : List Row := allRows.filter (fun r => decide (20 ≤ r.val))

/-- Every wheel record replaced by a function of its row and content. -/
def mapWheels (f : Row → WheelRecord → WheelRecord) (s : State) : State :=
  s.setWheels (Vector.ofFn fun r => f r (s.wheel r))

/-- A list of rows, each acted on in turn. -/
def forRows (f : Row → State → State) (rows : List Row) (s : State) : State :=
  rows.foldl (fun s r => f r s) s

/-- The session is open: state WAITING at some step (R45). -/
def sessionOpen (s : State) : Bool := s.enc.session.isSome

/-- A save is in flight: any save state other than IDLE (8.8). -/
def saveInFlight (s : State) : Bool := decide (s.store.state ≠ .idle)

/-- The vehicle is moving: speed known and greater than moving_speed_kmh (R52, R141). -/
def moving (s : State) : Bool := s.vdm.speed.any (fun v => decide (s.setting .movingSpeedKmh < v))

/-- The difference of two numbers, taken without sign (R47, R92). -/
def absDiff (a b : Nat) : Nat := (a - b) + (b - a)

/-! ### Rows, axles and slots (R2, R6, R7) -/

/-- The axle index of a row. Trailer row 20 begins axle 5, so one division gives both halves of R6. -/
def rowAxle (r : Row) : AxleNo := ⟨r.val / 4, by omega⟩

/-- The place of a row across its axle (R6). -/
def rowPlace (r : Row) : Nat := r.val % 4

/-- The rows of an axle, ascending. -/
def axleRows (a : AxleNo) : List Row := allRows.filter (fun r => decide (rowAxle r = a))

def isTrailerRow (r : Row) : Bool := decide (20 ≤ r.val)

/-- The slot a trailer row mirrors (R6); slot 0 for a truck row, which mirrors none. -/
def rowSlot (r : Row) : SlotNo := ⟨r.val - 20, by omega⟩

/-- The row a slot is mirrored by (R6). -/
def slotRow (t : SlotNo) : Row := ⟨20 + t.val, by omega⟩

/-- The axle record of a roster entry that a slot belongs to (R6). -/
def slotAxle (t : SlotNo) : Fin 3 := ⟨t.val / 4, by omega⟩

/-- The roster entry now identified. -/
def identifiedEntry (s : State) : Option RosterEntry := s.trailer.entry?.map (fun k => s.tables.roster[k])

/-- The axle record at an axle index: stored for the truck, mirrored for the trailer while an entry is identified,
the free-axle value otherwise (R2). -/
def axleOf (s : State) (a : AxleNo) : AxleRecord :=
  if h : a.val < 5 then s.tables.axles[a.val]
  else
    match s.trailer with
    | .identified k => s.tables.roster[k].axles[a.val - 5]
    | _ => .free

/-- The ID a row holds: stored for the truck, mirrored for the trailer (R7). -/
def rowId (s : State) (r : Row) : Option SensorId :=
  if h : r.val < 20 then s.tables.rows[r.val]
  else
    match s.trailer with
    | .identified k => s.tables.roster[k].slots[r.val - 20]
    | _ => none

/-- A place can carry a wheel under a layout (R6). -/
def placeUsable (layout : Layout) (place : Nat) : Bool :=
  match layout with
  | .absent => false
  | .single => decide (place = 0) || decide (place = 3)
  | .dual => true

def rowUsable (s : State) (r : Row) : Bool := placeUsable (axleOf s (rowAxle r)).layout (rowPlace r)

def slotUsable (e : RosterEntry) (t : SlotNo) : Bool := placeUsable e.axles[slotAxle t].layout (t.val % 4)

/-- Replace an entry of the roster. -/
def putEntry (k : EntryNo) (e : RosterEntry) (s : State) : State :=
  s.setTables { s.tables with roster := s.tables.roster.set k e }

/-- Write or empty a row: the stored row of the truck, or the slot of the identified entry (R7, R10). -/
def writeRowId (r : Row) (id : Option SensorId) (s : State) : State :=
  if h : r.val < 20 then s.setTables { s.tables with rows := s.tables.rows.set r.val id }
  else
    match s.trailer with
    | .identified k =>
      let e := s.tables.roster[k]
      putEntry k { e with slots := e.slots.set (r.val - 20) id } s
    | _ => s

/-- The truck rows that hold an ID. -/
def truckRowsWith (s : State) (id : SensorId) : List Row :=
  allRows.filter (fun r => decide (r.val < 20) && decide (rowId s r = some id))

/-- The roster slots that hold an ID, as entry and slot. -/
def slotsWith (s : State) (id : SensorId) : List (EntryNo × SlotNo) :=
  (List.finRange 4).flatMap fun k =>
    ((List.finRange 12).filter fun t => decide (s.tables.roster[k].slots[t] = some id)).map fun t => (k, t)

/-- The ID is held elsewhere for a write into slot `t` of entry `k` (R8). -/
def heldElsewhereSlot (s : State) (k : EntryNo) (t : SlotNo) (id : SensorId) : Bool :=
  !(truckRowsWith s id).isEmpty || (slotsWith s id).any (fun p => decide (p ≠ (k, t)))

/-- The ID is held elsewhere for a write into row `r` (R8). -/
def heldElsewhereRow (s : State) (r : Row) (id : SensorId) : Bool :=
  if r.val < 20 then (truckRowsWith s id).any (fun q => decide (q ≠ r)) || !(slotsWith s id).isEmpty
  else
    match s.trailer with
    | .identified k => heldElsewhereSlot s k (rowSlot r) id
    | _ => false

/-- The row that holds an ID: a truck row, or a trailer row while the trailer is identified (R44). -/
def rowHolding (s : State) (id : SensorId) : Option Row :=
  allRows.find? (fun r => decide (rowId s r = some id))

/-! ### Dual pairs and raised axles -/

/-- The dual partner of a row: place 0 with 1, place 2 with 3 (00_scope 4.5). -/
def partner (r : Row) : Row := if r.val % 2 = 0 then ⟨(r.val + 1) % 32, by omega⟩ else ⟨r.val - 1, by omega⟩

/-- The outer row of a pair, which keeps the shared counter (R95). -/
def outerRow (r : Row) : Row := if rowPlace r = 0 ∨ rowPlace r = 3 then r else partner r

/-- An axle is raised when its liftable flag is yes and its bit in the lift mask is set (R81). -/
def raisedAxle (s : State) (a : AxleNo) : Bool := (axleOf s a).liftable && s.vdm.liftMask.getLsbD a.val

def raisedRow (s : State) (r : Row) : Bool := raisedAxle s (rowAxle r)

/-- The threshold group of a row's axle record (R61, R75). -/
def groupOf (s : State) (r : Row) : ThresholdGroup := s.tables.groups[(axleOf s (rowAxle r)).group]

def unitOfRow (r : Row) : UnitName := if r.val < 20 then .truck else .trailer

def unitLoad (s : State) : UnitName → UnitLoad
  | .truck => s.vdm.truck
  | .trailer => s.vdm.trailer

/-! ### Events (R151 to R153) -/

/-- Remove the oldest record that is not a critical entry; none when every record is critical (R153). -/
def dropOldestOrdinary : List Event → Option (List Event)
  | [] => none
  | e :: rest => if e.critical then (dropOldestOrdinary rest).map (fun l => e :: l) else some rest

/-- The queue holds at most 64 records (R152). -/
def eventCapacity : Nat := 64

/-- An event record enters the queue (R152, R153). -/
def pushEvent (e : Event) (q : EventQueue) : EventQueue :=
  if q.records.length < eventCapacity then { q with records := q.records ++ [e] }
  else if e.critical then
    match dropOldestOrdinary q.records with
    | some rest => { q with records := rest ++ [e], overflow := true }
    | none => { q with overflow := true }
  else { q with overflow := true }

/-- Raise an event at the present moment (R151: the time is the part clock in whole seconds). -/
def raiseEvent (kind : EventKind) (row : Option Row) (value : Option Nat) (s : State) : State :=
  s.setEvq (pushEvent { kind, row, value := value.map (BitVec.ofNat 32), time := s.now / 1000 } s.evq)

/-- Raise CONDITION_ON or CONDITION_OFF for a row, with its alarm level after the change and its Pc (R96). -/
def raiseCondition (r : Row) (c : Condition) (on : Bool) (s : State) : State :=
  let w := s.wheel r
  s.setEvq (pushEvent
    { kind := if on then .conditionOn else .conditionOff, row := some r, condition := some c,
      level := some w.alarmLevel, value := some (BitVec.ofNat 32 w.pc), time := s.now / 1000 } s.evq)

/-! ### Activity (R146) -/

/-- The classes of activity, with the mask bits of R146. -/
inductive Activity where
  | telegramChange
  | request
  | critical
  | vehicleFrame
deriving DecidableEq, Repr

def Activity.bit : Activity → Nat
  | .telegramChange => 0
  | .request => 1
  | .critical => 2
  | .vehicleFrame => 3

/-- A notice of activity: in PARK_WATCH, a class named in the activity mask sets the activity deadline anew (R146). -/
def notice (a : Activity) (s : State) : State :=
  if s.osc.state = .parkWatch ∧ (s.setting .activityMask).testBit a.bit then
    s.setOsc { s.osc with activity := some (s.now + s.setting .dormantDelayS * 1000) }
  else s

/-! ### The transmit queue (R167) -/

/-- Replace the frame that has the same key, in its place, or join at the newest end (R167). -/
def replaceOrJoin {α : Type} (same : α → Bool) (x : α) : List α → List α
  | [] => [x]
  | y :: rest => if same y then x :: rest else y :: replaceOrJoin same x rest

/-- The ALERT frame of a row from its wheel record (R104). -/
def alertOf (r : Row) (w : WheelRecord) : AlertFrame :=
  { row := r, status := w.status, announced := w.announced, pc := w.pc, pg := w.pg, temperature := w.temperature }

/-- Queue an ALERT frame with the row's present content (R104, R167). -/
def queueAlert (r : Row) (s : State) : State :=
  s.setLink { s.link with
    alerts := replaceOrJoin (fun f => decide (f.row = r)) (alertOf r (s.wheel r)) s.link.alerts }

/-- The STATUS frame of a row from its wheel record (R170). -/
def statusOf (r : Row) (w : WheelRecord) : StatusFrame :=
  { row := r, status := w.status, level := w.alarmLevel, pc := w.pc, pg := w.pg, temperature := w.temperature,
    flags := w.flags }

def queueStatus (r : Row) (s : State) : State :=
  s.setLink { s.link with
    statuses := replaceOrJoin (fun f => decide (f.row = r)) (statusOf r (s.wheel r)) s.link.statuses }

/-- The lanes in JAMMED, one bit a lane (R42). Bit l of this mask, as of every lane mask, stands for lane l (DESIGN CHOICE, log
entry 35). -/
def jamMask (s : State) : BitVec 4 :=
  (List.finRange 4).foldl
    (fun m l => if (s.lane l).state.code = 3 then m ||| BitVec.twoPow 4 l.val else m) 0

/-- The number of wheels at an alarm level (R171). -/
def wheelsAt (s : State) (v : Severity) : Nat := (allRows.filter fun r => decide ((s.wheel r).alarmLevel = v)).length

/-- The content of R171, read from its owners. -/
def partStatusOf (s : State) : PartStatus :=
  { opState := s.osc.state, trailer := s.trailer
    dataLost := decide (s.vdm.status = .lost)
    storeInvalid := s.store.invalid, dirty := s.store.dirty, saveInFlight := saveInFlight s
    eventsWaiting := !s.evq.records.isEmpty, eventOverflow := s.evq.overflow
    requestOverrun := s.link.overrun, jamMask := jamMask s
    wheelsNone := wheelsAt s .none, wheelsAdvisory := wheelsAt s .advisory
    wheelsWarning := wheelsAt s .warning, wheelsCritical := wheelsAt s .critical }

/-- Queue a PART_STATUS frame, replacing the unsent one (R167, R171). -/
def queuePartStatus (s : State) : State := s.setLink { s.link with partStatus := some (partStatusOf s) }

/-- Queue a RESPONSE frame (R174). -/
def respond (code tag : Byte) (result : ResultCode) (data : List Byte) (s : State) : State :=
  s.setLink { s.link with responses := s.link.responses ++ [{ code, tag, result, data := pad 5 data }] }

/-! ### The table store (R157, R158) -/

/-- An edit that changed stored content sets the dirty flag (R157). -/
def markDirty (s : State) : State := s.setStore { s.store with dirty := true }

/-- The write time a save needs: 150..600 ms, not known in advance (R158). FREE VALUE within its bounds. -/
def writeTimeOf (n : Nat) : Millis := 150 + Config.writeTime n % 451

/-- The start of a save: capture the content, clear the dirty flag, and write, or wait for the end of a crank
(R158). -/
def startSave (s : State) : State :=
  (s.setStore { s.store with
    state := if s.lines.crank then .suspended else .writing
    captured := some s.tables, remaining := writeTimeOf s.saves, resumeAt := none, dirty := false }).setSaves
      (s.saves + 1)

/-- An automatic request for a save: start one in IDLE, else set save-again (R158). -/
def requestSave (s : State) : State :=
  if s.store.state = .idle then startSave s else s.setStore { s.store with saveAgain := true }

/-- An image is valid when the CRC over its content equals the CRC it carries (R155). -/
def imageValid : Image → Bool
  | .written content crc => decide (crc16 (Config.imageBits content) = crc)
  | .blank | .cutShort => false

/-- An image as a completed save writes it, with its CRC (R160). -/
def imageOf (content : Tables) : Image := .written content (crc16 (Config.imageBits content))

/-- Supply or RESET lost while a save is in flight leaves the image invalid (R162). -/
def cutSave (s : State) : State := if saveInFlight s then s.setImage .cutShort else s

/-! ### The guard (R180) -/

/-- Whether the guard allows an edit of a class, reading the SERVICE line now (R180). -/
def guardAllows (s : State) : EditClass → Bool
  | .notAnEdit => true
  | .wheel =>
    !s.mgu.frozen &&
      match s.tables.guardLevel with
      | .openLevel => true
      | .service | .fleet => s.lines.service
  | .table =>
    !s.mgu.frozen &&
      match s.tables.guardLevel with
      | .openLevel => true
      | .service => s.lines.service
      | .fleet => false

/-- A command that the part can act on only while it is powered and out of reset (R187); otherwise nothing
happens. -/
def whileRunning (f : State → State) (s : State) : Result :=
  if s.phase = .running then .next (f s) else .next s

end Sys2Proof.Machine
end

