-- ==== Sys2Proof/Machine/Arithmetic.lean ====
section
/-! DEFINITION. Section 4: cold-equivalent and hot gauge pressure, the trend ring, the leak rate and the derived limits. -/

namespace Sys2Proof.Machine

/-- The kinds of measurement (R59). -/
inductive MeasKind where
  | fault
  | tempUnavailable
  | ordinary
deriving DecidableEq, Repr

/-- The kind of a measurement (R59). -/
def measKind (t : TelegramRecord) : MeasKind :=
  if t.pressure.toNat = 4094 ∨ t.pressure.toNat = 4095 ∨ t.fault then .fault
  else if t.temperature.toNat = 255 then .tempUnavailable
  else .ordinary

/-- The temperature recorded: the code minus 50, not available for code 255 (R62, R63, R67). -/
def measTemp (code : Byte) : Option Int := if code.toNat = 255 then none else some ((code.toNat : Int) - 50)

/-- The reference temperature in kelvin; Tref lies in −20..60 °C, so it is positive (R61). -/
def kref (tref : Int) : Nat := (tref + 273).toNat

/-- The measured temperature in kelvin: the code plus 223, or Kref when the temperature is unavailable (R62, R63). -/
def kmeas (tref : Int) (code : Byte) : Nat := if code.toNat = 255 then kref tref else code.toNat + 223

/-- The cold absolute pressure, rounded to the nearest with halves up (R64). -/
def pcold (pabs kr km : Nat) : Nat := (pabs * kr + km / 2) / km

/-- The clamp of a gauge pressure into 0..4000 (R66). -/
def clampGauge (p : Int) : Pu := if p < 0 then 0 else if 4000 < p then 4000 else p.toNat

/-- What a measurement writes: Pc, Pg, the temperature and the flags but for SENSOR_FAULT_SEEN (R60 to R67). -/
structure Computed where
  pc : Pu
  pg : Pu
  temperature : Option Int
  belowAmbient : Bool
  overrange : Bool
  tempUnavailable : Bool
  fault : Bool
deriving DecidableEq, Repr

/-- The measurement flags after a measurement: SENSOR_FAULT_SEEN stays set once set (R66, R67). -/
def Computed.flags (x : Computed) (held : MeasFlags) : MeasFlags :=
  { belowAmbient := x.belowAmbient
    overrange := x.overrange
    tempUnavailable := x.tempUnavailable
    sensorFaultSeen := held.sensorFaultSeen || x.fault }

/-- The four stages of 4.2, or the fault measurement of R67, with the ambient pressure and the reference temperature
in force. -/
def compute (ambient : Pu) (tref : Int) (t : TelegramRecord) : Computed :=
  let temp := measTemp t.temperature
  match measKind t with
  | .fault =>
    { pc := 4094, pg := 4094, temperature := temp, belowAmbient := false
      overrange := decide (t.pressure.toNat = 4094), tempUnavailable := temp.isNone, fault := true }
  | _ =>
    let cold : Int := (pcold t.pressure.toNat (kref tref) (kmeas tref t.temperature) : Int) - ambient
    let hot : Int := (t.pressure.toNat : Int) - ambient
    { pc := clampGauge cold, pg := clampGauge hot, temperature := temp
      belowAmbient := decide (cold < 0) || decide (hot < 0)
      overrange := decide (4000 < cold) || decide (4000 < hot)
      tempUnavailable := temp.isNone, fault := false }

/-! ### The trend ring (R69 to R73) -/

/-- A sample more than 3,600 s older than a moment is removed by age (R70). -/
def ringKeeps (arrival : Millis) (x : Sample) : Bool := decide (arrival ≤ x.time + 3600000)

/-- What step 3 of R68 does with the ring: the ring after it, and whether a refill was found. -/
structure RingStep where
  ring : List Sample
  refill : Bool
deriving DecidableEq, Repr

/-- The ring holds a sample whose time is not earlier than the arrival, so nothing is appended (R70). -/
def ringBlocks (ring : List Sample) (arrival : Millis) : Bool :=
  ring.getLast?.any (fun x => decide (arrival ≤ x.time))

/-- The update of the ring with a new sample: removal by age, the refill test, removal by capacity, the append
(R70 to R72). -/
def ringAdd (ring : List Sample) (x : Sample) : RingStep :=
  if ringBlocks ring x.time then { ring, refill := false }
  else
    let kept := ring.filter (ringKeeps x.time)
    if kept.getLast?.any (fun y => decide (y.pc + 20 < x.pc)) then { ring := [x], refill := true }
    else { ring := (if kept.length < 8 then kept else kept.drop (kept.length - 7)) ++ [x], refill := false }

/-- The leak rate of a ring in pu per ten minutes; none below 4 samples or 120 s; a rise counts as 0 (R73). -/
def ringRate (ring : List Sample) : Option Nat :=
  match ring.head?, ring.getLast? with
  | some oldest, some newest =>
    let span := newest.time - oldest.time
    if 4 ≤ ring.length ∧ 120000 ≤ span then some ((oldest.pc - newest.pc) * 600 / (span / 1000)) else none
  | _, _ => none

/-! ### Limits (R75, R76) -/

def ThresholdGroup.limits (g : ThresholdGroup) : LoadState → PressureLimits
  | .unladen => g.unladen
  | .laden => g.laden

def lowWarnLimit (p : PressureLimits) : Pu := p.target - p.target * p.lw / 256

def lowCritLimit (p : PressureLimits) : Pu := p.target - p.target * p.lc / 256

def highWarnLimit (p : PressureLimits) : Pu := min 4000 (p.target + p.target * p.hw / 256)

/-- The pressure limit record in force for a row: its group, and the applied load of its unit (R75). -/
def limitsOf (s : State) (r : Row) : PressureLimits := (groupOf s r).limits (unitLoad s (unitOfRow r)).applied

end Sys2Proof.Machine
end

