-- ==== Sys2Proof/Machine/Wheels.lean ====
section
/-! DEFINITION. Section 5: announcements, freshness, restarts, the conditions, measurements, lift axles and
re-evaluation; and the three wheel timers and the limit requests' effects. -/

namespace Sys2Proof.Machine

/-! ### Announcement (R103, R105) -/

/-- Queue an ALERT frame and set the repeat deadline: outside OFFLINE, while the announced level is WARNING or
CRITICAL (R105; log entry 12). -/
def announceAlert (r : Row) (s : State) : State :=
  let s := queueAlert r s
  let w := s.wheel r
  if s.osc.state = .offline then s
  else putWheel r { w with repeatAt := if w.announcedLevel.repeats then some (s.now + s.setting .alertRepeatS * 1000) else none } s

/-- Work out a row's announced set and level anew; a change is recorded, and announced by an ALERT frame subject to
the operating state. A change that brings the level below WARNING makes the repeat deadline absent (R103, R105). -/
def reannounce (r : Row) (s : State) : State :=
  let w := s.wheel r
  let set := announcedOf s.tables.announce w.active
  if set = w.announced then s
  else
    let s := putWheel r { w with
      announced := set, repeatAt := if (highest set).repeats then w.repeatAt else none } s
    if alertDue s.osc.state (highest w.announced) (highest set) then announceAlert r s else s

/-! ### Freshness (R81 to R86) -/

/-- The wheel uses the moving timing set: the vehicle moves and the axle is not raised (R81). -/
def usesMoving (s : State) (r : Row) : Bool := moving s && !raisedRow s r

def staleMs (s : State) (r : Row) : Millis :=
  s.setting (if usesMoving s r then .staleMovingS else .staleParkedS) * 1000

def missingMs (s : State) (r : Row) : Millis :=
  s.setting (if usesMoving s r then .missingMovingS else .missingParkedS) * 1000

/-- A status that holds a missing deadline in ACTIVE (R82). -/
def holdsMissing : WheelStatus → Bool
  | .awaiting | .live | .stale => true
  | .vacant | .missing => false

/-- The deadlines of a status from a freshness base, with the set in use (R82). -/
def withDeadlines (s : State) (r : Row) (base : Millis) (w : WheelRecord) : WheelRecord :=
  { w with
    base := some base
    staleAt := if w.status = .live then some (base + staleMs s r) else none
    missingAt := if holdsMissing w.status then some (base + missingMs s r) else none }

/-- The stale expiry of a LIVE wheel (R84). -/
def goStale (r : Row) (s : State) : State :=
  let w := s.wheel r
  putWheel r { w with status := .stale, staleAt := none } s

/-- A condition of a row becomes active or inactive: its counter becomes 0, its event is raised with the alarm level
after the change, and a CRITICAL entry is activity (R93, R96, R106). -/
def setCondition (r : Row) (c : Condition) (on : Bool) (s : State) : State :=
  let w := s.wheel r
  let s := putWheel r { w with active := withCond w.active c on, counters := w.counters.set c.code 0 } s
  let s := raiseCondition r c on s
  if on ∧ c.severity = .critical then notice .critical s else s

/-- Clear a condition if it is active. -/
def clearIfActive (r : Row) (c : Condition) (s : State) : State :=
  if hasCond (s.wheel r).active c then setCondition r c false s else s

/-- The missing expiry (R85): the values go, the ring is emptied, MISSING enters with 4095, levels follow. -/
def goMissing (r : Row) (s : State) : State :=
  let w := s.wheel r
  let s := putWheel r { w with
    status := .missing, staleAt := none, missingAt := none, pc := 4095, pg := 4095, temperature := none
    flags := { MeasFlags.clear with sensorFaultSeen := w.flags.sensorFaultSeen }, ring := [], leakRate := none } s
  reannounce r (setCondition r .missing true s)

/-- A row's deadlines are worked out again after its timing set may have changed (R83). Parked to moving restarts them
from now; moving to parked works them out from the base, and one already past expires at once, the stale one first. -/
def retimeRow (before : State) (r : Row) (s : State) : State :=
  let w := s.wheel r
  if s.osc.state ≠ .active ∨ usesMoving before r = usesMoving s r ∨ !holdsMissing w.status then s
  else if usesMoving s r then putWheel r (withDeadlines s r s.now w) s
  else
    let s := putWheel r (withDeadlines s r (w.base.getD s.now) w) s
    let s := if due s (s.wheel r).staleAt then goStale r s else s
    if due s (s.wheel r).missingAt then goMissing r s else s

/-- Every row's timing set is worked out anew (R81, R83). -/
def retime (before s : State) : State := forRows (retimeRow before) allRows s

/-! ### Restart (R79) -/

/-- The wheel record of one row returns to its starting content, the change of its announced level is announced, and
its missing episode ends (R79, R103, R125). -/
def restartOne (r : Row) (s : State) : State :=
  let w := s.wheel r
  let held := (rowId s r).isSome
  let fresh : WheelRecord := { WheelRecord.fresh (if held then .awaiting else .vacant) with announced := w.announced }
  let fresh := if held ∧ s.osc.state = .active then withDeadlines s r s.now fresh else fresh
  reannounce r (putEpisode r .reset (putWheel r fresh s))

/-- A partner that does not itself restart loses an active IMBALANCE at once, with its event (R79). -/
def restartPartner (rows : List Row) (r : Row) (s : State) : State :=
  if hasCond (s.wheel r).active .imbalance ∧ partner r ∉ rows then
    reannounce (partner r) (clearIfActive (partner r) .imbalance s)
  else s

/-- The wheel records of some rows restart in one step (R79; log entry 13). A partner that loses IMBALANCE has its ALERT frame queued
before that of the row that restarts (DESIGN CHOICE, log entry 44). -/
def restartRows (rows : List Row) (s : State) : State :=
  forRows restartOne rows (forRows (restartPartner rows) rows s)

/-! ### The conditions (R91 to R95) -/

/-- The result of a condition's two tests (R92). -/
structure Verdict where
  qualifies : Bool
  clears : Bool
deriving DecidableEq, Repr

/-- The tests of R92 on the values a record holds. BATTERY_LOW is judged on the flag given. -/
def verdict (s : State) (r : Row) (batteryLow : Bool) (c : Condition) : Verdict :=
  let w := s.wheel r
  let p := limitsOf s r
  let g := (groupOf s r).temp
  let pc : Int := w.pc
  let pg : Int := w.pg
  match c with
  | .lowWarn =>
    { qualifies := decide (w.pc < lowWarnLimit p), clears := decide (lowWarnLimit p + g.hyst ≤ w.pc) }
  | .lowCrit =>
    { qualifies := decide (w.pc < lowCritLimit p), clears := decide (lowCritLimit p + g.hyst ≤ w.pc) }
  | .highWarn =>
    { qualifies := decide (highWarnLimit p ≤ w.pg), clears := decide (pg ≤ (highWarnLimit p : Int) - g.hyst) }
  | .tempWarn =>
    { qualifies := w.temperature.any (fun t => decide ((g.tempWarn : Int) ≤ t))
      clears := w.temperature.any (fun t => decide (t ≤ (g.tempWarn : Int) - 3)) }
  | .tempCrit =>
    { qualifies := w.temperature.any (fun t => decide ((g.tempCrit : Int) ≤ t))
      clears := w.temperature.any (fun t => decide (t ≤ (g.tempCrit : Int) - 3)) }
  | .leak =>
    { qualifies := w.leakRate.any (fun n => decide (g.leakWarn ≤ n))
      clears := w.leakRate.any (fun n => decide (n < g.leakWarn - g.leakWarn / 4)) }
  | .fastLeak =>
    { qualifies := decide (w.lastMode = some .alert), clears := decide (w.lastMode ≠ some .alert) }
  | .imbalance =>
    let d := absDiff w.pc (s.wheel (partner r)).pc
    { qualifies := decide (g.imbalance < d), clears := decide (d ≤ g.imbalance - g.hyst) }
  | .batteryLow => { qualifies := batteryLow, clears := !batteryLow }
  | .sensorFault => { qualifies := decide (pc = 4094), clears := decide (pc ≠ 4094) }
  | .missing => { qualifies := false, clears := false }

/-- The record holds the values of a measurement that was not a fault (R67: a fault leaves 4094). -/
def holdsValues (w : WheelRecord) : Bool := decide (w.pc ≤ 4000) && decide (w.pg ≤ 4000)

/-- The row is one of a dual pair (R95). -/
def inDualPair (s : State) (r : Row) : Bool := decide ((axleOf s (rowAxle r)).layout = .dual)

/-- Whether a condition is judged, on the values held, and not held or inapplicable (table of R91, R95, R97). IMBALANCE is
held unless both rows of the pair are LIVE and both hold values, at a re-evaluation as at a measurement (R95; log entry 14). -/
def judged (s : State) (r : Row) (c : Condition) : Bool :=
  let w := s.wheel r
  let q := s.wheel (partner r)
  match c with
  | .lowWarn => holdsValues w && !raisedRow s r
  | .lowCrit | .highWarn | .fastLeak => holdsValues w
  | .tempWarn | .tempCrit => holdsValues w && w.temperature.isSome
  | .leak => holdsValues w && !raisedRow s r && w.leakRate.isSome && decide ((groupOf s r).temp.leakWarn ≠ 0)
  | .imbalance =>
    holdsValues w && !raisedRow s r && inDualPair s r && decide (w.status = .live) && decide (q.status = .live)
      && decide (q.pc ≤ 4000)
  | .batteryLow | .sensorFault => true
  | .missing => false

/-- Conditions that enter on the first qualifying measurement: LOW_CRIT, TEMP_CRIT, FAST_LEAK, SENSOR_FAULT, and
LOW_WARN when the mode is ALERT (R94). -/
def entersAtOnce (w : WheelRecord) : Condition → Bool
  | .lowCrit | .tempCrit | .fastLeak | .sensorFault => true
  | .lowWarn => decide (w.lastMode = some .alert)
  | _ => false

/-- The state and the counter of a condition after one judged measurement (R93, R94). -/
def moveCounter (persist : Nat) (atOnce active : Bool) (count : Nat) (v : Verdict) : Bool × Nat :=
  if active then
    if v.clears then (if persist ≤ count + 1 then (false, 0) else (true, count + 1)) else (true, 0)
  else if v.qualifies then
    (if atOnce ∨ persist ≤ count + 1 then (true, 0) else (false, count + 1))
  else (false, 0)

def counterOf (w : WheelRecord) (c : Condition) : Nat := w.counters[c.code]

def setCounter (r : Row) (c : Condition) (n : Nat) (s : State) : State :=
  let w := s.wheel r
  putWheel r { w with counters := w.counters.set c.code n } s

/-- IMBALANCE changes on both rows of a pair, the outer row's event first (R95). -/
def setImbalance (r : Row) (on : Bool) (s : State) : State :=
  let o := outerRow r
  setCondition (partner o) .imbalance on (setCondition o .imbalance on s)

/-- LEAK is inactive and not judged for the measurement a record holds: the group's leak_warn is 0 (R91) and the measurement was not a
fault, which holds LEAK (R67). A leak rate of none, for which R91 holds LEAK, does not keep it active (DEDUCED, log entry 14). -/
def leakDisabled (s : State) (r : Row) : Bool := decide ((groupOf s r).temp.leakWarn = 0) && holdsValues (s.wheel r)

/-- Judge one condition on the measurement just written (R91 to R96). IMBALANCE moves the shared counter of the
outer row. -/
def judgeOne (r : Row) (batteryLow : Bool) (c : Condition) (s : State) : State :=
  if c = .leak ∧ leakDisabled s r then clearIfActive r .leak s
  else if !judged s r c then s
  else
    let k := if c = .imbalance then outerRow r else r
    let w := s.wheel k
    let active := hasCond w.active c
    let next := moveCounter (s.setting .persistN) (entersAtOnce w c) active (counterOf w c) (verdict s r batteryLow c)
    if next.1 = active then setCounter k c next.2 s
    else if c = .imbalance then setImbalance r next.1 s
    else setCondition r c next.1 s

/-- Judge the conditions of a measurement in code order (R96). -/
def judgeAll (r : Row) (batteryLow : Bool) (s : State) : State :=
  Condition.all.foldl (fun s c => judgeOne r batteryLow c s) s

/-! ### Measurements (R68, R80) -/

/-- Step 2 of R68 and R80: the values, the status LIVE, last mode, sequence and time, the freshness base, and in
ACTIVE both deadlines. A row that was MISSING leaves it first, with its event, and its episode ends (R125). -/
def writeMeasurement (r : Row) (t : TelegramRecord) (x : Computed) (s : State) : State :=
  let w := s.wheel r
  let w' : WheelRecord := { w with
    status := .live, raw := t.pressure.toNat, pc := x.pc, pg := x.pg, temperature := x.temperature
    flags := x.flags w.flags
    lastMode := some t.mode, lastSequence := some t.sequence, lastAccepted := some t.arrival
    base := some t.arrival }
  let w' := if s.osc.state = .active then withDeadlines s r t.arrival w' else w'
  let s := putWheel r w' s
  if w.status = .missing then putEpisode r .reset (clearIfActive r .missing s) else s

/-- Steps 3 and 4 of R68: the ring and the leak rate. On a refill LEAK becomes inactive at once, its counter 0, and
REFILL is raised before its CONDITION_OFF (R70 to R74). -/
def updateTrend (r : Row) (t : TelegramRecord) (x : Computed) (s : State) : State :=
  if x.fault then s
  else if raisedRow s r then
    let w := s.wheel r
    putWheel r { w with leakRate := none } s
  else
    let w := s.wheel r
    let step := ringAdd w.ring { pc := x.pc, time := t.arrival }
    let s := putWheel r { w with ring := step.ring, leakRate := ringRate step.ring } s
    if step.refill then
      clearIfActive r .leak (setCounter r .leak 0 (raiseEvent .refill (some r) (some x.pc) s))
    else s

/-- The notice of a change of Pc of 4 pu or more between two values in 0..4000 (R106, R146). -/
def noticeChange (old new : Pu) (s : State) : State :=
  if old ≤ 4000 ∧ new ≤ 4000 ∧ 4 ≤ absDiff old new then notice .telegramChange s else s

/-- One measurement of a row, in the one pass of R68; announced levels are worked out once at its end (R96). Where IMBALANCE has
changed, R95 orders the two events and not the two ALERT frames: the measured row's frame is queued first and its partner's after it,
whichever of them is the outer row (DESIGN CHOICE, log entry 31). -/
def measure (r : Row) (t : TelegramRecord) (s : State) : State :=
  let old := (s.wheel r).pc
  let x := compute s.vdm.ambient (groupOf s r).temp.tref t
  let s := judgeAll r t.batteryLow (updateTrend r t x (writeMeasurement r t x s))
  noticeChange old x.pc (reannounce (partner r) (reannounce r s))

/-! ### Re-evaluation (R99, R100) -/

/-- The limit-dependent conditions of one wheel alone, in code order (R100). -/
def wheelLimitConditions : List Condition := [.lowWarn, .lowCrit, .highWarn, .tempWarn, .tempCrit, .leak]

/-- The seven conditions a re-evaluation judges, in code order (R100). -/
def limitConditions : List Condition := wheelLimitConditions ++ [.imbalance]

/-- One limit-dependent condition judged on the values held; one that R91 would hold for the last measurement, as LEAK after a fault, is left
alone (R100; log entry 14). -/
def reevaluateOne (r : Row) (c : Condition) (s : State) : State :=
  if c = .leak ∧ leakDisabled s r then clearIfActive r .leak s
  else if !judged s r c then s
  else
    let v := verdict s r false c
    let active := hasCond (s.wheel r).active c
    if c = .imbalance then
      if outerRow r = r ∧ active ∧ v.clears then setImbalance r false s else s
    else if active then
      if v.clears then setCondition r c false s else s
    else if (c = .lowCrit ∨ c = .tempCrit) ∧ v.qualifies then setCondition r c true s
    else s

/-- A wheel in scope is covered: LIVE or STALE, in ACTIVE or PARK_WATCH (R99). -/
def reevaluated (s : State) (r : Row) : Bool :=
  (decide ((s.wheel r).status = .live) || decide ((s.wheel r).status = .stale))
    && (decide (s.osc.state = .active) || decide (s.osc.state = .parkWatch))

/-- The conditions of one wheel alone, judged in code order (R100). -/
def reevaluateWheel (r : Row) (s : State) : State := wheelLimitConditions.foldl (fun s c => reevaluateOne r c s) s

/-- The counters of all seven conditions become 0 (R100). -/
def clearLimitCounters (r : Row) (s : State) : State := limitConditions.foldl (fun s c => setCounter r c 0 s) s

/-- A re-evaluation of the wheels it covers, in one step (R99, R100). The conditions of each wheel alone come first and then, from the
outer rows, IMBALANCE, so that the events of every wheel are in code order (DESIGN CHOICE, log entry 45). When all is judged, the levels
and the ALERT frame follow once a wheel. -/
def reevaluate (rows : List Row) (s : State) : State :=
  let rows := rows.filter (reevaluated s)
  let s := forRows reevaluateWheel rows s
  let s := forRows (fun r => reevaluateOne r .imbalance) rows s
  forRows reannounce rows (forRows clearLimitCounters rows s)

/-- The rows of a unit (R99). -/
def unitRows (u : UnitName) : List Row := allRows.filter (fun r => decide (unitOfRow r = u))

/-- The rows whose axle record names a group. -/
def groupRows (s : State) (g : GroupNo) : List Row := allRows.filter (fun r => decide ((axleOf s (rowAxle r)).group = g))

/-! ### Lift axles (R97, R98) -/

/-- LOW_WARN and LEAK go off at a raise (R97). -/
def raiseWheel (r : Row) (s : State) : State := clearIfActive r .leak (clearIfActive r .lowWarn s)

/-- IMBALANCE goes off on both rows of a pair at a raise, the outer row's event first (R97). -/
def raisePair (r : Row) (s : State) : State := if hasCond (s.wheel r).active .imbalance then setImbalance r false s else s

/-- Steps 2 to 4 of a raise: the three counters, the trend ring and the timing set (R97). -/
def raiseRest (before : State) (r : Row) (s : State) : State :=
  let s := setCounter r .imbalance 0 (setCounter r .leak 0 (setCounter r .lowWarn 0 s))
  retimeRow before r (putWheel r { s.wheel r with ring := [], leakRate := none } s)

/-- A raise acts on the wheels of the axle that are not VACANT (R97). LOW_WARN and LEAK of each wheel go off first and then IMBALANCE,
so that the events of every wheel are in code order (DESIGN CHOICE, log entry 37); the levels and the ALERT frame follow once a wheel. -/
def raiseRows (before : State) (rows : List Row) (s : State) : State :=
  let rows := rows.filter fun r => decide ((s.wheel r).status ≠ .vacant)
  let s := forRows raisePair rows (forRows raiseWheel rows s)
  forRows reannounce rows (forRows (raiseRest before) rows s)

/-- A lowering re-evaluates the wheels of the axle, then their timing sets follow (R98). -/
def lowerRows (before : State) (rows : List Row) (s : State) : State := forRows (retimeRow before) rows (reevaluate rows s)

/-- One axle after a change of the lift mask or of its liftable flag (R97, R98). -/
def liftAxle (before : State) (a : AxleNo) (s : State) : State :=
  if raisedAxle before a = raisedAxle s a then s
  else if raisedAxle s a then raiseRows before (axleRows a) s
  else lowerRows before (axleRows a) s

/-- All axles after a change; in OFFLINE the records stay as they stand (R97, R149). -/
def liftChange (before s : State) : State :=
  if s.osc.state = .offline then s else (List.finRange 8).foldl (fun s a => liftAxle before a s) s

/-! ### Timers of a wheel -/

/-- STALE_EXPIRY of a row: its stale deadline has come (R84). -/
def staleExpiry (r : Row) (s : State) : State :=
  if (s.wheel r).status = .live ∧ due s (s.wheel r).staleAt then goStale r s else s

/-- MISSING_EXPIRY of a row: its missing deadline has come (R85). -/
def missingExpiry (r : Row) (s : State) : State :=
  if holdsMissing (s.wheel r).status ∧ due s (s.wheel r).missingAt then goMissing r s else s

/-- ALERT_REPEAT_EXPIRY of a row (R105). -/
def alertRepeatExpiry (r : Row) (s : State) : State :=
  let w := s.wheel r
  if due s w.repeatAt then
    if repeatQualifies s.osc.state w.announcedLevel then announceAlert r s
    else putWheel r { w with repeatAt := none } s
  else s

def execStaleExpiry (r : Row) (s : State) : Result := whileRunning (staleExpiry r) s

def execMissingExpiry (r : Row) (s : State) : Result := whileRunning (missingExpiry r) s

def execAlertRepeatExpiry (r : Row) (s : State) : Result := whileRunning (alertRepeatExpiry r) s

end Sys2Proof.Machine
end

