-- ==== Sys2Proof/Machine/Proposals.lean ====
section
/-! DEFINITION. Section 6.8: the missing episode, the proposal search, and the closing of a proposal. -/

namespace Sys2Proof.Machine

/-- The row is due for a proposal: MISSING, and its moving missing time has reached proposal_delay_s (R125). -/
def rowIsDue (s : State) (r : Row) : Bool :=
  decide ((s.wheel r).status = .missing) && decide (s.setting .proposalDelayS * 1000 ≤ (s.episode r).movingMs)

/-- A candidate record is eligible for a due row (R126). -/
def eligibleFor (s : State) (r : Row) (c : Candidate) : Bool :=
  decide (10 ≤ c.movingHits) && decide (c.bestLane = (axleOf s (rowAxle r)).nearLane)
    && (s.wheel r).lastAccepted.all (fun t => decide (t < c.firstHeard))
    && decide (c.id ∉ (s.episode r).rejected)

def eligible (s : State) (r : Row) : List Candidate := s.candidates.filter (eligibleFor s r)

/-- The three conditions under which a search can run (R127). -/
def maySearch (s : State) : Bool :=
  s.enc.proposal.isNone && !sessionOpen s
    && (decide (s.osc.state = .active) || decide (s.osc.state = .parkWatch))

/-- A proposal opens for a row and a candidate (R128). -/
def openProposal (r : Row) (id : SensorId) (s : State) : State :=
  raiseEvent .proposalOpen (some r) (some id.toNat) (s.setEnc { s.enc with proposal := some (r, id) })

/-- Ambiguity is reported once in a missing episode (R128). -/
def reportAmbiguous (r : Row) (count : Nat) (s : State) : State :=
  let e := s.episode r
  if e.ambiguous then s
  else raiseEvent .proposalAmbiguous (some r) (some count) (putEpisode r { e with ambiguous := true } s)

/-- The due rows visited in turn; the search stops where a proposal opens (R128). -/
def searchRows : List Row → State → State
  | [], s => s
  | r :: rest, s =>
    if !rowIsDue s r then searchRows rest s
    else
      match eligible s r with
      | [] => searchRows rest s
      | [c] => openProposal r c.id s
      | found => searchRows rest (reportAmbiguous r found.length s)

/-- The proposal search, when it can run (R127, R128). -/
def search (s : State) : State := if maySearch s then searchRows allRows s else s

/-- The open proposal is closed with PROPOSAL_WITHDRAWN (R129). -/
def withdraw (s : State) : State :=
  match s.enc.proposal with
  | some (r, id) =>
    raiseEvent .proposalWithdrawn (some r) (some id.toNat) (s.setEnc { s.enc with proposal := none })
  | none => s

/-- A proposal whose row has left MISSING, or whose candidate has left the list, is withdrawn, and the search then
runs (R129, R57). Called at the end of every step that can bring either about. -/
def settleProposal (s : State) : State :=
  match s.enc.proposal with
  | some (r, id) =>
    if (s.wheel r).status = .missing ∧ s.candidates.any (fun c => decide (c.id = id)) then s
    else search (withdraw s)
  | none => s

/-- Every row whose time reaches a newly written proposal_delay_s becomes due when the write is served, and the search
runs if one does (R125, R127; log entry 9). A row that was due before the write and is reached by the new value too does not become
due again: it alone brings no search (DESIGN CHOICE, log entry 9). -/
def dueAfterWrite (before s : State) : State :=
  let fresh := allRows.filter fun r => rowIsDue s r && !rowIsDue before r
  let s' := s.setEpisodes (Vector.ofFn fun r =>
    let e := s.episode r
    { e with dueTaken := rowIsDue s r && (e.dueTaken || !rowIsDue before r) })
  if fresh.isEmpty then s' else search s'

/-- ROW_DUE: the row's moving missing time has reached proposal_delay_s and this has not been taken (R125). -/
def takeRowDue (r : Row) (s : State) : State :=
  let e := s.episode r
  if rowIsDue s r ∧ !e.dueTaken then search (putEpisode r { e with dueTaken := true } s) else s

def execRowDue (r : Row) (s : State) : Result := whileRunning (takeRowDue r) s

end Sys2Proof.Machine
end

