-- ==== Sys2Proof/Machine/Modes.lean ====
section
/-! DEFINITION. Sections 2.2 and 7.5 to 7.10: which lanes listen, and a change of the operating state with all its effects. -/

namespace Sys2Proof.Machine

/-- Lane `l` is enabled in an operating state (R26); bit l of lane_enable_mask stands for it (log entry 35). -/
def laneEnabled (s : State) (o : OpState) (l : LaneNo) : Bool :=
  match o with
  | .starting | .dormant => false
  | .active | .offline => (s.setting .laneEnableMask).testBit l.val
  | .parkWatch => decide (s.setting .parkLane = l.val)

/-- A lane becomes enabled or disabled; its latched flags are kept (R27). -/
def Lane.enable (on : Bool) (l : Lane) : Lane :=
  match l.state, on with
  | .disabled, true => { l with state := .freshHunt }
  | _, true => l
  | _, false => { l with state := .disabled }

/-- Every lane works out its enable anew (R26, R27, R28). -/
def relane (s : State) : State :=
  s.setLanes (Vector.ofFn fun l => (s.lane l).enable (laneEnabled s s.osc.state l))

/-- OSC at a change of state: the park delay and park pending end, and the activity deadline is held in PARK_WATCH alone
(R143 to R146). -/
def enterOsc (n : OpState) (s : State) : State :=
  s.setOsc { s.osc with
    state := n, parkDelay := none, parkPending := false
    activity := if n = .parkWatch then some (s.now + s.setting .dormantDelayS * 1000) else none }

/-- A LIVE wheel becomes STALE when the state leaves DORMANT (R86, R147). -/
def wakeWheel (w : WheelRecord) : WheelRecord :=
  if w.status = .live then { w with status := .stale, staleAt := none } else w

/-- A wheel's deadlines at the entry to a state: set from now in ACTIVE, absent elsewhere; and its repeat deadline
(R86, R105). -/
def settleWheel (s : State) (n : OpState) (r : Row) (w : WheelRecord) : WheelRecord :=
  let w' : WheelRecord :=
    if n = .active ∧ holdsMissing w.status then withDeadlines s r s.now w
    else { w with staleAt := none, missingAt := none }
  { w' with
    repeatAt := if repeatQualifies n w.announcedLevel then some (s.now + s.setting .alertRepeatS * 1000) else none }

/-- WEVU at a change of state (R86, R105). -/
def enterWheels (old n : OpState) (s : State) : State :=
  let s := if old = .dormant then mapWheels (fun _ w => wakeWheel w) s else s
  mapWheels (settleWheel s n) s

/-- VDM at the entry to DORMANT, and when the state leaves it (R142). -/
def enterVdm (old n : OpState) (s : State) : State :=
  if n = .dormant then
    s.setVdm { s.vdm with
      frameDeadline := none, speed := none
      truck := { s.vdm.truck with settle := none }, trailer := { s.vdm.trailer with settle := none } }
  else if old = .dormant then
    s.setVdm { s.vdm with frameDeadline := some (s.now + s.setting .vehicleDataTimeoutMs) }
  else s

/-- The states in which PART_STATUS frames are sent (R169). -/
def sendsPartStatus (n : OpState) : Bool := decide (n = .active) || decide (n = .offline)

/-- The states in which the report deadline runs (R170). -/
def reports (n : OpState) : Bool := decide (n = .active) || decide (n = .parkWatch)

/-- LINK at a change of state: classes emptied (R169), report timers (R170, R171), and a PART_STATUS frame at each entry
to ACTIVE or OFFLINE (R171). -/
def enterLink (old n : OpState) (s : State) : State :=
  let l := s.link
  let report :=
    if reports n then some (l.reportDeadline.getD (s.now + s.setting .reportPeriodS * 1000)) else none
  let s := s.setLink { l with
    statuses := if old = .active then [] else l.statuses
    partStatus := if sendsPartStatus n then l.partStatus else none
    reportDeadline := report
    partStatusDeadline :=
      if sendsPartStatus n then some (s.now + s.setting .partStatusPeriodS * 1000) else none }
  if sendsPartStatus n then queuePartStatus s else s

/-- A change of the operating state, in one step with all its effects (R143): STATE_CHANGE, then OSC, the lanes, WEVU,
VDM and LINK. -/
def enterState (n : OpState) (s : State) : State :=
  let old := s.osc.state
  let s := raiseEvent .stateChange none (some n.code) s
  enterLink old n (enterVdm old n (enterWheels old n (relane (enterOsc n s))))

/-- The state at the end of STARTING or of OFFLINE, by the IGNITION level (R143, R150). -/
def stateByIgnition (s : State) : OpState := if s.lines.ignition then .active else .parkWatch

/-- OSC is told that the session is closed: a park pending is cleared, and the move to PARK_WATCH takes place if IGNITION
is still off (R145). -/
def sessionClosed (s : State) : State :=
  if s.osc.parkPending then
    let s := s.setOsc { s.osc with parkPending := false }
    if s.lines.ignition then s else enterState .parkWatch s
  else s

/-- The park delay has expired (R145). -/
def parkDelayDone (s : State) : State :=
  let s := s.setOsc { s.osc with parkDelay := none }
  if sessionOpen s then s.setOsc { s.osc with parkPending := true } else enterState .parkWatch s

/-- A filtered change of IGNITION, acted on by the table of R144. A level that is not new is no change. -/
def ignitionTo (on : Bool) (s : State) : State :=
  if s.lines.ignition = on then s
  else
    let s := s.setLines { s.lines with ignition := on }
    match s.osc.state, on with
    | .active, false =>
      if s.setting .parkDelayS = 0 then parkDelayDone s
      else s.setOsc { s.osc with parkDelay := some (s.now + s.setting .parkDelayS * 1000) }
    | .active, true => s.setOsc { s.osc with parkDelay := none, parkPending := false }
    | .parkWatch, true | .dormant, true => enterState .active s
    | _, _ => s

/-- IGNITION_CHANGE. While the part is held in reset or unpowered only the line itself changes (log entry 6). -/
def execIgnitionChange (on : Bool) (s : State) : Result :=
  if s.phase = .running then .next (ignitionTo on s) else .next (s.setLines { s.lines with ignition := on })

/-- SERVICE_CHANGE: the guard reads the line when it judges (R180). -/
def execServiceChange (asserted : Bool) (s : State) : Result := .next (s.setLines { s.lines with service := asserted })

/-- LOAD_COMPLETE: TST reports the load complete and OSC leaves STARTING (R143). -/
def loadComplete (s : State) : State := if s.osc.state = .starting then enterState (stateByIgnition s) s else s

def execLoadComplete (s : State) : Result := whileRunning loadComplete s

/-- PARK_DELAY_EXPIRY (R145). -/
def parkDelayExpiry (s : State) : State :=
  if s.osc.state = .active ∧ due s s.osc.parkDelay then parkDelayDone s else s

def execParkDelayExpiry (s : State) : Result := whileRunning parkDelayExpiry s

/-- ACTIVITY_EXPIRY (R146). -/
def activityExpiry (s : State) : State :=
  if s.osc.state = .parkWatch ∧ due s s.osc.activity then enterState .dormant s else s

def execActivityExpiry (s : State) : Result := whileRunning activityExpiry s

end Sys2Proof.Machine
end

