-- ==== Sys2Proof/Machine/Sessions.lean ====
section
/-! DEFINITION. Sections 6.2 to 6.5: an enrolment session at work and every way it ends. -/

namespace Sys2Proof.Machine

/-- The row of a step: the entry of the walk order at its index (6.4). -/
def stepRow (s : State) (i : Nat) : Option Row := s.enc.walk[i]?

/-- The step deadline set from now (R110, R112, R113). -/
def stepDeadlineFrom (s : State) : Option Millis := some (s.now + s.setting .stepTimeoutS * 1000)

/-- ENC as an ending leaves it; the walk order and allow_move are kept (R119). -/
def closedEnc (e : Enrolment) (how : Ending) (applied leftVacant : Nat) : Enrolment :=
  { e with pairs := [], session := none, stepDeadline := none, copies := [], lastEnding := how, applied, leftVacant }

/-- Every ending other than COMPLETED (R119). -/
def endSession (how : Ending) (s : State) : State :=
  match s.enc.session with
  | none => s
  | some i =>
    let row := stepRow s i
    let s := s.setEnc (closedEnc s.enc how 0 0)
    search (sessionClosed (raiseEvent .enrolEnded row (some how.code) s))

/-! ### Completion (R120 to R122) -/

/-- The rows of the pending pairs. -/
def pairRows (pairs : List EnrolPair) : List Row := pairs.map EnrolPair.row

/-- The source rows that are not the row of any pair (R121). -/
def vacatedRows (pairs : List EnrolPair) : List Row :=
  allRows.filter fun r => pairs.any (fun p => decide (p.source = some r)) && decide (r ∉ pairRows pairs)

/-- The pending list applied to the wheel map as a whole (R121). -/
def applyPairs (pairs : List EnrolPair) (s : State) : State :=
  pairs.foldl (fun s p => writeRowId p.row (some p.id) s) (forRows (fun r => writeRowId r none) (vacatedRows pairs) s)

/-- The rows whose ID differs between two states. -/
def changedRows (before s : State) : List Row := allRows.filter fun r => decide (rowId before r ≠ rowId s r)

/-- CAND removes the records of some IDs (R56). -/
def dropCandidates (ids : List SensorId) (s : State) : State :=
  s.setCandidates (s.candidates.filter fun c => decide (c.id ∉ ids))

/-- A completion that the guard permits (R121, R122). -/
def applyCompletion (i : Nat) (s : State) : State :=
  let pairs := s.enc.pairs
  let row := stepRow s i
  let after := applyPairs pairs s
  let changed := changedRows s after
  let applied := ((pairRows pairs).filter fun r => decide (r ∈ changed)).length
  let s := dropCandidates (pairs.map EnrolPair.id) (restartRows changed after)
  let s := if changed.isEmpty then s else markDirty s
  let s := raiseEvent .enrolCompleted row (some applied) (requestSave s)
  let s := s.setEnc (closedEnc s.enc .completed applied (vacatedRows pairs).length)
  search (sessionClosed s)

/-- A completion begins with the guard (R120). -/
def completeSession (i : Nat) (s : State) : State :=
  if guardAllows s .wheel then applyCompletion i s else endSession .refused s

/-- The session advances from step `i`, or completes after the last step (R112). -/
def advance (i : Nat) (s : State) : State :=
  if i + 1 < s.enc.walk.length then
    s.setEnc { s.enc with session := some (i + 1), stepDeadline := stepDeadlineFrom s }
  else completeSession i s

/-! ### Answers and tool actions (R111, R113) -/

/-- The class a TRIGGERED record comes to ENC with (R111). -/
inductive AnswerClass where
  | enrolled (row : Row)
  | foreign
  | unknown
deriving DecidableEq, Repr

/-- An event of a step, with the record's ID as its value (R111). -/
def stepEvent (kind : EventKind) (i : Nat) (id : SensorId) (s : State) : State :=
  raiseEvent kind (stepRow s i) (some id.toNat) s

/-- A pair is appended, ENROL_STEP is raised and the session advances (R111, R112). -/
def acceptAnswer (i : Nat) (r : Row) (id : SensorId) (source : Option Row) (s : State) : State :=
  let s := s.setEnc { s.enc with pairs := s.enc.pairs ++ [{ row := r, id, source }] }
  advance i (stepEvent .enrolStep i id s)

/-- ENC takes a TRIGGERED record at WAITING(i) (R111). -/
def takeAnswer (c : AnswerClass) (id : SensorId) (s : State) : State :=
  match s.enc.session with
  | none => s
  | some i =>
    match stepRow s i with
    | none => s
    | some r =>
      if s.enc.pairs.any (fun p => decide (p.id = id)) then stepEvent .enrolRepeat i id s
      else
        match c with
        | .foreign => stepEvent .enrolForeign i id s
        | .unknown => acceptAnswer i r id none s
        | .enrolled q =>
          if q = r then acceptAnswer i r id none s
          else if s.enc.allowMove then acceptAnswer i r id (some q) s
          else stepEvent .enrolInUse i id s

/-- Tool action BACK (R113). -/
def stepBack (i : Nat) (s : State) : State :=
  if i = 0 then s.setEnc { s.enc with stepDeadline := stepDeadlineFrom s }
  else
    s.setEnc { s.enc with
      session := some (i - 1), stepDeadline := stepDeadlineFrom s
      pairs := s.enc.pairs.filter fun p => decide (some p.row ≠ stepRow s (i - 1)) }

/-- ENC takes a tool record in WAITING(i): the raw pressure is the action code; other codes are ignored (R113). -/
def takeTool (code : Nat) (s : State) : State :=
  match s.enc.session with
  | none => s
  | some i =>
    if code = 1 then advance i (raiseEvent .enrolStep (stepRow s i) none s)
    else if code = 2 then stepBack i s
    else if code = 3 then endSession .abortedTool s
    else s

/-! ### Endings from other causes (R114 to R116) -/

/-- The vehicle moving ends an open session (R115). -/
def sessionMoved (s : State) : State := if sessionOpen s ∧ moving s then endSession .moved s else s

/-- The loss of the trailer concerns the session: its walk holds a trailer row, or a pair's source is one (R116). -/
def sessionOnTrailer (s : State) : Bool :=
  sessionOpen s && (s.enc.walk.any isTrailerRow || s.enc.pairs.any (fun p => p.source.any isTrailerRow))

def sessionTrailerLost (s : State) : State := if sessionOnTrailer s then endSession .trailerLost s else s

/-- STEP_DEADLINE_EXPIRY (R114). -/
def stepDeadlineExpiry (s : State) : State :=
  if sessionOpen s ∧ due s s.enc.stepDeadline then endSession .timedOut s else s

def execStepDeadlineExpiry (s : State) : Result := whileRunning stepDeadlineExpiry s

end Sys2Proof.Machine
end

