-- ==== Sys2Proof/Machine/Trailer.lean ====
section
/-! DEFINITION. Section 1.5: the trailer state, recognition, identification, unloading and disconnects. -/

namespace Sys2Proof.Machine

/-- The number n of slot IDs an entry holds (R13). -/
def slotCount (e : RosterEntry) : Nat := (e.slots.toList.filter Option.isSome).length

/-- The recognition threshold, min(3, n) (R13). -/
def threshold (e : RosterEntry) : Nat := min 3 (slotCount e)

/-- Recognition uses an entry whose tag is not 0 and that holds at least one slot ID (R13). -/
def takesPart (e : RosterEntry) : Bool := !e.isFree && decide (0 < slotCount e)

/-- Every heard set and sequence memory empty. -/
def noRecog : Vector RecogEntry 4 := Vector.replicate 4 .empty

/-- Entry `k` is identified, in one step (R21). -/
def identify (k : EntryNo) (s : State) : State :=
  let s := ((s.setTrailer (.identified k)).setWindow none).setRecog noRecog
  raiseEvent .trailerIdentified none (some k.val) (restartRows trailerRows s)

/-- The identified entry is unloaded and the trailer state becomes `next`: the axle records and rows are a mirror, so they
follow; every trailer row restarts as VACANT (R24). -/
def unload (next : TrailerState) (s : State) : State := restartRows trailerRows (s.setTrailer next)

/-- Trailer-connected becomes yes: recognition starts in NONE, and nothing happens in any other state (R19). -/
def connectTrailer (s : State) : State :=
  if s.trailer = .none then
    ((s.setTrailer .recognising).setWindow (some (s.now + s.setting .recognitionWindowS * 1000))).setRecog noRecog
  else s

/-- Trailer-connected becomes no: a disconnect in any state other than NONE (R24). -/
def disconnectTrailer (s : State) : State :=
  if s.trailer = .none then s
  else
    let s := if s.trailer.entry?.isSome then unload .none s else s.setTrailer .none
    let s := (s.setWindow none).setRecog noRecog
    settleProposal (sessionTrailerLost (raiseEvent .trailerRemoved none none s))

/-- Recognition succeeds with entry `k` when its heard set has reached the threshold and it takes part (R20, R21). -/
def checkRecognition (k : EntryNo) (s : State) : State :=
  let e := s.tables.roster[k]
  if s.trailer = .recognising ∧ takesPart e ∧ threshold e ≤ s.recog[k].heard.length then
    settleProposal (identify k s)
  else s

/-- WMAP takes a telegram that counts toward recognition (R20). -/
def countTelegram (k : EntryNo) (t : SlotNo) (rec : TelegramRecord) (s : State) : State :=
  let g := s.recog[k]
  let g : RecogEntry :=
    { heard := if rec.id ∈ g.heard then g.heard else g.heard ++ [rec.id]
      sequence := g.sequence.set t (some (rec.sequence, rec.arrival)) }
  checkRecognition k (s.setRecog (s.recog.set k g))

/-- A roster write to entry `k` during the window: IDs removed from a slot leave the heard set and their sequence memory is
cleared; the threshold is taken anew and may be reached at once (R20). -/
def recheckEntry (before : State) (k : EntryNo) (s : State) : State :=
  if s.trailer = .recognising then
    let old := before.tables.roster[k]
    let new := s.tables.roster[k]
    let g := s.recog[k]
    let g : RecogEntry :=
      { heard := g.heard.filter fun id => new.slots.toList.any (fun x => decide (x = some id))
        sequence := Vector.ofFn fun t => if old.slots[t] = new.slots[t] then g.sequence[t] else none }
    checkRecognition k (s.setRecog (s.recog.set k g))
  else s

/-- RECOGNITION_WINDOW_EXPIRY (R22). -/
def windowExpiry (s : State) : State :=
  if s.trailer = .recognising ∧ due s s.window then
    raiseEvent .trailerUnknown none none (((s.setTrailer .unknown).setWindow none).setRecog noRecog)
  else s

def execRecognitionWindowExpiry (s : State) : Result := whileRunning windowExpiry s

end Sys2Proof.Machine
end

