-- ==== Sys2Proof/Machine/Acceptance.lean ====
section
/-! DEFINITION. Section 3: classification, duplicate checks and routing by TAU, and the candidate list. -/

namespace Sys2Proof.Machine

/-! ### The candidate list (R52 to R57) -/

/-- The candidate list holds at most 16 records (R52). -/
def candidateCapacity : Nat := 16

/-- A record with this sequence and time is a copy of the one held: same sequence, and a difference of arrival of no more than
duplicate_window_ms (R47, R49, R53). -/
def isCopy (s : State) (sequence : BitVec 4) (time : Millis) (t : TelegramRecord) : Bool :=
  decide (sequence = t.sequence) && decide (absDiff time t.arrival ≤ s.setting .duplicateWindowMs)

/-- A hit that counts as moving-rolling: ROLLING while the vehicle moves (R53). -/
def movingHit (s : State) (t : TelegramRecord) : Bool := decide (t.mode = .rolling) && moving s

/-- One more, saturating at 255 (R52). -/
def saturate (n : Nat) : Nat := if n < 255 then n + 1 else n

/-- A candidate after a record for its ID (R53). -/
def updateCandidate (s : State) (t : TelegramRecord) (c : Candidate) : Candidate :=
  let stronger := decide (c.bestRssi.toNat < t.rssi.toNat)
  let c' : Candidate := { c with
    lastHeard := t.arrival, laneMask := c.laneMask ||| BitVec.twoPow 4 t.lane.val
    bestLane := if stronger then t.lane else c.bestLane
    bestRssi := if stronger then t.rssi else c.bestRssi }
  if isCopy s c.lastSequence c.lastTime t then c'
  else { c' with
    hits := saturate c.hits, movingHits := if movingHit s t then saturate c.movingHits else c.movingHits
    lastSequence := t.sequence, lastTime := t.arrival }

/-- The record a new candidate begins with (R54). -/
def newCandidate (s : State) (t : TelegramRecord) : Candidate :=
  { id := t.id, firstHeard := t.arrival, lastHeard := t.arrival, hits := 1
    laneMask := BitVec.twoPow 4 t.lane.val, bestLane := t.lane, bestRssi := t.rssi
    movingHits := if movingHit s t then 1 else 0, lastSequence := t.sequence, lastTime := t.arrival }

/-- A candidate goes before another at eviction: fewer hits, then heard longer ago (R54). -/
def evictsBefore (a b : Candidate) : Bool :=
  decide (a.hits < b.hits) || (decide (a.hits = b.hits) && decide (a.lastHeard < b.lastHeard))

/-- The candidate to evict: the first in list order that none goes before (R54). -/
def evictee : List Candidate → Option Candidate
  | [] => none
  | c :: rest => some (rest.foldl (fun best x => if evictsBefore x best then x else best) c)

/-- The list with room for one more (R54). -/
def makeRoom (l : List Candidate) : List Candidate :=
  if l.length < candidateCapacity then l
  else
    match evictee l with
    | none => l
    | some v => l.filter fun c => decide (c.id ≠ v.id)

/-- CAND takes an unknown record (R53, R54), and informs ENC of a creation, of a moving-rolling hit, or of a change of best
lane, on which the search runs (R127). -/
def takeCandidate (t : TelegramRecord) (s : State) : State :=
  match s.candidates.find? (fun c => decide (c.id = t.id)) with
  | some c =>
    let c' := updateCandidate s t c
    let s := s.setCandidates (s.candidates.map fun x => if x.id = t.id then c' else x)
    if c'.movingHits ≠ c.movingHits ∨ c'.bestLane ≠ c.bestLane then search s else s
  | none => search (settleProposal (s.setCandidates (makeRoom s.candidates ++ [newCandidate s t])))

/-- The moment a candidate ages out (R55). -/
def candidateExpired (s : State) (c : Candidate) : Bool :=
  decide (c.lastHeard + s.setting .candidateAgeS * 1000 ≤ s.now)

/-- CANDIDATE_AGE_EXPIRY of an ID (R55, R57). -/
def candidateAgeExpiry (id : SensorId) (s : State) : State :=
  settleProposal (s.setCandidates (s.candidates.filter fun c => !(decide (c.id = id) && candidateExpired s c)))

/-- A new candidate_age_s removes at once every record whose expiry has passed (R55). -/
def ageCandidates (s : State) : State :=
  settleProposal (s.setCandidates (s.candidates.filter fun c => !candidateExpired s c))

/-! ### Classification (R44) -/

inductive TelegramClass where
  | tool
  | enrolled (row : Row)
  | foreign (entry : EntryNo) (slot : SlotNo)
  | unknown
deriving DecidableEq, Repr

/-- The first of the four classes whose test the ID meets (R44). -/
def classify (s : State) (id : SensorId) : TelegramClass :=
  if inToolBlock id then .tool
  else
    match rowHolding s id with
    | some r => .enrolled r
    | none =>
      match slotsWith s id with
      | (k, t) :: _ => .foreign k t
      | [] => .unknown

/-! ### The session duplicate memory (R46) -/

/-- The session duplicate memory holds at most four entries (R46). -/
def copyCapacity : Nat := 4

/-- The record is a duplicate for the session (R46). -/
def sessionCopy (s : State) (t : TelegramRecord) : Bool :=
  s.enc.copies.any fun c => decide (c.id = t.id) && isCopy s c.sequence c.arrival t

/-- A record enters the memory: the entry of its ID goes, the new one is first, the fifth goes (R46). -/
def rememberCopy (t : TelegramRecord) (s : State) : State :=
  let entry : HeardCopy := { id := t.id, sequence := t.sequence, arrival := t.arrival }
  s.setEnc { s.enc with
    copies := (entry :: s.enc.copies.filter fun c => decide (c.id ≠ t.id)).take copyCapacity }

/-- A record bound for ENC passes the session duplicate check while a session is open (R45, R46). -/
def handToEnc (act : State → State) (t : TelegramRecord) (s : State) : State :=
  if sessionOpen s ∧ !sessionCopy s t then act (rememberCopy t s) else s

/-! ### Routing (R43 to R50) -/

/-- The wheel record's RSSI for the record's lane (R48). -/
def noteRssi (r : Row) (t : TelegramRecord) (s : State) : State :=
  let w := s.wheel r
  putWheel r { w with rssi := w.rssi.set t.lane t.rssi } s

/-- The record repeats the last measurement accepted for a row (R47). -/
def enrolledCopy (s : State) (r : Row) (t : TelegramRecord) : Bool :=
  match (s.wheel r).lastSequence, (s.wheel r).lastAccepted with
  | some q, some time => isCopy s q time t
  | _, _ => false

/-- An enrolled record (R48). -/
def takeEnrolled (r : Row) (t : TelegramRecord) (s : State) : State :=
  let copy := enrolledCopy s r t
  let s := noteRssi r t s
  if copy then s
  else
    let s := measure r t s
    settleProposal (if sessionOpen s ∧ t.mode = .triggered then takeAnswer (.enrolled r) t.id s else s)

/-- The record repeats the last one counted for a slot (R49). -/
def slotCopy (s : State) (k : EntryNo) (slot : SlotNo) (t : TelegramRecord) : Bool :=
  match s.recog[k].sequence[slot] with
  | some (q, time) => isCopy s q time t
  | none => false

/-- A roster-foreign record: recognition while RECOGNISING, and ENC when it is TRIGGERED (R49). -/
def takeForeign (k : EntryNo) (slot : SlotNo) (t : TelegramRecord) (s : State) : State :=
  let s := if s.trailer = .recognising ∧ !slotCopy s k slot t then countTelegram k slot t s else s
  if t.mode = .triggered then handToEnc (takeAnswer .foreign t.id) t s else s

/-- An unknown record: to ENC when TRIGGERED in a session, to CAND otherwise (R50). -/
def takeUnknown (t : TelegramRecord) (s : State) : State :=
  if t.mode = .triggered ∧ sessionOpen s then handToEnc (takeAnswer .unknown t.id) t s else takeCandidate t s

/-- TAU listens in ACTIVE and in PARK_WATCH (R43). -/
def tauListens (s : State) : Bool := decide (s.osc.state = .active) || decide (s.osc.state = .parkWatch)

/-- TAU takes a telegram record whole (R43, R44). -/
def acceptRecord (t : TelegramRecord) (s : State) : State :=
  if !tauListens s then s
  else
    match classify s t.id with
    | .tool => handToEnc (takeTool t.pressure.toNat) t s
    | .enrolled r => takeEnrolled r t s
    | .foreign k slot => takeForeign k slot t s
    | .unknown => takeUnknown t s

/-- TAU takes the oldest record a lane has handed, when it is one the step is for. -/
def takeHanded (lane : LaneNo) (isFor : State → TelegramRecord → Bool) (s : State) : State :=
  match s.handed.find? (fun t => decide (t.lane = lane)) with
  | none => s
  | some t =>
    if isFor s t then acceptRecord t (s.setHanded (s.handed.eraseP fun t => decide (t.lane = lane))) else s

/-- TELEGRAM_RECORD: TAU takes the oldest record handed by a lane, of any class (R43 to R50). -/
def execTelegramRecord (lane : LaneNo) (s : State) : Result := whileRunning (takeHanded lane fun _ _ => true) s

/-- The record is a tool action with this code that reaches ENC (R38, R45, R46, R113). -/
def toolAction (code : Nat) (s : State) (t : TelegramRecord) : Bool :=
  tauListens s && inToolBlock t.id && sessionOpen s && !sessionCopy s t && decide (t.pressure.toNat = code)

/-- SKIP: TAU takes a tool record with action code 1 (R113). -/
def execSkip (lane : LaneNo) (s : State) : Result := whileRunning (takeHanded lane (toolAction 1)) s

/-- BACK: TAU takes a tool record with action code 2 (R113). -/
def execBack (lane : LaneNo) (s : State) : Result := whileRunning (takeHanded lane (toolAction 2)) s

/-- ABORT: TAU takes a tool record with action code 3 (R113). -/
def execAbort (lane : LaneNo) (s : State) : Result := whileRunning (takeHanded lane (toolAction 3)) s

def execCandidateAgeExpiry (id : SensorId) (s : State) : Result := whileRunning (candidateAgeExpiry id) s

end Sys2Proof.Machine
end

