-- ==== Sys2Proof/Machine/Lanes.lean ====
section
/-! DEFINITION. Section 2: what a lane does with the bit it takes, and what each kind of bit brings about. -/

namespace Sys2Proof.Machine

/-- The sync word 0xB38E, oldest bit first (2.3). -/
def syncWord : List Bool :=
  [true, false, true, true, false, false, true, true, true, false, false, false, true, true, true, false]

/-- The bit history keeps at most the last 16 bits, oldest first (R25, R29). -/
def pushHistory (history : List Bool) (bit : Bool) : List Bool :=
  let h := history ++ [bit]
  h.drop (h.length - 16)

/-- A run lengthened by an equal bit, or begun anew (R30, R32). -/
def extendRun (run : BitRun) (bit : Bool) : BitRun :=
  if run.length ≠ 0 ∧ run.value = bit then { run with length := run.length + 1 } else { value := bit, length := 1 }

/-- What a bit brings about in a lane. -/
inductive BitEffect where
  /-- The lane is DISABLED: the bit is not taken. -/
  | notTaken
  /-- The bit only updates the lane's state. -/
  | moves (state : LaneState)
  /-- The bit completes the sync word (R29). -/
  | sync
  /-- The bit brings the hunt run to 48 (R30). -/
  | jam
  /-- The bit ends a jam (R31). -/
  | clears
  /-- The bit is a stuff bit equal to the five before it (R33). -/
  | violation
  /-- The bit is the 72nd de-stuffed bit of a body (R34). -/
  | completes (body : List Bool) (rssi : Byte)
deriving DecidableEq, Repr

/-- The effect of a bit in each lane state (R29 to R34). -/
def bitEffect (l : LaneState) (bit : Bool) : BitEffect :=
  match l with
  | .disabled => .notTaken
  | .hunt history run =>
    let h := pushHistory history bit
    let run := extendRun run bit
    if h = syncWord then .sync else if run.length = 48 then .jam else .moves (.hunt h run)
  | .body bits run rssi =>
    if run.length = 5 then
      if run.value = bit then .violation else .moves (.body bits { value := bit, length := 1 } rssi)
    else if bits.length = 71 then .completes (bits ++ [bit]) rssi
    else .moves (.body (bits ++ [bit]) (extendRun run bit) rssi)
  | .jammed v => if v = bit then .moves (.jammed v) else .clears

/-- The linear conversion of a level: 0 at ground and 255 at the supply level, so one more for every 257 of the operand's units. A level
between two results gives one of them, and which is a FREE VALUE (R187; log entry 24). -/
def convertedLevel (level : BitVec 16) : Nat :=
  level.toNat / 257 + (if level.toNat % 257 = 0 then 0 else (Config.rssiRoundsUp level).toNat)

/-- The RSSI of a level: its conversion, of which a result of 0 is taken as 1 (R29, R187). -/
def sampledRssi (level : BitVec 16) : Byte := BitVec.ofNat 8 (max 1 (convertedLevel level))

/-- The lane enters BODY with a partial telegram of no bits (R29). -/
def enterBody (lane : LaneNo) (level : BitVec 16) (s : State) : State :=
  putLane lane { s.lane lane with state := .body [] .empty (sampledRssi level) } s

/-- The lane enters JAMMED, sets JAM_SEEN and raises LANE_JAM (R30). -/
def enterJam (lane : LaneNo) (bit : Bool) (s : State) : State :=
  let l := s.lane lane
  raiseEvent .laneJam none (some lane.val)
    (putLane lane { state := .jammed bit, flags := { l.flags with jam := true } } s)

/-- The jam ends; the differing bit is the first of the new HUNT, and LANE_CLEAR is raised (R31). -/
def leaveJam (lane : LaneNo) (bit : Bool) (s : State) : State :=
  raiseEvent .laneClear none (some lane.val)
    (putLane lane { s.lane lane with state := .hunt [bit] { value := bit, length := 1 } } s)

/-- The partial telegram is dropped and RUN_VIOLATION_SEEN set (R33). -/
def dropViolation (lane : LaneNo) (s : State) : State :=
  let l := s.lane lane
  putLane lane { state := .freshHunt, flags := { l.flags with runViolation := true } } s

/-- A complete body is checked, first the CRC and then the form, and its record handed to TAU or dropped (R34 to R36,
R39). -/
def finishBody (lane : LaneNo) (body : List Bool) (rssi : Byte) (s : State) : State :=
  let l := s.lane lane
  if !crcGood body then putLane lane { state := .freshHunt, flags := { l.flags with crcFail := true } } s
  else if malformedBody body then
    putLane lane { state := .freshHunt, flags := { l.flags with malformed := true } } s
  else
    (putLane lane { l with state := .freshHunt } s).setHanded (s.handed ++ [recordOf lane rssi s.now body])

/-- SYNC_MATCH: a bit that completes the sync word, with the level the front end then gives (R29). -/
def syncMatch (lane : LaneNo) (bit : Bool) (level : BitVec 16) (s : State) : State :=
  match bitEffect (s.lane lane).state bit with
  | .sync => enterBody lane level s
  | _ => s

def execSyncMatch (lane : LaneNo) (bit : Bool) (level : BitVec 16) (s : State) : Result :=
  whileRunning (syncMatch lane bit level) s

/-- LANE_JAM: a bit that brings the hunt run to 48 (R30). -/
def laneJam (lane : LaneNo) (bit : Bool) (s : State) : State :=
  match bitEffect (s.lane lane).state bit with
  | .jam => enterJam lane bit s
  | _ => s

def execLaneJam (lane : LaneNo) (bit : Bool) (s : State) : Result := whileRunning (laneJam lane bit) s

/-- LANE_CLEAR: the first differing bit in JAMMED (R31). -/
def laneClear (lane : LaneNo) (bit : Bool) (s : State) : State :=
  match bitEffect (s.lane lane).state bit with
  | .clears => leaveJam lane bit s
  | _ => s

def execLaneClear (lane : LaneNo) (bit : Bool) (s : State) : Result := whileRunning (laneClear lane bit) s

/-- RUN_VIOLATION: an expected stuff bit equal to the five before it (R33). -/
def runViolation (lane : LaneNo) (bit : Bool) (s : State) : State :=
  match bitEffect (s.lane lane).state bit with
  | .violation => dropViolation lane s
  | _ => s

def execRunViolation (lane : LaneNo) (bit : Bool) (s : State) : Result := whileRunning (runViolation lane bit) s

/-- TELEGRAM_COMPLETE: the 72nd de-stuffed bit (R34). -/
def telegramComplete (lane : LaneNo) (bit : Bool) (s : State) : State :=
  match bitEffect (s.lane lane).state bit with
  | .completes body rssi => finishBody lane body rssi s
  | _ => s

def execTelegramComplete (lane : LaneNo) (bit : Bool) (s : State) : Result :=
  whileRunning (telegramComplete lane bit) s

/-- BIT_TAKEN: a bit that only updates the lane's state (R29, R30, R32). -/
def bitTaken (lane : LaneNo) (bit : Bool) (s : State) : State :=
  match bitEffect (s.lane lane).state bit with
  | .moves state => putLane lane { s.lane lane with state } s
  | _ => s

def execBitTaken (lane : LaneNo) (bit : Bool) (s : State) : Result := whileRunning (bitTaken lane bit) s

end Sys2Proof.Machine
end

