-- ==== Sys2Proof/Machine/Vehicle.lean ====
section
/-! DEFINITION. Sections 7.1 to 7.4: what VDM takes from a vehicle data frame, its timeout, and the applied loads. -/

namespace Sys2Proof.Machine

/-- The speed takes a value; a change is delivered to WEVU for each wheel's timing set and to ENC (R134, R141). -/
def setSpeed (speed : Option Nat) (s : State) : State :=
  if speed = s.vdm.speed then s else sessionMoved (retime s (s.setVdm { s.vdm with speed := speed }))

/-- Replace the load data of a unit. -/
def putUnit (u : UnitName) (v : UnitLoad) (s : State) : State :=
  match u with
  | .truck => s.setVdm { s.vdm with truck := v }
  | .trailer => s.setVdm { s.vdm with trailer := v }

/-- The applied load of a unit takes a value and the settle state becomes idle; a change is delivered to WEVU, which
re-evaluates the unit's wheels (R140). -/
def applyLoad (u : UnitName) (load : LoadState) (s : State) : State :=
  let v := unitLoad s u
  let s := putUnit u { v with applied := load, settle := none } s
  if v.applied = load then s else reevaluate (unitRows u) s

/-- A reported UNLADEN or LADEN against the applied load and the settle state (R138). -/
def settleLoad (u : UnitName) (load : LoadState) (s : State) : State :=
  let v := unitLoad s u
  if load = v.applied then putUnit u { v with settle := none } s
  else
    match v.settle with
    | some _ => s
    | none =>
      if s.setting .loadSettleS = 0 then applyLoad u load s
      else putUnit u { v with settle := some (load, s.now + s.setting .loadSettleS * 1000) } s

/-- A reported load is held and acted on (R134, R138, R139). -/
def reportLoad (u : UnitName) (rep : LoadReport) (s : State) : State :=
  let s := putUnit u { unitLoad s u with reported := rep } s
  match rep with
  | .unladen => settleLoad u .unladen s
  | .laden => settleLoad u .laden s
  | .tipping => putUnit u { unitLoad s u with settle := none } s
  | .unknown => applyLoad u .laden s

/-- Step 4 of R134: codes 0 and 1 set trailer connected; every other code leaves it. A change goes to WMAP (R19, R24). -/
def setConnected (code : Nat) (s : State) : State :=
  if code = 1 ∧ s.vdm.connected = false then connectTrailer (s.setVdm { s.vdm with connected := true })
  else if code = 0 ∧ s.vdm.connected = true then disconnectTrailer (s.setVdm { s.vdm with connected := false })
  else s

/-- Step 5 of R134: the lift mask; a change is delivered to WEVU (R97, R98). -/
def setLift (mask : BitVec 8) (s : State) : State := liftChange s (s.setVdm { s.vdm with liftMask := mask })

/-- The ambient pressure a frame's field sets (R60). -/
def ambientFrom (held field : Nat) : Pu := if field = 0 then held else max 120 (min 240 field)

/-- Step 1 of R134: the data status and the frame timeout; VEHICLE_DATA_BACK when the data was lost (R135, R136). -/
def frameSeen (s : State) : State :=
  let s := if s.vdm.status = .lost then raiseEvent .vehicleDataBack none none s else s
  s.setVdm { s.vdm with
    status := .present, frameDeadline := some (s.now + s.setting .vehicleDataTimeoutMs) }

/-- The speed field: 255 is unknown (R134). -/
def speedOf (code : Nat) : Option Nat := if code = 255 then none else some code

/-- VDM takes a frame whole: the seven steps of R134. -/
def takeVehicleData (data : List Byte) (s : State) : State :=
  let s := setSpeed (speedOf (natAt data 0)) (frameSeen s)
  let s := reportLoad .trailer (loadReportOf (natAt data 2)) (reportLoad .truck (loadReportOf (natAt data 1)) s)
  let s := setLift (byteAt data 4) (setConnected (natAt data 3) s)
  notice .vehicleFrame (s.setVdm { s.vdm with ambient := ambientFrom s.vdm.ambient (natAt2 data 5) })

/-- A frame with the vehicle data identifier: passed to VDM in any state but DORMANT; VDM discards one whose data length is not 8
(R134, R165). -/
def vehicleFrame (data : List Byte) (s : State) : State :=
  if s.osc.state = .dormant ∨ data.length ≠ 8 then s else takeVehicleData data s

/-- FRAME_TIMEOUT_EXPIRY (R135). In LOST the deadline of a wake ends with nothing more (R142). -/
def frameTimeout (s : State) : State :=
  if due s s.vdm.frameDeadline then
    let lost := s.vdm.status = .lost
    let s := s.setVdm { s.vdm with status := .lost, frameDeadline := none }
    if lost then s
    else reportLoad .trailer .unknown (reportLoad .truck .unknown (setSpeed none (raiseEvent .vehicleDataLost none none s)))
  else s

def execFrameTimeoutExpiry (s : State) : Result := whileRunning frameTimeout s

/-- SETTLE_EXPIRY of a unit (R140). -/
def settleExpiry (u : UnitName) (s : State) : State :=
  match (unitLoad s u).settle with
  | some (load, t) => if t ≤ s.now then applyLoad u load s else s
  | none => s

def execSettleExpiry (u : UnitName) (s : State) : Result := whileRunning (settleExpiry u) s

end Sys2Proof.Machine
end

