-- ==== Sys2Proof/Machine/Resets.lean ====
section
/-! DEFINITION. The load of the tables, cold and warm resets, the RESET line and the supply; and the saves that a reset waits
for or cuts short (sections 8.6 to 8.9, 11.5). -/

namespace Sys2Proof.Machine

/-- The load at the entry to STARTING: the image's content when it is valid; else the factory values, with the dirty and store
invalid flags set and STORE_INVALID raised (R156). -/
def loadTables (s : State) : State :=
  match s.image with
  | .written content crc =>
    if crc16 (Config.imageBits content) = crc then
      (s.setTables content).setStore { s.store with dirty := false, invalid := false }
    else raiseEvent .storeInvalid none none ((s.setTables .factory).setStore { s.store with dirty := true, invalid := true })
  | .blank | .cutShort =>
    raiseEvent .storeInvalid none none ((s.setTables .factory).setStore { s.store with dirty := true, invalid := true })

/-- The wheel record of a row after a reset: restarted, with no frame queued and no event raised (R78). -/
def resetWheel (s : State) (r : Row) : WheelRecord :=
  .fresh (if (rowId s r).isSome then .awaiting else .vacant)

/-- A bit-rate search begun at the first candidate (R164). -/
def searchFrom (s : State) : Link :=
  .cleared .searching none (searchList s.tables.link.preferred) (some (s.now + 2000))

/-- LINK after a reset: a search after a cold reset, or afresh when a warm reset finds the rate not fixed; RUNNING at the rate
in effect otherwise (R164). -/
def resetLink (before : Link) (s : State) : Link :=
  if before.state = .searching then searchFrom s else .cleared .running before.rate [] none

/-- Everything volatile takes its reset value (R19, R25, R52, R78, R107, R133, R137, R143, R152, R154, R158), FROZEN aside. What a
reset leaves of the link is worked out at the entry to STARTING, so here only its state and its rate are kept. -/
def clearVolatile (s : State) : State :=
  let s := ((((s.setLanes (Vector.replicate 4 .reset)).setHanded []).setTrailer .none).setWindow none).setRecog noRecog
  let s := ((s.setCandidates []).setEnc .reset).setEpisodes (Vector.replicate 32 .reset)
  let s := ((s.setVdm (.reset none)).setOsc .reset).setWheels (Vector.replicate 32 (.fresh .vacant))
  let s := (s.setEvq { records := [], overflow := false, taken := none }).setStore .reset
  (s.setMgu { s.mgu with deferredRestart := none }).setLink (.cleared s.link.state s.link.rate [] none)

/-- The entry to STARTING: everything volatile at its reset value, the load, then what is worked out with the loaded values (R156,
R78, R133, R164). -/
def enterStarting (before : Link) (s : State) : State :=
  let s := loadTables ((clearVolatile s).setPhase .running)
  let s := s.setWheels (Vector.ofFn fun r => resetWheel s r)
  let s := s.setVdm (.reset (some (s.now + s.setting .vehicleDataTimeoutMs)))
  s.setLink (resetLink before s)

/-- A warm reset with no pause: the RESTART request (R177). The clock goes on counting and FROZEN keeps its value. -/
def warmReset (s : State) : State := enterStarting s.link s

/-- A cold reset: a save in flight is cut, the clock begins at 0, FROZEN is clear and the link searches (R143, R162, R164,
R180). -/
def coldReset (s : State) : State :=
  let s := (cutSave s).setClock 0
  enterStarting { s.link with state := .searching } (s.setMgu { s.mgu with frozen := false })

/-- COLD_RESET: power-on reset (R143). The level of the RESET line is not held: the part enters STARTING at once, also where the line has
been held low through the loss of supply, and a later RESET_RELEASE finds nothing to do (DESIGN CHOICE, log entry 43). -/
def execColdReset (s : State) : Result := .next (coldReset s)

/-- POWER_LOSS: a save in flight leaves the image invalid, and the part is without supply until a cold reset (R162, R187). -/
def execPowerLoss (s : State) : Result := .next ((clearVolatile (cutSave s)).setPhase .off)

/-- RESET_ASSERT: the warm reset takes place at the assertion and the part is held in reset (R187); a save in flight is cut
(R162). -/
def resetAssert (s : State) : State := (clearVolatile (cutSave s)).setPhase .inReset

def execResetAssert (s : State) : Result := whileRunning resetAssert s

/-- RESET_RELEASE: the part enters STARTING (R187). -/
def execResetRelease (s : State) : Result :=
  if s.phase = .inReset then .next (enterStarting s.link s) else .next s

/-! ### Saves (R158 to R161) -/

/-- CRANK_ASSERT by save state (R159). -/
def crankAssert (s : State) : State :=
  let s := s.setLines { s.lines with crank := true }
  match s.store.state with
  | .writing => s.setStore { s.store with state := .suspended }
  | .resuming => s.setStore { s.store with state := .suspended, resumeAt := none }
  | .idle | .suspended => s

def execCrankAssert (s : State) : Result :=
  if s.phase = .running then .next (crankAssert s) else .next (s.setLines { s.lines with crank := true })

/-- CRANK_RELEASE by save state: a suspended save resumes 100 ms later (R159). -/
def crankRelease (s : State) : State :=
  let s := s.setLines { s.lines with crank := false }
  match s.store.state with
  | .suspended => s.setStore { s.store with state := .resuming, resumeAt := some (s.now + 100) }
  | .idle | .writing | .resuming => s

def execCrankRelease (s : State) : Result :=
  if s.phase = .running then .next (crankRelease s) else .next (s.setLines { s.lines with crank := false })

/-- RESUME_EXPIRY (R159). -/
def resumeExpiry (s : State) : State :=
  if s.store.state = .resuming ∧ due s s.store.resumeAt then
    s.setStore { s.store with state := .writing, resumeAt := none }
  else s

def execResumeExpiry (s : State) : Result := whileRunning resumeExpiry s

/-- OSC takes a deferred GO_OFFLINE at a completion: refused while a session is open, else the state becomes OFFLINE; either
way it is answered (R148). 0x03 is the request code. -/
def takeDeferredOffline (s : State) : State :=
  match s.osc.deferredOffline with
  | none => s
  | some tag =>
    let s := s.setOsc { s.osc with deferredOffline := none }
    if sessionOpen s then respond 0x03 tag .wrongState [] s else respond 0x03 tag .ok [] (enterState .offline s)

/-- MGU takes a deferred RESTART at a completion that started no new save (R161). -/
def takeDeferredRestart (s : State) : State :=
  if s.mgu.deferredRestart.isSome ∧ !saveInFlight s then warmReset s else s

/-- The completion of a save (R160): the image, the flags, SAVE_DONE, the new save of save-again, then the deferred GO_OFFLINE
and the deferred RESTART (log entry 15). -/
def completeSave (content : Tables) (s : State) : State :=
  let again := s.store.saveAgain
  let s := (s.setImage (imageOf content)).setStore { s.store with
    state := .idle, captured := none, remaining := 0, resumeAt := none, saveAgain := false, invalid := false }
  let s := raiseEvent .saveDone none none s
  takeDeferredRestart (takeDeferredOffline (if again then startSave s else s))

/-- SAVE_COMPLETE: a save in WRITING has spent its write time (R160). -/
def saveComplete (s : State) : State :=
  match s.store.captured with
  | none => s
  | some content =>
    if s.store.state = .writing ∧ s.store.remaining = 0 then completeSave content s else s

def execSaveComplete (s : State) : Result := whileRunning saveComplete s

end Sys2Proof.Machine
end

