-- ==== Sys2Proof/Machine/LinkOps.lean ====
section
/-! DEFINITION. Section 9: the bit-rate search, reception of requests and other frames, transmission, reports and the snapshot. -/

namespace Sys2Proof.Machine

/-! ### Search and reception -/

/-- SEARCH_DEADLINE_EXPIRY: the next candidate rate, or the first after the last (R164). -/
def searchExpiry (s : State) : State :=
  if s.link.state = .searching ∧ due s s.link.searchDeadline then
    s.setLink { s.link with
      searchIndex := (s.link.searchIndex + 1) % s.link.searchRates.length
      searchDeadline := some (s.now + 2000) }
  else s

def execSearchDeadlineExpiry (s : State) : Result := whileRunning searchExpiry s

/-- The first error-free frame at the candidate rate fixes the bit rate (R164). -/
def fixRate (s : State) : State :=
  if s.link.state = .searching then
    s.setLink { s.link with
      state := .running, searchDeadline := none, rate := s.link.searchRates[s.link.searchIndex]? }
  else s

/-- What LINK does with a received frame: the rows of the table of R165. -/
inductive FrameUse where
  | vehicleData
  | request
  | ignored
deriving DecidableEq, Repr

/-- The REQUEST identifier, node base + 8 (R163). -/
def LinkSettings.requestId (l : LinkSettings) : BitVec 11 := l.nodeBase + 8

/-- LINK passes a frame on by its identifier, under the link settings now in force; a remote frame and one with a 29-bit identifier are
ignored (R163, R165). -/
def frameUse (l : LinkSettings) (f : BusFrame) : FrameUse :=
  match f.id with
  | .standard id =>
    if f.remote then .ignored
    else if id = l.vehicleId then .vehicleData
    else if id = l.requestId then .request
    else .ignored
  | .extended _ => .ignored

/-- The request FIFO holds at most 4 frames (R166). -/
def requestCapacity : Nat := 4

/-- A frame with the REQUEST identifier enters the FIFO, or is discarded with the overrun flag set (R165, R166). -/
def requestArrives (data : List Byte) (s : State) : State :=
  if s.link.requests.length < requestCapacity then
    s.setLink { s.link with requests := s.link.requests ++ [data] }
  else s.setLink { s.link with overrun := true }

/-- An error-free frame reaches LINK: it fixes the rate while the link searches, and is passed on by its identifier (R164, R165). -/
def frameArrives (f : BusFrame) (s : State) : State :=
  match frameUse s.tables.link f with
  | .vehicleData => vehicleFrame f.data (fixRate s)
  | .request => requestArrives f.data (fixRate s)
  | .ignored => fixRate s

/-- A data field of more than 8 bytes is no CAN frame (log entry 22). -/
def receiveFrame (f : BusFrame) (s : State) : Result :=
  if maxDataLength < f.data.length then .fault .frameTooLong else whileRunning (frameArrives f) s

/-- VEHICLE_DATA_FRAME: the frame arrives. Which row of R165 it meets is decided by its identifier (log entry 25). -/
def execVehicleDataFrame (f : BusFrame) (s : State) : Result := receiveFrame f s

/-- REQUEST_FRAME: the frame arrives. Which row of R165 it meets is decided by its identifier (log entry 25). -/
def execRequestFrame (f : BusFrame) (s : State) : Result := receiveFrame f s

/-- OTHER_FRAME_RECEIVED: a frame that LINK ignores fixes the rate while the link searches, and does nothing else (R164, R165). -/
def execOtherFrameReceived (s : State) : Result := whileRunning fixRate s

/-! ### Transmission (R167 to R169) -/

/-- A class is sent in an operating state (R169). -/
def classSent (o : OpState) : TxFrame → Bool
  | .alert _ => decide (o = .active) || decide (o = .parkWatch)
  | .response _ => decide (o ≠ .starting)
  | .status _ => decide (o = .active)
  | .partStatus _ => sendsPartStatus o

/-- The next frame to send: the oldest of the first class that holds one and is sent in the present state (R167). -/
def nextFrame (s : State) : Option TxFrame :=
  let heads := [s.link.alerts.head?.map TxFrame.alert, s.link.responses.head?.map TxFrame.response,
    s.link.statuses.head?.map TxFrame.status, s.link.partStatus.map TxFrame.partStatus]
  (heads.filterMap id).find? (classSent s.osc.state)

/-- A frame leaves its class, of which it is the oldest (R168). -/
def unqueue (f : TxFrame) (l : Link) : Link :=
  match f with
  | .alert _ => { l with alerts := l.alerts.tail }
  | .response _ => { l with responses := l.responses.tail }
  | .status _ => { l with statuses := l.statuses.tail }
  | .partStatus _ => { l with partStatus := none }

/-- TRANSMIT_START: in RUNNING, with the buffer free, the next frame goes to the transmit buffer and an attempt begins (R167 to
R169). Its identifier is worked out now, from the node base now in force (R163), and is the attempt's until it ends, also when SET_LINK
is served meanwhile (DESIGN CHOICE, log entry 33). -/
def transmitStart (s : State) : State :=
  if s.link.state = .running ∧ s.link.buffer.isNone then
    match nextFrame s with
    | none => s
    | some f =>
      s.setLink { unqueue f s.link with
        buffer := some { frame := f, identifier := f.identifier s.tables.link.nodeBase, data := f.data } }
  else s

def execTransmitStart (s : State) : Result := whileRunning transmitStart s

/-- A frame whose attempt was not sent returns as its class's oldest, unless a newer frame replaces it or its class is not sent
in the present state (R168). The present state is the one at the attempt's end: a STATUS frame that was in the buffer at an exit from
ACTIVE and comes back when ACTIVE has been entered again is kept, although R169 can be read to discard it (DESIGN CHOICE, log entry
38). -/
def requeue (o : OpState) (f : TxFrame) (l : Link) : Link :=
  match f with
  | .alert a => if l.alerts.any (fun x => decide (x.row = a.row)) then l else { l with alerts := a :: l.alerts }
  | .response r => { l with responses := r :: l.responses }
  | .status a =>
    if l.statuses.any (fun x => decide (x.row = a.row)) || !classSent o f then l
    else { l with statuses := a :: l.statuses }
  | .partStatus p => if l.partStatus.isSome || !classSent o f then l else { l with partStatus := some p }

/-- A sent PART_STATUS frame that carried the request overrun flag set clears it (R166). -/
def overrunAfter (f : TxFrame) (overrun : Bool) : Bool :=
  match f with
  | .partStatus p => overrun && !p.requestOverrun
  | _ => overrun

/-- The failures in a row that pause sending (R168). -/
def failureLimit : Nat := 32

/-- TRANSMIT_DONE (R168). -/
def transmitDone (how : AttemptEnd) (s : State) : State :=
  match s.link.buffer with
  | none => s
  | some a =>
    let l := { s.link with buffer := none }
    match how with
    | .sent => s.setLink { l with failures := 0, overrun := overrunAfter a.frame l.overrun }
    | .arbitrationLost => s.setLink (requeue s.osc.state a.frame l)
    | .failed =>
      let l := requeue s.osc.state a.frame { l with failures := l.failures + 1 }
      if l.failures < failureLimit then s.setLink l
      else
        raiseEvent .linkFault none none
          (s.setLink { l with state := .busQuiet, quietDeadline := some (s.now + 1000) })

def execTransmitDone (how : AttemptEnd) (s : State) : Result := whileRunning (transmitDone how) s

/-- QUIET_DEADLINE_EXPIRY (R168). -/
def quietExpiry (s : State) : State :=
  if s.link.state = .busQuiet ∧ due s s.link.quietDeadline then
    s.setLink { s.link with state := .running, failures := 0, quietDeadline := none }
  else s

def execQuietDeadlineExpiry (s : State) : Result := whileRunning quietExpiry s

/-! ### Reports and the snapshot (R170 to R172) -/

/-- The row record of a publish (R172). The seconds since last accepted are the whole seconds of the difference in milliseconds, not
the difference to the publish time in whole seconds (DESIGN CHOICE, log entry 39). -/
def snapRow (s : State) (r : Row) : SnapRow :=
  let w := s.wheel r
  { id := idOrZero (rowId s r), status := w.status, level := w.alarmLevel, announcedLevel := w.announcedLevel
    active := w.active, pc := w.pc, pg := w.pg, temperature := w.temperature, flags := w.flags, rssi := w.rssi
    raw := w.raw, lastMode := w.lastMode, leakRate := w.leakRate.getD 65535
    sinceAccepted := seconds16 (w.lastAccepted.map fun t => (s.now - t) / 1000) }

/-- The publish count, from 65535 to 1 (R172). -/
def nextCount (n : Nat) : Nat := if n = 65535 then 1 else n + 1

/-- A publish (R172): FILL takes the picture, FILL and READY exchange roles, READY_NEW is set; HELD is not touched. -/
def publish (s : State) : State :=
  let p := s.link.snapshots
  let n := nextCount p.count
  let fresh : SnapBuffer := { rows := Vector.ofFn fun r => snapRow s r, sequence := n, time := s.now / 1000 }
  s.setLink { s.link with
    snapshots := { fill := p.ready, ready := fresh, held := p.held, readyNew := true, count := n } }

/-- One STATUS frame for each row that is not VACANT, ascending (R170). -/
def queueStatuses (s : State) : State :=
  forRows (fun r s => if (s.wheel r).status = .vacant then s else queueStatus r s) allRows s

/-- REPORT_EXPIRY (R170). -/
def reportExpiry (s : State) : State :=
  if due s s.link.reportDeadline then
    let s := publish s
    let s := if s.osc.state = .active then queueStatuses s else s
    s.setLink { s.link with reportDeadline := some (s.now + s.setting .reportPeriodS * 1000) }
  else s

def execReportExpiry (s : State) : Result := whileRunning reportExpiry s

/-- PART_STATUS_EXPIRY (R171). -/
def partStatusExpiry (s : State) : State :=
  if due s s.link.partStatusDeadline then
    let s := queuePartStatus s
    s.setLink { s.link with partStatusDeadline := some (s.now + s.setting .partStatusPeriodS * 1000) }
  else s

def execPartStatusExpiry (s : State) : Result := whileRunning partStatusExpiry s

end Sys2Proof.Machine
end

