-- ==== Sys2Proof/Machine/Requests.lean ====
section
/-! DEFINITION. Section 10: the take of a request, its checks and its answer, and the requests of MGU, OSC and TST. -/

namespace Sys2Proof.Machine

/-! ### The take and the answer (R166, R174) -/

/-- What an owner makes of a request: the state it leaves, and the result and data it gives back, if it answers now. -/
structure Served where
  state : State
  answer : Option (ResultCode × List Byte)
deriving DecidableEq, Repr

def answered (result : ResultCode) (data : List Byte) (s : State) : Served := { state := s, answer := some (result, data) }

/-- A refused request changes nothing (R174). -/
def refuse (result : ResultCode) (s : State) : Served := answered result [] s

def unanswered (s : State) : Served := { state := s, answer := none }

/-- OK, or CLAMPED when a value was brought into range (R175). -/
def okOrClamped (adjusted : Bool) : ResultCode := if adjusted then .clamped else .ok

/-- The RESPONSE frames queued and in the transmit buffer, and the deferred requests that await an answer (R166); a deferred
RESTART is not counted (R177). -/
def answersOutstanding (s : State) : Nat :=
  s.link.responses.length
    + (match s.link.buffer with
      | some { frame := .response _, .. } => 1
      | _ => 0)
    + (if s.osc.deferredOffline.isSome then 1 else 0)

/-- LINK lets MGU take the next request (R166). -/
def mayTake (s : State) : Bool := decide (answersOutstanding s < 4)

/-- MGU takes the oldest request: it leaves the FIFO, a dormant part wakes into PARK_WATCH, and OSC has the notice
(R174, R147). -/
def takeOff (s : State) : State :=
  let s := s.setLink { s.link with requests := s.link.requests.tail }
  notice .request (if s.osc.state = .dormant then enterState .parkWatch s else s)

/-- The answer to a frame is queued, with the code and the tag the frame holds (R174). -/
def deliver (data : List Byte) (x : Served) : State :=
  match x.answer with
  | some (result, d) => respond (byteAt data 0) (byteAt data 1) result d x.state
  | none => x.state

/-- The edit class of a frame (10.1). -/
def classOf (data : List Byte) : EditClass := (requestClass (natAt data 0)).getD .notAnEdit

/-- Steps 3 and 4 of R174: the guard, then the owner. -/
def judge (owner : List Byte → State → Served) (data : List Byte) (s : State) : Served :=
  if guardAllows s (classOf data) then owner data s else refuse .guarded s

/-- MGU takes and serves the oldest request, when it is one the step is for and R166 lets it (R174; log entry 7). -/
def serve (isFor : List Byte → Bool) (act : List Byte → State → Served) (s : State) : State :=
  match s.link.requests with
  | [] => s
  | data :: _ => if mayTake s && isFor data then deliver data (act data (takeOff s)) else s

/-- A well-formed request frame with this code (steps 1 and 2 of R174). -/
def isRequest (code : Nat) (data : List Byte) : Bool := decide (data.length = 8) && decide (natAt data 0 = code)

/-- MGU serves a request of a code whose form is good: the guard, then the owner (R174). -/
def serveRequest (code : Nat) (owner : List Byte → State → Served) (s : State) : State :=
  serve (isRequest code) (judge owner) s

/-- A frame of the wrong length or with an unknown code (steps 1 and 2 of R174). -/
def isBadFrame (data : List Byte) : Bool := decide (data.length ≠ 8) || (requestClass (natAt data 0)).isNone

/-- BAD_FRAME: answered before the guard is asked (R174). -/
def badFrame (_ : List Byte) (s : State) : Served := refuse .badFrame s

def execBadFrame (s : State) : Result := whileRunning (serve isBadFrame badFrame) s

/-! ### The generic requests (R176, R177) -/

/-- The part code, the characters T, W, 3, 2, and the revision 1 (R176, R186). The spec gives the characters no code: ASCII (PRESUMED,
log entry 41). -/
def identityBytes : List Byte := [0x54, 0x57, 0x33, 0x32, 1]

/-- IDENTIFY (R176). -/
def identifyPart (_ : List Byte) (s : State) : Served := answered .ok identityBytes s

def execIdentify (s : State) : Result := whileRunning (serveRequest 0x01 identifyPart) s

/-- The three parts of READ_PART_STATUS (R176, R186). The spec gives the bytes FROZEN and SERVICE of part 2 no code: 1 for set or
asserted, 0 otherwise (DESIGN CHOICE, log entry 40). -/
def readPartStatus (data : List Byte) (s : State) : Served :=
  match natAt data 2 with
  | 0 => answered .ok (partStatusOf s).head s
  | 1 => answered .ok (partStatusOf s).counts s
  | 2 =>
    answered .ok
      ([s.tables.guardLevel.code, s.mgu.frozen.toNat, s.lines.service.toNat, s.link.state.code, s.store.state.code].map
        (BitVec.ofNat 8)) s
  | _ => refuse .badValue s

def execReadPartStatus (s : State) : Result := whileRunning (serveRequest 0x02 readPartStatus) s

/-- RESTART: a warm reset, unanswered; deferred or BUSY while a save is in flight (R177, R161). -/
def restartRequest (data : List Byte) (s : State) : Served :=
  if s.osc.state = .starting then refuse .wrongState s
  else if saveInFlight s then
    if s.mgu.deferredRestart.isSome then refuse .busy s
    else unanswered (s.setMgu { s.mgu with deferredRestart := some (byteAt data 1) })
  else unanswered (warmReset s)

def execRestart (s : State) : Result := whileRunning (serveRequest 0x05 restartRequest) s

/-! ### Settings (R178) -/

/-- Items 18, 19 and 20 are structural (10.3). -/
def Setting.structural : Setting → Bool
  | .laneEnableMask | .parkLane | .activityMask => true
  | _ => false

/-- A value brought to the nearer end of a setting's range (R175). -/
def Setting.clamp (k : Setting) (v : Nat) : Nat :=
  let range := settingRanges[k.item]
  max range.1 (min range.2.1 v)

/-- A missing time below its set's stale time is raised to equal it (R82, R178). -/
def raiseMissing (k : Setting) (v : Settings) : Settings :=
  match k with
  | .staleMovingS | .missingMovingS =>
    v.set Setting.missingMovingS.item (max v[Setting.missingMovingS.item] v[Setting.staleMovingS.item])
  | .staleParkedS | .missingParkedS =>
    v.set Setting.missingParkedS.item (max v[Setting.missingParkedS.item] v[Setting.staleParkedS.item])
  | _ => v

/-- What a new value brings about when the write is served (R28, R55, R83, R115, R125). Every other setting acts on what is
worked out after the write. -/
def settingEffect (before : State) (k : Setting) (s : State) : State :=
  match k with
  | .candidateAgeS => ageCandidates s
  | .movingSpeedKmh => sessionMoved (retime before s)
  | .proposalDelayS => dueAfterWrite before s
  | .laneEnableMask | .parkLane => relane s
  | _ => s

/-- A table edit that changes stored content is written and sets the dirty flag (R157). -/
def writeTables (t : Tables) (s : State) : State := markDirty (s.setTables t)

/-- SET_SETTING (R178). An answer of BAD_VALUE carries no data: the item code and the value held are read as the data of a write that is
served (DESIGN CHOICE, log entry 46). -/
def setSetting (data : List Byte) (s : State) : Served :=
  match settingOf (natAt data 2) with
  | none => refuse .badValue s
  | some k =>
    let v := natAt4 data 3
    let written := s.tables.settings.set k.item (k.clamp v)
    let settings := raiseMissing k written
    if k.structural && decide (k.clamp v ≠ v) then refuse .badValue s
    else
      let after :=
        if settings = s.tables.settings then s
        else settingEffect s k (writeTables { s.tables with settings := settings } s)
      answered (okOrClamped (decide (k.clamp v ≠ v) || decide (settings ≠ written)))
        (byteAt data 2 :: be32 settings[k.item]) after

def execSetSetting (s : State) : Result := whileRunning (serveRequest 0x07 setSetting) s

/-- READ_SETTING (R178). -/
def readSetting (data : List Byte) (s : State) : Served :=
  match settingOf (natAt data 2) with
  | none => refuse .badValue s
  | some k => answered .ok (byteAt data 2 :: be32 (s.setting k)) s

def execReadSetting (s : State) : Result := whileRunning (serveRequest 0x08 readSetting) s

/-! ### Link settings and guard (R179 to R182) -/

/-- A node base is a multiple of 16 within 0x100..0x7E0 (R163). -/
def nodeBaseLegal (n : Nat) : Bool := decide (n % 16 = 0) && decide (0x100 ≤ n) && decide (n ≤ 0x7E0)

/-- The vehicle data identifier is one of the five identifiers of a node base (R163). -/
def identifierTaken (base id : Nat) : Bool := [0, 1, 2, 3, 8].any fun k => decide (id = base + k)

/-- SET_LINK, its checks in order (R179). The frame in the transmit buffer keeps its identifier (DESIGN CHOICE, log entry 33). -/
def setLinkSettings (data : List Byte) (s : State) : Served :=
  let base := natAt2 data 2
  let id := natAt2 data 4
  match bitRateOf (natAt data 6) with
  | none => refuse .badValue s
  | some rate =>
    if !nodeBaseLegal base || decide (0x7FF < id) || identifierTaken base id then refuse .badValue s
    else if s.osc.state ≠ .offline then refuse .wrongState s
    else
      let l : LinkSettings := { nodeBase := BitVec.ofNat 11 base, vehicleId := BitVec.ofNat 11 id, preferred := rate }
      answered .ok [] (if l = s.tables.link then s else writeTables { s.tables with link := l } s)

def execSetLink (s : State) : Result := whileRunning (serveRequest 0x09 setLinkSettings) s

/-- SET_GUARD (R181). -/
def setGuardLevel (data : List Byte) (s : State) : Served :=
  match guardLevelOf (natAt data 2) with
  | none => refuse .badValue s
  | some level =>
    answered .ok []
      (if level = s.tables.guardLevel then s
      else requestSave (writeTables { s.tables with guardLevel := level } s))

def execSetGuard (s : State) : Result := whileRunning (serveRequest 0x0A setGuardLevel) s

/-- FREEZE (R182, R117). -/
def freezeTables (_ : List Byte) (s : State) : Served :=
  answered .ok [] (if s.mgu.frozen then s else endSession .frozen (s.setMgu { s.mgu with frozen := true }))

def execFreeze (s : State) : Result := whileRunning (serveRequest 0x0B freezeTables) s

/-! ### The requests of OSC and TST (R148, R150, R158) -/

/-- GO_OFFLINE by the table of R148. -/
def goOffline (data : List Byte) (s : State) : Served :=
  if s.osc.state = .starting then refuse .wrongState s
  else if s.osc.state = .offline then answered .ok [] s
  else if s.osc.deferredOffline.isSome then refuse .busy s
  else if sessionOpen s then refuse .wrongState s
  else if saveInFlight s then unanswered (s.setOsc { s.osc with deferredOffline := some (byteAt data 1) })
  else answered .ok [] (enterState .offline s)

def execGoOffline (s : State) : Result := whileRunning (serveRequest 0x03 goOffline) s

/-- GO_ACTIVE: every record restarts, then the state by the IGNITION level (R150). STATE_CHANGE is raised before the PROPOSAL_WITHDRAWN
that the restarts bring (DESIGN CHOICE, log entry 21). -/
def goActive (_ : List Byte) (s : State) : Served :=
  if s.osc.state ≠ .offline then refuse .wrongState s
  else answered .ok [] (settleProposal (enterState (stateByIgnition s) (restartRows allRows s)))

def execGoActive (s : State) : Result := whileRunning (serveRequest 0x04 goActive) s

/-- SAVE (R158). -/
def saveRequest (_ : List Byte) (s : State) : Served :=
  if s.osc.state = .starting then refuse .wrongState s
  else if saveInFlight s then refuse .busy s
  else answered .ok [] (startSave s)

def execSave (s : State) : Result := whileRunning (serveRequest 0x06 saveRequest) s

end Sys2Proof.Machine
end

