-- ==== Sys2Proof/Machine/RequestsMap.lean ====
section
/-! DEFINITION. Sections 1.1 to 1.5: the requests of the wheel map, on axles, rows, the roster and the trailer. -/

namespace Sys2Proof.Machine

/-! ### Axles (R3 to R6) -/

/-- The rows of an axle that a write has made usable or unusable (R6). -/
def usabilityChanged (before s : State) : List Row := allRows.filter fun r => decide (rowUsable before r ≠ rowUsable s r)

/-- The rows that were usable, are so no longer, and hold an ID (R5). -/
def strandedRows (before s : State) : List Row :=
  allRows.filter fun r => rowUsable before r && !rowUsable s r && (rowId s r).isSome

/-- A truck axle record is written; rows no longer usable lose their IDs, and rows whose usability changed restart
(R5, R6). The data give the number of IDs lost. -/
def writeAxle (a : Fin 5) (rec : AxleRecord) (s : State) : Served :=
  if rec = s.tables.axles[a] then answered .ok [0] s
  else
    let written := writeTables { s.tables with axles := s.tables.axles.set a rec } s
    let lost := strandedRows s written
    let emptied := forRows (fun r => writeRowId r none) lost written
    answered .ok (be8 lost.length) (settleProposal (restartRows (usabilityChanged s emptied) emptied))

/-- SET_AXLE, its checks in order (R4). -/
def setAxle (data : List Byte) (s : State) : Served :=
  match indexAt 5 data 2, axleAt data 3 with
  | some a, some rec => if s.osc.state ≠ .offline then refuse .wrongState s else writeAxle a rec s
  | _, _ => refuse .badValue s

def execSetAxle (s : State) : Result := whileRunning (serveRequest 0x10 setAxle) s

/-- READ_AXLE (R3). -/
def readAxle (data : List Byte) (s : State) : Served :=
  match indexAt 8 data 2 with
  | some a => answered .ok (axleOf s a).bytes s
  | none => refuse .badValue s

def execReadAxle (s : State) : Result := whileRunning (serveRequest 0x11 readAxle) s

/-! ### Rows (R9 to R12) -/

/-- A trailer row with no trailer identified cannot be written (R10, R11). -/
def rowAbsent (s : State) (r : Row) : Bool := isTrailerRow r && s.trailer.entry?.isNone

/-- The row's ID changes: written, its candidate removed, its record restarted, the dirty flag set (R10, R11, R56). -/
def changeRow (r : Row) (id : Option SensorId) (s : State) : State :=
  settleProposal (markDirty (restartRows [r] (dropCandidates id.toList (writeRowId r id s))))

/-- WRITE_ROW, its checks in order (R10). -/
def writeRow (data : List Byte) (s : State) : Served :=
  let id := idAt data 3
  match indexAt 32 data 2 with
  | none => refuse .badValue s
  | some r =>
    if !isSensor id then refuse .badValue s
    else if sessionOpen s then refuse .wrongState s
    else if rowAbsent s r then refuse .wrongState s
    else if !rowUsable s r then refuse .badValue s
    else if heldElsewhereRow s r id then refuse .inUse s
    else answered .ok [] (if rowId s r = some id then s else changeRow r (some id) s)

def execWriteRow (s : State) : Result := whileRunning (serveRequest 0x12 writeRow) s

/-- CLEAR_ROW, its checks in order (R11). -/
def clearRow (data : List Byte) (s : State) : Served :=
  match indexAt 32 data 2 with
  | none => refuse .badValue s
  | some r =>
    if sessionOpen s then refuse .wrongState s
    else if rowAbsent s r then refuse .wrongState s
    else
      answered .ok (be32 (idOrZero (rowId s r)).toNat) (if (rowId s r).isNone then s else changeRow r none s)

def execClearRow (s : State) : Result := whileRunning (serveRequest 0x13 clearRow) s

/-- READ_ROW (R12, R186). -/
def readRow (data : List Byte) (s : State) : Served :=
  match indexAt 32 data 2 with
  | none => refuse .badValue s
  | some r =>
    answered .ok
      (be32 (idOrZero (rowId s r)).toNat ++ be8 (128 * (rowUsable s r).toNat + (s.wheel r).status.code)) s

def execReadRow (s : State) : Result := whileRunning (serveRequest 0x14 readRow) s

/-! ### The roster (R13 to R18) -/

/-- The trailer state is IDENTIFIED with this entry. -/
def identifiedAs (s : State) (k : EntryNo) : Bool := decide (s.trailer.entry? = some k)

/-- An entry is written and the dirty flag set. -/
def writeEntry (k : EntryNo) (e : RosterEntry) (s : State) : State := markDirty (putEntry k e s)

/-- The entry and the item checked for every ROSTER_WRITE, then the session (R14, R9). -/
def rosterWrite (data : List Byte) (act : EntryNo → RosterItem → State → Served) (s : State) : Served :=
  match indexAt 4 data 2, rosterItem (natAt data 3) with
  | some k, some item => if sessionOpen s then refuse .wrongState s else act k item s
  | _, _ => refuse .badValue s

/-- A TAG write (R14). -/
def writeTag (k : EntryNo) (tag : BitVec 16) (s : State) : Served :=
  if tag = 0 then refuse .badValue s
  else if (List.finRange 4).any (fun j => decide (j ≠ k) && decide (s.tables.roster[j].tag = tag)) then refuse .inUse s
  else
    let e := s.tables.roster[k]
    answered .ok [] (if e.tag = tag then s else writeEntry k { e with tag := tag } s)

/-- The request frame is a ROSTER_WRITE whose selector names an item of this kind. -/
def isRosterWrite (kind : Option RosterItem → Bool) (data : List Byte) : Bool :=
  isRequest 0x15 data && kind (rosterItem (natAt data 3))

/-- A TAG write, or a selector that names no item (log entry 16). -/
def isTagWrite : Option RosterItem → Bool
  | some .tag | none => true
  | _ => false

def rosterWriteTag (data : List Byte) (s : State) : Served :=
  rosterWrite data (fun k _ s => writeTag k (BitVec.ofNat 16 (natAt2 data 4)) s) s

def execRosterWriteTag (s : State) : Result := whileRunning (serve (isRosterWrite isTagWrite) (judge rosterWriteTag)) s

/-- A slot that was usable under the entry as it was, and is so no longer (R15). -/
def slotShed (before e : RosterEntry) (t : SlotNo) : Bool := slotUsable before t && !slotUsable e t

/-- An entry whose axle records have changed, with the slots no longer usable emptied, and how many IDs that took (R15). -/
def shedSlots (before e : RosterEntry) : RosterEntry × Nat :=
  ({ e with slots := Vector.ofFn fun t => if slotShed before e t then none else e.slots[t] },
    ((List.finRange 12).filter fun t => e.slots[t].isSome && slotShed before e t).length)

/-- What follows a change of an entry's axle record in the trailer state: restarts and lift changes while it is identified,
new recognition data while recognition runs (R15, R6, R97, R98, R20). No rule orders the restarts of R6 and the raise or lowering of
R97 and R98 in one write: the restarts come first (DESIGN CHOICE, log entry 36). -/
def axleFollows (before : State) (k : EntryNo) (s : State) : State :=
  if identifiedAs s k then settleProposal (liftChange before (restartRows (usabilityChanged before s) s))
  else recheckEntry before k s

/-- An AXLE write (R15). -/
def writeEntryAxle (k : EntryNo) (a : Fin 3) (rec : AxleRecord) (s : State) : Served :=
  let e := s.tables.roster[k]
  if e.isFree then refuse .wrongState s
  else if e.axles[a] = rec then answered .ok [0] s
  else
    let shed := shedSlots e { e with axles := e.axles.set a rec }
    answered .ok (be8 shed.2) (axleFollows s k (writeEntry k shed.1 s))

def isAxleWrite : Option RosterItem → Bool
  | some (.axle _) => true
  | _ => false

def rosterWriteAxle (data : List Byte) (s : State) : Served :=
  rosterWrite data (fun k item s =>
    match item, axleAt data 4 with
    | .axle a, some rec => writeEntryAxle k a rec s
    | _, _ => refuse .badValue s) s

def execRosterWriteAxle (s : State) : Result := whileRunning (serve (isRosterWrite isAxleWrite) (judge rosterWriteAxle)) s

/-- What follows a change of a slot in the trailer state (R16, R20). -/
def slotFollows (before : State) (k : EntryNo) (t : SlotNo) (s : State) : State :=
  settleProposal (if identifiedAs s k then restartRows [slotRow t] s else recheckEntry before k s)

/-- A SLOT write; zero empties the slot (R16). -/
def writeSlot (k : EntryNo) (t : SlotNo) (id : SensorId) (s : State) : Served :=
  let e := s.tables.roster[k]
  let new : Option SensorId := if id = 0 then none else some id
  if inToolBlock id then refuse .badValue s
  else if e.isFree then refuse .wrongState s
  else if new.isSome && !slotUsable e t then refuse .badValue s
  else if new.isSome && heldElsewhereSlot s k t id then refuse .inUse s
  else if e.slots[t] = new then answered .ok [] s
  else
    answered .ok []
      (slotFollows s k t (dropCandidates new.toList (writeEntry k { e with slots := e.slots.set t new } s)))

def isSlotWrite : Option RosterItem → Bool
  | some (.slot _) => true
  | _ => false

def rosterWriteSlot (data : List Byte) (s : State) : Served :=
  rosterWrite data (fun k item s =>
    match item with
    | .slot t => writeSlot k t (idAt data 4) s
    | _ => refuse .badValue s) s

def execRosterWriteSlot (s : State) : Result := whileRunning (serve (isRosterWrite isSlotWrite) (judge rosterWriteSlot)) s

/-- An item of an entry as a ROSTER_WRITE carries it (R17, R186). -/
def RosterEntry.itemBytes (e : RosterEntry) : RosterItem → List Byte
  | .tag => be16 e.tag.toNat
  | .axle a => e.axles[a].bytes
  | .slot t => be32 (idOrZero e.slots[t]).toNat

/-- ROSTER_READ (R17). -/
def rosterRead (data : List Byte) (s : State) : Served :=
  match indexAt 4 data 2, rosterItem (natAt data 3) with
  | some k, some item => answered .ok (s.tables.roster[k].itemBytes item) s
  | _, _ => refuse .badValue s

def execRosterRead (s : State) : Result := whileRunning (serveRequest 0x16 rosterRead) s

/-- What follows the clearing of an entry in the trailer state (R18). -/
def clearFollows (k : EntryNo) (s : State) : State :=
  if identifiedAs s k then settleProposal (raiseEvent .trailerUnknown none none (unload .unknown s))
  else if s.trailer = .recognising then s.setRecog (s.recog.set k .empty)
  else s

/-- ROSTER_CLEAR (R18). -/
def rosterClear (data : List Byte) (s : State) : Served :=
  match indexAt 4 data 2 with
  | none => refuse .badValue s
  | some k =>
    if sessionOpen s then refuse .wrongState s
    else answered .ok [] (if s.tables.roster[k].isFree then s else clearFollows k (writeEntry k .free s))

def execRosterClear (s : State) : Result := whileRunning (serveRequest 0x17 rosterClear) s

/-! ### The trailer (R23) -/

/-- An open session walks a trailer row (R9, R23). -/
def sessionWalksTrailer (s : State) : Bool := sessionOpen s && s.enc.walk.any isTrailerRow

/-- An entry is identified by software; a different one is unloaded first (R23, R24, R116). -/
def selectTrailer (k : EntryNo) (s : State) : State :=
  if identifiedAs s k then s
  else
    let s := if s.trailer.entry?.isSome then sessionTrailerLost (unload .unknown s) else s
    settleProposal (identify k s)

/-- TRAILER_SELECT, its checks in order (R23). -/
def trailerSelect (data : List Byte) (s : State) : Served :=
  match indexAt 4 data 2 with
  | none => refuse .badValue s
  | some k =>
    if s.trailer = .none ∨ sessionWalksTrailer s then refuse .wrongState s
    else if s.tables.roster[k].isFree then refuse .notFound s
    else answered .ok [] (selectTrailer k s)

def execTrailerSelect (s : State) : Result := whileRunning (serveRequest 0x18 trailerSelect) s

end Sys2Proof.Machine
end

