-- ==== Sys2Proof/Machine/RequestsEval.lean ====
section
/-! DEFINITION. Section 5: the requests on the threshold table and on the announcement settings. -/

namespace Sys2Proof.Machine

/-- A number brought into a range (R175). -/
def clampInt (lo hi v : Int) : Int := max lo (min hi v)

/-- Replace a threshold group. -/
def withGroup (g : GroupNo) (v : ThresholdGroup) (t : Tables) : Tables := { t with groups := t.groups.set g v }

/-- A pressure limit record brought into its ranges (R88). -/
def PressureLimits.legal (p : PressureLimits) : PressureLimits :=
  { p with target := min 4000 p.target, lc := max p.lw p.lc }

/-- Replace the pressure limit record of a load state. -/
def ThresholdGroup.withLimits (g : ThresholdGroup) (load : LoadState) (p : PressureLimits) : ThresholdGroup :=
  match load with
  | .unladen => { g with unladen := p }
  | .laden => { g with laden := p }

/-- SET_LIMITS_P (R88, R186). -/
def setLimitsP (data : List Byte) (s : State) : Served :=
  let g := natAt data 2 / 16
  match loadStateOf (natAt data 2 % 16) with
  | none => refuse .badValue s
  | some load =>
    if h : g < 8 then
      let g : GroupNo := ⟨g, h⟩
      let asked : PressureLimits :=
        { target := natAt2 data 3, lw := natAt data 5, lc := natAt data 6, hw := natAt data 7 }
      let held := s.tables.groups[g]
      answered (okOrClamped (decide (asked.legal ≠ asked))) []
        (if asked.legal = held.limits load then s
        else
          let s := writeTables (withGroup g (held.withLimits load asked.legal) s.tables) s
          reevaluate ((groupRows s g).filter fun r => decide ((unitLoad s (unitOfRow r)).applied = load)) s)
    else refuse .badValue s

def execSetLimitsP (s : State) : Result := whileRunning (serveRequest 0x20 setLimitsP) s

/-- The fields of a temperature record as SET_LIMITS_T carries them, before any adjustment. -/
structure TempRequest where
  warn : Int
  crit : Int
  imbalance : Nat
  leakWarn : Nat
  hyst : Nat
  tref : Int
deriving DecidableEq, Repr

/-- Temperatures are carried as codes, the value plus 50 (R183; log entry 18 for code 255). -/
def tempAt (data : List Byte) (i : Nat) : Int := (natAt data i : Int) - 50

def tempRequestAt (data : List Byte) : TempRequest :=
  { warn := tempAt data 3, crit := tempAt data 4, imbalance := natAt data 5, leakWarn := natAt data 6
    hyst := natAt data 2 % 32, tref := tempAt data 7 }

/-- Each field brought to the nearer end of its range, and temp crit raised to temp warn (R89). -/
def TempRequest.legal (x : TempRequest) : TempLimits :=
  let warn := clampInt 0 204 x.warn
  { tempWarn := warn.toNat, tempCrit := (max warn (clampInt 0 204 x.crit)).toNat, imbalance := x.imbalance
    leakWarn := x.leakWarn, hyst := x.hyst, tref := clampInt (-20) 60 x.tref }

/-- The record asked for needed an adjustment (R89). The other three fields cannot leave their ranges. -/
def TempRequest.adjusted (x : TempRequest) : Bool :=
  decide (x.warn ≠ x.legal.tempWarn) || decide (x.crit ≠ x.legal.tempCrit) || decide (x.tref ≠ x.legal.tref)

/-- SET_LIMITS_T (R89, R186). The group field has three bits, so no group above 7 can be asked for. -/
def setLimitsT (data : List Byte) (s : State) : Served :=
  let g : GroupNo := Fin.ofNat 8 (natAt data 2 / 32)
  let asked := tempRequestAt data
  let held := s.tables.groups[g]
  answered (okOrClamped asked.adjusted) []
    (if asked.legal = held.temp then s
    else
      let s := writeTables (withGroup g { held with temp := asked.legal } s.tables) s
      reevaluate (groupRows s g) s)

def execSetLimitsT (s : State) : Result := whileRunning (serveRequest 0x21 setLimitsT) s

/-- A pressure limit record in the layout of READ_LIMITS. -/
def PressureLimits.bytes (p : PressureLimits) : List Byte := be16 p.target ++ [p.lw, p.lc, p.hw].map (BitVec.ofNat 8)

/-- The three limits derived from a record, packed (R76, R183). -/
def PressureLimits.derivedBytes (p : PressureLimits) : List Byte :=
  packLimits (lowWarnLimit p) (lowCritLimit p) (highWarnLimit p)

/-- The six selectors of READ_LIMITS (R90, R186). -/
def ThresholdGroup.selected (g : ThresholdGroup) : Nat → Option (List Byte)
  | 0 => some g.unladen.bytes
  | 1 => some g.laden.bytes
  | 2 => some [tempCode (some g.temp.tempWarn), tempCode (some g.temp.tempCrit), tempCode (some g.temp.tref)]
  | 3 => some ([g.temp.imbalance, g.temp.leakWarn, g.temp.hyst].map (BitVec.ofNat 8))
  | 4 => some g.unladen.derivedBytes
  | 5 => some g.laden.derivedBytes
  | _ => none

/-- READ_LIMITS (R90). -/
def readLimits (data : List Byte) (s : State) : Served :=
  match indexAt 8 data 2 with
  | none => refuse .badValue s
  | some g =>
    match s.tables.groups[g].selected (natAt data 3) with
    | none => refuse .badValue s
    | some bytes => answered .ok bytes s

def execReadLimits (s : State) : Result := whileRunning (serveRequest 0x22 readLimits) s

/-- SET_ANNOUNCE (R102). -/
def setAnnounce (data : List Byte) (s : State) : Served :=
  let mask := BitVec.ofNat 16 (natAt2 data 3)
  match announceMinOf (natAt data 2) with
  | none => refuse .badValue s
  | some minimum =>
    if !maskLegal mask then refuse .badValue s
    else
      let a : Announce := { minimum, exclude := mask }
      answered .ok []
        (if a = s.tables.announce then s
        else forRows reannounce allRows (writeTables { s.tables with announce := a } s))

def execSetAnnounce (s : State) : Result := whileRunning (serveRequest 0x23 setAnnounce) s

end Sys2Proof.Machine
end

