-- ==== Sys2Proof/Machine/RequestsEnrol.lean ====
section
/-! DEFINITION. Section 6: the requests on enrolment sessions and replacement proposals. -/

namespace Sys2Proof.Machine

/-! ### The walk order (R108) -/

/-- The row fields of ENROL_ORDER up to the first filler; none when one of them is neither a row nor the filler 255. -/
def rowFields : List Byte → Option (List Row)
  | [] => some []
  | b :: rest =>
    if b.toNat = 255 then some []
    else if h : b.toNat < 32 then (rowFields rest).map fun l => ⟨b.toNat, h⟩ :: l
    else none

/-- ENROL_ORDER (R108). -/
def enrolOrder (data : List Byte) (s : State) : Served :=
  let start := natAt data 2
  match rowFields (data.drop 3) with
  | none => refuse .badValue s
  | some rows =>
    if 31 < start ∨ s.enc.walk.length < start ∨ 32 < start + rows.length then refuse .badValue s
    else if sessionOpen s then refuse .wrongState s
    else
      answered .ok (be8 (start + rows.length)) (s.setEnc { s.enc with walk := s.enc.walk.take start ++ rows })

def execEnrolOrder (s : State) : Result := whileRunning (serveRequest 0x28 enrolOrder) s

/-! ### Sessions (R109, R110, R118, R124) -/

/-- The entry of the walk order at an index offends: it repeats an earlier one, is a trailer row with no trailer identified, or
is unusable (R109). -/
def offends (s : State) (i : Nat) (r : Row) : Bool :=
  decide (r ∈ s.enc.walk.take i) || rowAbsent s r || !rowUsable s r

/-- The index ENROL_START answers for a walk order that fails: the first entry that offends, or 255 when it is empty (R109). -/
def walkFault (s : State) : Option Nat :=
  if s.enc.walk.isEmpty then some 255
  else (List.range s.enc.walk.length).find? fun i => s.enc.walk[i]?.any (offends s i)

/-- The session opens, in one step; the open proposal is withdrawn and the open session stops the search (R110, R129). -/
def openSession (allowMove : Bool) (s : State) : State :=
  let s := withdraw s
  s.setEnc { s.enc with
    allowMove, pairs := [], copies := [], session := some 0, stepDeadline := stepDeadlineFrom s }

/-- The speed stands in the way of ENROL_START: unknown, or moving (R109). -/
def speedForbids (s : State) : Bool := s.vdm.speed.isNone || moving s

/-- ENROL_START, its checks in order (R109). -/
def enrolStart (data : List Byte) (s : State) : Served :=
  if 1 < natAt data 2 then answered .badValue [255] s
  else if s.osc.state ≠ .active ∨ sessionOpen s ∨ speedForbids s then refuse .wrongState s
  else
    match walkFault s with
    | some i => answered .badValue (be8 i) s
    | none => answered .ok (be8 s.enc.walk.length) (openSession (decide (natAt data 2 = 1)) s)

def execEnrolStart (s : State) : Result := whileRunning (serveRequest 0x29 enrolStart) s

/-- ENROL_CANCEL (R118). -/
def enrolCancel (_ : List Byte) (s : State) : Served :=
  if sessionOpen s then answered .ok [] (endSession .cancelled s) else refuse .wrongState s

def execEnrolCancel (s : State) : Result := whileRunning (serveRequest 0x2A enrolCancel) s

/-- A row as a byte, 255 when absent. -/
def rowByte (r : Option Row) : Nat := (r.map Fin.val).getD 255

/-- Selector 0: the session (R124). -/
def sessionBytes (s : State) : List Byte :=
  [s.enc.session.isSome.toNat, s.enc.session.getD 0, rowByte (s.enc.session.bind (stepRow s)), s.enc.pairs.length,
    s.enc.allowMove.toNat].map (BitVec.ofNat 8)

/-- Whole seconds from now to a deadline, rounded down, 0 when absent, as R124 says and against the 65535 of R183 (DESIGN CHOICE, log
entry 42). -/
def secondsUntil (s : State) (d : Option Millis) : Nat := (d.getD s.now - s.now) / 1000

/-- Selector 1: the last ending (R124). -/
def endingBytes (s : State) : List Byte :=
  [s.enc.lastEnding.code, s.enc.applied, s.enc.leftVacant].map (BitVec.ofNat 8)
    ++ be16 (seconds16 (some (secondsUntil s s.enc.stepDeadline)))

/-- Selector 2: the proposal (R124). -/
def proposalBytes (s : State) : List Byte :=
  be8 (rowByte (s.enc.proposal.map Prod.fst)) ++ be32 (idOrZero (s.enc.proposal.map Prod.snd)).toNat

/-- Selector 3: a row of the walk order and the ID of its pending pair (R124). -/
def walkBytes (s : State) (r : Row) : List Byte :=
  be8 r.val ++ be32 (idOrZero ((s.enc.pairs.find? fun p => decide (p.row = r)).map EnrolPair.id)).toNat

/-- ENROL_STATUS (R124). -/
def enrolStatus (data : List Byte) (s : State) : Served :=
  match natAt data 2 with
  | 0 => answered .ok (sessionBytes s) s
  | 1 => answered .ok (endingBytes s) s
  | 2 => answered .ok (proposalBytes s) s
  | 3 =>
    if 31 < natAt data 3 then refuse .badValue s
    else
      match s.enc.walk[natAt data 3]? with
      | some r => answered .ok (walkBytes s r) s
      | none => answered .notFound (be8 s.enc.walk.length) s
  | _ => refuse .badValue s

def execEnrolStatus (s : State) : Result := whileRunning (serveRequest 0x2B enrolStatus) s

/-! ### Proposals (R130, R131) -/

/-- The open proposal is accepted, in one step (R130). -/
def acceptProposal (r : Row) (id : SensorId) (s : State) : State :=
  let s := dropCandidates [id] (writeRowId r (some id) (s.setEnc { s.enc with proposal := none }))
  let s := requestSave (markDirty (restartRows [r] s))
  search (raiseEvent .proposalAccepted (some r) (some id.toNat) s)

/-- PROPOSAL_ACCEPT (R130). -/
def proposalAccept (data : List Byte) (s : State) : Served :=
  let id := idAt data 3
  match indexAt 32 data 2 with
  | none => refuse .badValue s
  | some r =>
    if !isSensor id then refuse .badValue s
    else if s.enc.proposal ≠ some (r, id) then refuse .notFound s
    else answered .ok [] (acceptProposal r id s)

def execProposalAccept (s : State) : Result := whileRunning (serveRequest 0x2C proposalAccept) s

/-- A rejected ID joins the list of at most eight, its oldest leaving first (R131). -/
def addRejected (id : SensorId) (l : List SensorId) : List SensorId := (if l.length < 8 then l else l.drop (l.length - 7)) ++ [id]

/-- The open proposal is rejected (R131). -/
def rejectProposal (r : Row) (id : SensorId) (s : State) : State :=
  let e := s.episode r
  let s := putEpisode r { e with rejected := addRejected id e.rejected } (s.setEnc { s.enc with proposal := none })
  search (raiseEvent .proposalRejected (some r) (some id.toNat) s)

/-- PROPOSAL_REJECT (R131). An ID that no row may hold, zero or in the tool block, is not refused for its form: no open proposal
carries it, so the answer is NOT_FOUND (DESIGN CHOICE, log entry 34). -/
def proposalReject (data : List Byte) (s : State) : Served :=
  let id := idAt data 3
  match indexAt 32 data 2 with
  | none => refuse .badValue s
  | some r =>
    if s.enc.proposal ≠ some (r, id) then refuse .notFound s else answered .ok [] (rejectProposal r id s)

def execProposalReject (s : State) : Result := whileRunning (serveRequest 0x2D proposalReject) s

end Sys2Proof.Machine
end

