-- ==== Sys2Proof/Machine/RequestsRead.lean ====
section
/-! DEFINITION. The requests on the candidate list, the lanes, the event queue and the snapshot. -/

namespace Sys2Proof.Machine

/-! ### Candidates and lanes (R58, R41) -/

/-- Whole seconds between a time held and now (R58). -/
def secondsSince (s : State) (t : Millis) : Nat := seconds16 (some ((s.now - t) / 1000))

/-- The three parts of a candidate record (R58, R186). -/
def candidatePart (s : State) (c : Candidate) : Nat → List Byte
  | 0 => be32 c.id.toNat ++ be8 c.hits
  | 1 =>
    be16 (secondsSince s c.firstHeard) ++ be16 (secondsSince s c.lastHeard) ++ be8 s.candidates.length
  | _ =>
    [c.laneMask.toNat, c.bestLane.val, c.bestRssi.toNat, c.movingHits, c.id.toNat].map (BitVec.ofNat 8)

/-- READ_CANDIDATE (R58). -/
def readCandidate (data : List Byte) (s : State) : Served :=
  if 15 < natAt data 2 ∨ 2 < natAt data 3 then refuse .badValue s
  else
    match s.candidates[natAt data 2]? with
    | some c => answered .ok (candidatePart s c (natAt data 3)) s
    | none => answered .notFound (be8 s.candidates.length) s

def execReadCandidate (s : State) : Result := whileRunning (serveRequest 0x30 readCandidate) s

/-- The latched flags of the lanes named by a mask are cleared (R41; bit l names lane l, log entry 35). -/
def clearLaneFlags (mask : Nat) (s : State) : State :=
  s.setLanes (Vector.ofFn fun l => if mask.testBit l.val then { s.lane l with flags := .clear } else s.lane l)

/-- CLEAR_LANE_STATUS: the flags as they stood before, then the clear (R41). -/
def clearLaneStatus (data : List Byte) (s : State) : Served :=
  if 15 < natAt data 2 then refuse .badValue s
  else
    answered .ok ((List.finRange 4).map fun l => (s.lane l).statusByte) (clearLaneFlags (natAt data 2) s)

def execClearLaneStatus (s : State) : Result := whileRunning (serveRequest 0x31 clearLaneStatus) s

/-! ### Events (R154) -/

/-- The oldest record becomes the taken record; the overflow flag goes with the last one (R154). -/
def takeEvent (q : EventQueue) : EventQueue :=
  match q.records with
  | e :: rest => { records := rest, overflow := q.overflow && !rest.isEmpty, taken := some e }
  | [] => { q with taken := none }

/-- Part 0 of a taken record, with the queue as the take left it; kind 255 and a count of 0 when it is empty (R154, R186). -/
def eventHead (q : EventQueue) : List Byte :=
  match q.taken with
  | some e =>
    be8 e.kind.code ++ be8 (rowByte e.row)
      ++ be8 ((e.condition.map fun c => c.code.val).getD 15 * 16 + (e.level.map Severity.code).getD 15)
      ++ be8 (128 * q.overflow.toNat + q.records.length % 64)
  | none => [255, 255, 255] ++ be8 (128 * q.overflow.toNat)

/-- Part 1 of a record: its value (R154, R186). -/
def eventValue (e : Event) : List Byte := be8 e.value.isSome.toNat ++ be32 (e.value.getD 0).toNat

/-- EVENT_TAKE (R154). -/
def eventTake (data : List Byte) (s : State) : Served :=
  match natAt data 2 with
  | 0 =>
    let q := takeEvent s.evq
    answered .ok (eventHead q) (s.setEvq q)
  | 1 =>
    match s.evq.taken with
    | some e => answered .ok (eventValue e) s
    | none => refuse .notFound s
  | 2 =>
    match s.evq.taken with
    | some e => answered .ok (be32 e.time) s
    | none => refuse .notFound s
  | _ => refuse .badValue s

def execEventTake (s : State) : Result := whileRunning (serveRequest 0x32 eventTake) s

/-! ### The snapshot (R173) -/

/-- READY and HELD exchange roles when READY_NEW is set (R173). -/
def openSnapshot (p : Snapshots) : Snapshots :=
  if p.readyNew then { p with ready := p.held, held := p.ready, readyNew := false } else p

/-- SNAPSHOT_OPEN: the sequence and the time modulo 16,777,216 s of the held buffer (R173, R183). -/
def snapshotOpen (_ : List Byte) (s : State) : Served :=
  let p := openSnapshot s.link.snapshots
  answered .ok (be16 p.held.sequence ++ be24 p.held.time) (s.setLink { s.link with snapshots := p })

def execSnapshotOpen (s : State) : Result := whileRunning (serveRequest 0x38 snapshotOpen) s

/-- The last mode as a byte, 255 when absent (R172). -/
def modeByte (m : Option Mode) : Nat := (m.map Mode.code).getD 255

/-- The five parts of a row record (R173, R186). -/
def snapPart (x : SnapRow) : Nat → Option (List Byte)
  | 0 => some (be8 (statusLevels x.status x.level x.announcedLevel) ++ packPair x.pc x.pg)
  | 1 => some ([tempCode x.temperature, x.flags.byte] ++ be16 x.active.toNat)
  | 2 => some (be32 x.id.toNat ++ be8 (min x.sinceAccepted 255))
  | 3 => some x.rssi.toList
  | 4 => some (be16 x.leakRate ++ be16 x.raw ++ be8 (modeByte x.lastMode))
  | _ => none

/-- SNAPSHOT_READ, from the held buffer (R173). -/
def snapshotRead (data : List Byte) (s : State) : Served :=
  match indexAt 32 data 2 with
  | none => refuse .badValue s
  | some r =>
    match snapPart s.link.snapshots.held.rows[r] (natAt data 3) with
    | some bytes => answered .ok bytes s
    | none => refuse .badValue s

def execSnapshotRead (s : State) : Result := whileRunning (serveRequest 0x39 snapshotRead) s

end Sys2Proof.Machine
end

