-- ==== Sys2Proof/Machine/Clock.lean ====
section
/-! DEFINITION. One millisecond of the part clock: what the passage of time alone changes. -/

namespace Sys2Proof.Machine

/-- The moving missing time of every MISSING row grows while the part is ACTIVE, the vehicle is moving and no session is open
(R125). -/
def growEpisodes (s : State) : State :=
  if s.osc.state = .active ∧ moving s ∧ !sessionOpen s then
    s.setEpisodes (Vector.ofFn fun r =>
      let e := s.episode r
      if (s.wheel r).status = .missing then { e with movingMs := e.movingMs + 1 } else e)
  else s

/-- Time spent in WRITING counts toward a save's write time (R158). -/
def spendWriteTime (s : State) : State :=
  if s.store.state = .writing then s.setStore { s.store with remaining := s.store.remaining - 1 } else s

/-- The part clock counts on, through a warm reset and through the RESET line, until power is lost (00_scope 4.3). -/
def advanceClock (s : State) : State := s.setClock (s.clock + 1)

/-- A millisecond passes (log entry 5). -/
def tick (s : State) : State :=
  match s.phase with
  | .off => s
  | .inReset => advanceClock s
  | .running => spendWriteTime (growEpisodes (advanceClock s))

end Sys2Proof.Machine
end

