-- ==== Sys2Proof/Machine/Dispatch.lean ====
section
/-! DEFINITION. The one match from a command to its meaning. -/

namespace Sys2Proof.Machine

def exec (i : Instr) (s : State) : Host.Outcome State Fault Refusal :=
  match i with
  | .coldReset => Sys2Proof.Machine.execColdReset s
  | .powerLoss => Sys2Proof.Machine.execPowerLoss s
  | .resetAssert => Sys2Proof.Machine.execResetAssert s
  | .resetRelease => Sys2Proof.Machine.execResetRelease s
  | .loadComplete => Sys2Proof.Machine.execLoadComplete s
  | .ignitionChange on => Sys2Proof.Machine.execIgnitionChange on s
  | .serviceChange asserted => Sys2Proof.Machine.execServiceChange asserted s
  | .crankAssert => Sys2Proof.Machine.execCrankAssert s
  | .crankRelease => Sys2Proof.Machine.execCrankRelease s
  | .syncMatch lane bit level => Sys2Proof.Machine.execSyncMatch lane bit level s
  | .laneJam lane bit => Sys2Proof.Machine.execLaneJam lane bit s
  | .laneClear lane bit => Sys2Proof.Machine.execLaneClear lane bit s
  | .runViolation lane bit => Sys2Proof.Machine.execRunViolation lane bit s
  | .telegramComplete lane bit => Sys2Proof.Machine.execTelegramComplete lane bit s
  | .telegramRecord lane => Sys2Proof.Machine.execTelegramRecord lane s
  | .skip lane => Sys2Proof.Machine.execSkip lane s
  | .back lane => Sys2Proof.Machine.execBack lane s
  | .abort lane => Sys2Proof.Machine.execAbort lane s
  | .recognitionWindowExpiry => Sys2Proof.Machine.execRecognitionWindowExpiry s
  | .candidateAgeExpiry id => Sys2Proof.Machine.execCandidateAgeExpiry id s
  | .staleExpiry row => Sys2Proof.Machine.execStaleExpiry row s
  | .missingExpiry row => Sys2Proof.Machine.execMissingExpiry row s
  | .alertRepeatExpiry row => Sys2Proof.Machine.execAlertRepeatExpiry row s
  | .rowDue row => Sys2Proof.Machine.execRowDue row s
  | .stepDeadlineExpiry => Sys2Proof.Machine.execStepDeadlineExpiry s
  | .vehicleDataFrame frame => Sys2Proof.Machine.execVehicleDataFrame frame s
  | .frameTimeoutExpiry => Sys2Proof.Machine.execFrameTimeoutExpiry s
  | .settleExpiry unit => Sys2Proof.Machine.execSettleExpiry unit s
  | .parkDelayExpiry => Sys2Proof.Machine.execParkDelayExpiry s
  | .activityExpiry => Sys2Proof.Machine.execActivityExpiry s
  | .requestFrame frame => Sys2Proof.Machine.execRequestFrame frame s
  | .badFrame => Sys2Proof.Machine.execBadFrame s
  | .identify => Sys2Proof.Machine.execIdentify s
  | .readPartStatus => Sys2Proof.Machine.execReadPartStatus s
  | .restart => Sys2Proof.Machine.execRestart s
  | .setSetting => Sys2Proof.Machine.execSetSetting s
  | .readSetting => Sys2Proof.Machine.execReadSetting s
  | .setLink => Sys2Proof.Machine.execSetLink s
  | .setGuard => Sys2Proof.Machine.execSetGuard s
  | .freeze => Sys2Proof.Machine.execFreeze s
  | .goOffline => Sys2Proof.Machine.execGoOffline s
  | .goActive => Sys2Proof.Machine.execGoActive s
  | .save => Sys2Proof.Machine.execSave s
  | .resumeExpiry => Sys2Proof.Machine.execResumeExpiry s
  | .saveComplete => Sys2Proof.Machine.execSaveComplete s
  | .setAxle => Sys2Proof.Machine.execSetAxle s
  | .readAxle => Sys2Proof.Machine.execReadAxle s
  | .writeRow => Sys2Proof.Machine.execWriteRow s
  | .clearRow => Sys2Proof.Machine.execClearRow s
  | .readRow => Sys2Proof.Machine.execReadRow s
  | .rosterWriteTag => Sys2Proof.Machine.execRosterWriteTag s
  | .rosterWriteAxle => Sys2Proof.Machine.execRosterWriteAxle s
  | .rosterWriteSlot => Sys2Proof.Machine.execRosterWriteSlot s
  | .rosterRead => Sys2Proof.Machine.execRosterRead s
  | .rosterClear => Sys2Proof.Machine.execRosterClear s
  | .trailerSelect => Sys2Proof.Machine.execTrailerSelect s
  | .setLimitsP => Sys2Proof.Machine.execSetLimitsP s
  | .setLimitsT => Sys2Proof.Machine.execSetLimitsT s
  | .readLimits => Sys2Proof.Machine.execReadLimits s
  | .setAnnounce => Sys2Proof.Machine.execSetAnnounce s
  | .enrolOrder => Sys2Proof.Machine.execEnrolOrder s
  | .enrolStart => Sys2Proof.Machine.execEnrolStart s
  | .enrolCancel => Sys2Proof.Machine.execEnrolCancel s
  | .enrolStatus => Sys2Proof.Machine.execEnrolStatus s
  | .proposalAccept => Sys2Proof.Machine.execProposalAccept s
  | .proposalReject => Sys2Proof.Machine.execProposalReject s
  | .readCandidate => Sys2Proof.Machine.execReadCandidate s
  | .clearLaneStatus => Sys2Proof.Machine.execClearLaneStatus s
  | .eventTake => Sys2Proof.Machine.execEventTake s
  | .snapshotOpen => Sys2Proof.Machine.execSnapshotOpen s
  | .snapshotRead => Sys2Proof.Machine.execSnapshotRead s
  | .searchDeadlineExpiry => Sys2Proof.Machine.execSearchDeadlineExpiry s
  | .transmitStart => Sys2Proof.Machine.execTransmitStart s
  | .transmitDone how => Sys2Proof.Machine.execTransmitDone how s
  | .quietDeadlineExpiry => Sys2Proof.Machine.execQuietDeadlineExpiry s
  | .reportExpiry => Sys2Proof.Machine.execReportExpiry s
  | .partStatusExpiry => Sys2Proof.Machine.execPartStatusExpiry s
  | .bitTaken lane bit => Sys2Proof.Machine.execBitTaken lane bit s
  | .otherFrameReceived => Sys2Proof.Machine.execOtherFrameReceived s

end Sys2Proof.Machine
end

