-- ==== Sys2Proof/Safety.lean ====
section
/-! DEFINITION. The invariants of the part: what the spec says holds at every moment, in the terms the claims use. -/

namespace Sys2Proof.Machine

/-! ### Event queue, link, candidates -/

/-- R152, R153: at most 64 records, and the overflow flag is set only while the queue holds one. -/
abbrev EventsLegal (s : State) : Prop :=
  s.evq.records.length ≤ 64 ∧ (s.evq.overflow = true → s.evq.records ≠ [])

/-- R166, R167: at most 4 requests wait and at most 4 answers are outstanding; the ALERT class and the STATUS class hold one frame
a row at the most; and a frame stands in the transmit buffer only while the link is RUNNING (R168, R169). -/
abbrev LinkLegal (s : State) : Prop :=
  s.link.requests.length ≤ 4 ∧ answersOutstanding s ≤ 4
    ∧ (s.link.alerts.map AlertFrame.row).Nodup ∧ (s.link.statuses.map StatusFrame.row).Nodup
    ∧ (s.link.buffer.isSome = true → s.link.state = .running)

/-- R52: at most 16 candidate records, with distinct IDs. -/
abbrev CandidatesLegal (s : State) : Prop :=
  s.candidates.length ≤ 16 ∧ (s.candidates.map Candidate.id).Nodup

/-! ### Sessions and proposals -/

/-- R107 to R119 for an open session at step `i`: it walks distinct rows, its pairs stand for distinct earlier rows of the walk and
hold distinct IDs, it has a deadline, no proposal is open beside it (R129), and the part is ACTIVE (R109, R145, R148). -/
abbrev SessionOpenLegal (s : State) (i : Nat) : Prop :=
  s.phase = .running ∧ s.osc.state = .active ∧ i < s.enc.walk.length ∧ s.enc.walk.Nodup
    ∧ s.enc.stepDeadline.isSome = true ∧ s.enc.proposal = none
    ∧ (s.enc.pairs.map EnrolPair.row).Nodup ∧ (s.enc.pairs.map EnrolPair.id).Nodup
    ∧ ∀ p ∈ s.enc.pairs, p.row ∈ s.enc.walk.take i

/-- R107, R46: the walk order holds at most 32 rows and the duplicate memory at most 4 entries; both the pending list and the memory
are empty, and the step deadline absent, whenever the session is CLOSED. -/
abbrev SessionLegal (s : State) : Prop :=
  s.enc.walk.length ≤ 32 ∧ s.enc.copies.length ≤ 4
    ∧ (s.enc.session = none → s.enc.pairs = [] ∧ s.enc.copies = [] ∧ s.enc.stepDeadline = none)
    ∧ ∀ i, s.enc.session = some i → SessionOpenLegal s i

/-- R57, R128, R129: an open proposal's row is MISSING and its candidate stands in the candidate list. -/
abbrev ProposalLegal (s : State) : Prop :=
  ∀ p : Row × SensorId, s.enc.proposal = some p →
    (s.wheel p.1).status = .missing ∧ p.2 ∈ s.candidates.map Candidate.id

/-! ### Wheel records -/

/-- R69: at most 8 samples, with strictly increasing times, spanning at most 3,600 s. -/
abbrev RingLegal (ring : List Sample) : Prop :=
  ring.length ≤ 8 ∧ ring.Pairwise (fun a b => a.time < b.time) ∧ ∀ a ∈ ring, ∀ b ∈ ring, b.time ≤ a.time + 3600000

/-- R103: the announced set is always the one worked out from the active set and the announcement settings. -/
abbrev AnnouncedLegal (s : State) (r : Row) : Prop :=
  (s.wheel r).announced = announcedOf s.tables.announce (s.wheel r).active

/-- R95: IMBALANCE is active on both rows of a pair or on neither. -/
abbrev ImbalanceLegal (s : State) (r : Row) : Prop :=
  hasCond (s.wheel r).active .imbalance = hasCond (s.wheel (partner r)).active .imbalance

/-- R6, R7, R79, R101: while the part runs, a row is VACANT exactly when it holds no ID; and a VACANT wheel has no active
conditions. -/
abbrev VacancyLegal (s : State) (r : Row) : Prop :=
  (s.phase = .running → ((s.wheel r).status = .vacant ↔ rowId s r = none))
    ∧ ((s.wheel r).status = .vacant → (s.wheel r).active = 0)

/-- The four of them, for every row. -/
abbrev WheelsLegal (s : State) : Prop :=
  ∀ r : Row, RingLegal (s.wheel r).ring ∧ AnnouncedLegal s r ∧ ImbalanceLegal s r ∧ VacancyLegal s r

/-! ### Store, operating state -/

/-- R158 to R161: content is captured exactly while a save is in flight; a save is written only while CRANK is not asserted, and is
SUSPENDED only while it is; a resume deadline stands in RESUMING alone; and save-again and both deferred requests stand only while a
save is in flight, which no reset outlives (R162). -/
abbrev StoreLegal (s : State) : Prop :=
  (s.store.captured.isSome = true ↔ saveInFlight s = true)
    ∧ (s.store.state = .writing ∨ s.store.state = .resuming → s.lines.crank = false)
    ∧ (s.store.state = .suspended → s.lines.crank = true)
    ∧ (s.store.resumeAt.isSome = true ↔ s.store.state = .resuming)
    ∧ s.store.remaining ≤ 600
    ∧ (s.store.saveAgain = true ∨ s.mgu.deferredRestart.isSome = true ∨ s.osc.deferredOffline.isSome = true →
        saveInFlight s = true)
    ∧ (s.phase ≠ .running → saveInFlight s = false)

/-- R26: a lane is DISABLED exactly when the operating state does not enable it; bit l of lane_enable_mask is lane l's (the model's
choice, log entry 35). -/
abbrev LanesLegal (s : State) : Prop :=
  ∀ l : LaneNo, (s.lane l).state = .disabled ↔ laneEnabled s s.osc.state l = false

/-- The deadlines that belong to one operating state stand in no other: freshness (R82, R86), park delay and park pending (R145),
activity (R146), reports (R170, R171), and in DORMANT the frame timeout and the speed (R142). -/
abbrev DeadlinesLegal (s : State) : Prop :=
  (s.osc.state ≠ .active → ∀ r : Row, (s.wheel r).staleAt = none ∧ (s.wheel r).missingAt = none)
    ∧ (s.osc.activity.isSome = true ↔ s.osc.state = .parkWatch)
    ∧ (s.osc.parkDelay.isSome = true → s.osc.state = .active)
    ∧ (s.osc.parkPending = true → s.osc.state = .active ∧ sessionOpen s = true)
    ∧ (s.link.reportDeadline.isSome = true ↔ s.osc.state = .active ∨ s.osc.state = .parkWatch)
    ∧ (s.link.partStatusDeadline.isSome = true ↔ s.osc.state = .active ∨ s.osc.state = .offline)
    ∧ (s.osc.state = .dormant → s.vdm.frameDeadline = none ∧ s.vdm.speed = none)

/-- What the operating state decides, while the part runs. -/
abbrev ModeLegal (s : State) : Prop := s.phase = .running → LanesLegal s ∧ DeadlinesLegal s

/-! ### The tables -/

/-- 10.3, R82: every setting lies in its range, and no missing time below the stale time of its set. -/
abbrev SettingsLegal (v : Settings) : Prop :=
  (∀ i : Fin 21, settingRanges[i].1 ≤ v[i] ∧ v[i] ≤ settingRanges[i].2.1)
    ∧ v[Setting.staleMovingS.item] ≤ v[Setting.missingMovingS.item]
    ∧ v[Setting.staleParkedS.item] ≤ v[Setting.missingParkedS.item]

/-- R75, R87: the ranges of a pressure limit record. -/
abbrev LimitsLegal (p : PressureLimits) : Prop :=
  p.target ≤ 4000 ∧ p.lw ≤ p.lc ∧ p.lc ≤ 255 ∧ p.hw ≤ 255

/-- R87: the ranges of a group's three records. -/
abbrev GroupLegal (g : ThresholdGroup) : Prop :=
  LimitsLegal g.unladen ∧ LimitsLegal g.laden ∧ g.temp.tempWarn ≤ g.temp.tempCrit ∧ g.temp.tempCrit ≤ 204
    ∧ g.temp.imbalance ≤ 255 ∧ g.temp.leakWarn ≤ 255 ∧ g.temp.hyst ≤ 31 ∧ -20 ≤ g.temp.tref ∧ g.temp.tref ≤ 60

/-- R13: a free entry is free in all its parts, two entries in use hold different tags, and no slot on an unusable place holds an ID
(R6). -/
abbrev RosterLegal (roster : Vector RosterEntry 4) : Prop :=
  (∀ k : EntryNo, roster[k].tag = 0 → roster[k] = .free)
    ∧ (∀ j k : EntryNo, roster[j].tag = roster[k].tag → roster[j].tag ≠ 0 → j = k)
    ∧ ∀ (k : EntryNo) (t : SlotNo), slotUsable roster[k] t = false → roster[k].slots[t] = none

/-- R6: no unusable truck row holds an ID. -/
abbrev TruckRowsLegal (t : Tables) : Prop :=
  ∀ r : Fin 20, placeUsable t.axles[r.val / 4].layout (r.val % 4) = false → t.rows[r] = none

/-- The whole content of an image keeps the ranges of its chapters (R2, R13, R28, R75, R87, R102, R163, 10.3). -/
abbrev TablesLegal (t : Tables) : Prop :=
  SettingsLegal t.settings ∧ (∀ g : GroupNo, GroupLegal t.groups[g]) ∧ t.announce.minimum ≠ .none
    ∧ maskLegal t.announce.exclude = true ∧ nodeBaseLegal t.link.nodeBase.toNat = true
    ∧ identifierTaken t.link.nodeBase.toNat t.link.vehicleId.toNat = false
    ∧ RosterLegal t.roster ∧ TruckRowsLegal t

/-- A law of the tables that holds of the tables in use, of the content a save has captured, and of the image. -/
abbrev AllTables (law : Tables → Prop) (s : State) : Prop :=
  law s.tables ∧ (∀ c, s.store.captured = some c → law c) ∧ ∀ c crc, s.image = .written c crc → law c

/-! ### The law of identities (R8) -/

/-- Every ID the tables hold: the truck rows, then the slots of the roster. -/
def heldIds (t : Tables) : List SensorId :=
  t.rows.toList.filterMap id ++ t.roster.toList.flatMap fun e => e.slots.toList.filterMap id

/-- R8 within one set of tables: no ID in two places, and no ID that is zero or in the tool block. -/
abbrev HeldLegal (t : Tables) : Prop := (heldIds t).Nodup ∧ (heldIds t).all isSensor = true

/-- R8 across tables and candidates: a candidate's ID is a sensor's and stands in no row or slot. -/
abbrev CandidateIdsLegal (s : State) : Prop :=
  ∀ c ∈ s.candidates, isSensor c.id = true ∧ c.id ∉ heldIds s.tables

/-- R111, R121: a pending pair's ID is a sensor's; with a source row it stands in that row; with none it stands in no place, unless
it already stands in the pair's own row. -/
abbrev PairLegal (s : State) (p : EnrolPair) : Prop :=
  isSensor p.id = true
    ∧ (∀ q, p.source = some q → rowId s q = some p.id)
    ∧ (p.source = none → p.id ∈ heldIds s.tables → rowId s p.row = some p.id)

/-- The rows a session walks are usable rows (R109), and so are not trailer rows without a trailer. -/
abbrev WalkLegal (s : State) : Prop := sessionOpen s = true → ∀ r ∈ s.enc.walk, rowUsable s r = true

/-- R8, with what keeps it through an enrolment session; and records a lane has handed carry an ID (R36). -/
abbrev IdentityLegal (s : State) : Prop :=
  AllTables HeldLegal s ∧ CandidateIdsLegal s ∧ (∀ p ∈ s.enc.pairs, PairLegal s p) ∧ WalkLegal s
    ∧ ∀ t ∈ s.handed, t.id ≠ 0

/-! ### Events raised in a step -/

/-- The step from `s` to `u` raised `e`, after some events and before others: the queue of `u` is that of `s` with all of them entered in
order, under the rules for a full queue (R152, R153). -/
abbrev Raised (e : Event) (s u : State) : Prop :=
  ∃ first later : List Event, u.evq = (first ++ e :: later).foldl (fun q x => pushEvent x q) s.evq

/-! ### What a change of the operating state leaves (R143) -/

/-- R26, R27: a lane newly enabled hunts afresh, one that stays enabled is not disturbed, one not enabled is DISABLED; the latched flags
are kept. Bit l of lane_enable_mask is lane l's (the model's choice, log entry 35). -/
abbrev LaneEntered (n : OpState) (s t : State) (l : LaneNo) : Prop :=
  (t.lane l).flags = (s.lane l).flags
    ∧ (t.lane l).state =
      if laneEnabled s n l = false then .disabled
      else if (s.lane l).state = .disabled then .freshHunt else (s.lane l).state

/-- R82, R86, R105: a wheel is as it was, but that a LIVE one is STALE after DORMANT, that in ACTIVE its deadlines run from now, which is
its freshness base, and elsewhere are absent, and that its repeat deadline is set from now where its level qualifies in the new state
and absent where it does not. -/
abbrev WheelEntered (n : OpState) (s t : State) (r : Row) : Prop :=
  let w := s.wheel r
  let status := if s.osc.state = .dormant ∧ w.status = .live then .stale else w.status
  let level := w.announcedLevel
  let runs := n = .active ∧ holdsMissing status = true
  t.wheel r = { w with
    status := status
    base := if runs then some s.now else w.base
    staleAt := if n = .active ∧ status = .live then some (s.now + staleMs s r) else none
    missingAt := if runs then some (s.now + missingMs s r) else none
    repeatAt :=
      if (n = .active ∧ (level = .warning ∨ level = .critical)) ∨ (n = .parkWatch ∧ level = .critical) then
        some (s.now + s.setting .alertRepeatS * 1000)
      else none }

/-- Blocks that no change of the operating state touches. -/
abbrev SameBeyondMode (s t : State) : Prop :=
  t.clock = s.clock ∧ t.phase = s.phase ∧ t.lines = s.lines ∧ t.image = s.image ∧ t.tables = s.tables ∧ t.handed = s.handed
    ∧ t.trailer = s.trailer ∧ t.window = s.window ∧ t.recog = s.recog ∧ t.candidates = s.candidates ∧ t.enc = s.enc
    ∧ t.episodes = s.episodes ∧ t.store = s.store ∧ t.mgu = s.mgu ∧ t.saves = s.saves ∧ t.pending = s.pending

/-- R169 to R171: STATUS frames wait on in ACTIVE alone; a report deadline is kept between ACTIVE and PARK_WATCH, set on entry from a state
without one, and absent elsewhere; and at each entry to ACTIVE or OFFLINE the PART_STATUS frame is queued with the present content and
its deadline set. All else in the link is as it was. -/
abbrev LinkEntered (n : OpState) (s t : State) : Prop :=
  t.link = { s.link with
    statuses := if s.osc.state = .active then [] else s.link.statuses
    partStatus := if n = .active ∨ n = .offline then some (partStatusOf t) else none
    reportDeadline :=
      if n = .active ∨ n = .parkWatch then
        some (s.link.reportDeadline.getD (s.now + s.setting .reportPeriodS * 1000))
      else none
    partStatusDeadline :=
      if n = .active ∨ n = .offline then some (s.now + s.setting .partStatusPeriodS * 1000) else none }

/-- R142: at the entry to DORMANT the speed is unknown and the frame timeout and both settles are gone; when the state leaves DORMANT the
frame timeout runs from now. -/
abbrev DataEntered (n : OpState) (s t : State) : Prop :=
  t.vdm =
    if n = .dormant then { s.vdm with
      speed := none, frameDeadline := none
      truck := { s.vdm.truck with settle := none }, trailer := { s.vdm.trailer with settle := none } }
    else if s.osc.state = .dormant then { s.vdm with
      frameDeadline := some (s.now + s.setting .vehicleDataTimeoutMs) }
    else s.vdm

/-- The operating state has changed from that of `s` to `n`, with its STATE_CHANGE event and its effects on every block (R143, R26,
R27, R86, R105, R142, R145, R146, R169 to R171; log entry 35 for the bits of the lane masks). -/
abbrev Entered (n : OpState) (s t : State) : Prop :=
  t.osc = { s.osc with
      state := n, parkDelay := none, parkPending := false
      activity := if n = .parkWatch then some (s.now + s.setting .dormantDelayS * 1000) else none }
    ∧ t.evq = (raiseEvent .stateChange none (some n.code) s).evq
    ∧ (∀ l, LaneEntered n s t l) ∧ (∀ r, WheelEntered n s t r) ∧ LinkEntered n s t ∧ DataEntered n s t
    ∧ SameBeyondMode s t

/-! ### A telegram record waiting for TAU -/

/-- `t` is the oldest record its lane has handed, with the others around it (R39, R43). -/
abbrev Handed (s : State) (before : List TelegramRecord) (t : TelegramRecord) (after : List TelegramRecord) : Prop :=
  s.handed = before ++ t :: after ∧ ∀ x ∈ before, x.lane ≠ t.lane

/-- TAU listens (R43), and the part runs. -/
abbrev Listening (s : State) : Prop := s.phase = .running ∧ (s.osc.state = .active ∨ s.osc.state = .parkWatch)

/-- The ID is held by no row and no roster slot, and is no tool's (R44). -/
abbrev UnknownId (s : State) (id : SensorId) : Prop :=
  inToolBlock id = false ∧ rowHolding s id = none ∧ slotsWith s id = []

/-- TAU takes `t`, the oldest record of its lane, as a new measurement of row `r`, with no session for it to answer (R43 to R48). -/
abbrev Measures (s : State) (before : List TelegramRecord) (t : TelegramRecord) (after : List TelegramRecord) (r : Row) : Prop :=
  Listening s ∧ Handed s before t after ∧ inToolBlock t.id = false ∧ rowHolding s t.id = some r ∧ enrolledCopy s r t = false
    ∧ (sessionOpen s = false ∨ t.mode ≠ .triggered)

/-- A measurement of the fault kind (R59). -/
abbrev FaultKind (t : TelegramRecord) : Prop := t.pressure.toNat = 4094 ∨ t.pressure.toNat = 4095 ∨ t.fault = true

/-- A new sample finds a refill in a ring (R70, R71): it is later than the newest sample, and exceeds by more than 20 pu the newest that is
not more than 3,600 s older than it. -/
def refillFound (ring : List Sample) (x : Sample) : Bool :=
  (ring.getLast?.all fun y => decide (y.time < x.time))
    && ((ring.filter fun y => decide (x.time ≤ y.time + 3600000)).getLast?.any fun y => decide (y.pc + 20 < x.pc))

/-- Step 3 of R68 finds a refill for row `r`, whose Pc the measurement `t` has made `pc` (R67, R71, R74). -/
def refills (s : State) (r : Row) (t : TelegramRecord) (pc : Pu) : Bool :=
  decide (¬ FaultKind t) && !raisedRow s r && refillFound (s.wheel r).ring { pc := pc, time := t.arrival }

/-- The two tests of R92, on the record `w` a measurement `t` has left, the limits `p` in force, the group's record `g` and the Pc of
the partner. -/
def testsOf (p : PressureLimits) (g : TempLimits) (t : TelegramRecord) (w : WheelRecord) (partnerPc : Pu) : Condition → Verdict
  | .lowWarn => { qualifies := decide (w.pc < lowWarnLimit p), clears := decide (lowWarnLimit p + g.hyst ≤ w.pc) }
  | .lowCrit => { qualifies := decide (w.pc < lowCritLimit p), clears := decide (lowCritLimit p + g.hyst ≤ w.pc) }
  | .highWarn => { qualifies := decide (highWarnLimit p ≤ w.pg), clears := decide (w.pg + g.hyst ≤ highWarnLimit p) }
  | .tempWarn =>
    { qualifies := decide (g.tempWarn + 50 ≤ t.temperature.toNat), clears := decide (t.temperature.toNat + 3 ≤ g.tempWarn + 50) }
  | .tempCrit =>
    { qualifies := decide (g.tempCrit + 50 ≤ t.temperature.toNat), clears := decide (t.temperature.toNat + 3 ≤ g.tempCrit + 50) }
  | .leak =>
    { qualifies := decide (g.leakWarn ≤ w.leakRate.getD 0), clears := decide (w.leakRate.getD 0 < g.leakWarn - g.leakWarn / 4) }
  | .fastLeak => { qualifies := decide (t.mode = .alert), clears := decide (t.mode ≠ .alert) }
  | .imbalance =>
    let d := max w.pc partnerPc - min w.pc partnerPc
    { qualifies := decide (g.imbalance < d), clears := decide (d = 0 ∨ d + g.hyst ≤ g.imbalance) }
  | .batteryLow => { qualifies := t.batteryLow, clears := !t.batteryLow }
  | .sensorFault => { qualifies := decide (FaultKind t), clears := decide (¬ FaultKind t) }
  | .missing => { qualifies := false, clears := false }

/-- Whether a condition of row `r` is judged on the measurement `t`, which has left the rate `rate` (table of R91, R95); `s` is the
state before it. -/
def isJudged (s : State) (r : Row) (t : TelegramRecord) (rate : Option Nat) : Condition → Bool
  | .lowWarn => decide (¬ FaultKind t) && !raisedRow s r
  | .lowCrit | .highWarn | .fastLeak => decide (¬ FaultKind t)
  | .tempWarn | .tempCrit => decide (¬ FaultKind t) && decide (t.temperature.toNat ≠ 255)
  | .leak => decide (¬ FaultKind t) && !raisedRow s r && rate.isSome && decide ((groupOf s r).temp.leakWarn ≠ 0)
  | .imbalance =>
    decide (¬ FaultKind t) && !raisedRow s r && decide ((axleOf s (rowAxle r)).layout = .dual)
      && decide ((s.wheel (partner r)).status = .live) && decide ((s.wheel (partner r)).pc ≤ 4000)
  | .batteryLow | .sensorFault => true
  | .missing => false

/-- A condition enters on the first measurement that qualifies (R94). -/
def entersFirst (t : TelegramRecord) : Condition → Bool
  | .lowCrit | .tempCrit | .fastLeak | .sensorFault => true
  | .lowWarn => decide (t.mode = .alert)
  | _ => false

/-- A condition as a record holds it: active or not, and its counter (R78, R93). -/
abbrev condOf (w : WheelRecord) (c : Condition) : Bool × Nat := (hasCond w.active c, w.counters[c.code])

/-- The CONDITION_ON or CONDITION_OFF event of a row, with the active set after the change and the Pc (R96). -/
abbrev conditionEvent (r : Row) (c : Condition) (on : Bool) (active : ConditionSet) (pc : Pu) (time : Nat) : Event :=
  { kind := if on = true then .conditionOn else .conditionOff, row := some r, condition := some c
    level := some (highest active), value := some (BitVec.ofNat 32 pc), time := time }

/-- The active set when the conditions up to `c` have been judged and those after it have not (R96). -/
abbrev activeUpTo (c : Condition) (before after : ConditionSet) : ConditionSet :=
  let upTo : ConditionSet := BitVec.ofNat 16 (2 ^ (c.code.val + 1) - 1)
  (after &&& upTo) ||| (before &&& ~~~upTo)

/-- The duplicate memory of the session once a record has entered it: newest first, one entry an ID, at most four (R46). -/
abbrev remembered (t : TelegramRecord) (copies : List HeardCopy) : List HeardCopy :=
  ({ id := t.id, sequence := t.sequence, arrival := t.arrival } :: copies.filter fun c => decide (c.id ≠ t.id)).take 4

/-- A session that stood at step `i` has ended otherwise than COMPLETED (R119): ENC is closed with the outcome, nothing pending has
reached the tables, the candidates and the walk order are kept, ENROL_ENDED is raised, and a park pending moves the part. -/
abbrev Closed (how : Ending) (i : Nat) (s u : State) : Prop :=
  u.enc.session = none ∧ u.enc.pairs = [] ∧ u.enc.copies = [] ∧ u.enc.stepDeadline = none
    ∧ u.enc.lastEnding = how ∧ u.enc.applied = 0 ∧ u.enc.leftVacant = 0 ∧ u.enc.walk = s.enc.walk
    ∧ u.tables = s.tables ∧ u.candidates = s.candidates ∧ u.trailer = s.trailer ∧ u.store = s.store ∧ u.vdm = s.vdm
    ∧ Raised
        { kind := .enrolEnded, row := s.enc.walk[i]?, value := some (BitVec.ofNat 32 how.code), time := s.now / 1000 } s u
    ∧ (s.osc.parkPending = true ∧ s.lines.ignition = false → u.osc.state = .parkWatch)
    ∧ (¬ (s.osc.parkPending = true ∧ s.lines.ignition = false) → u.osc.state = s.osc.state)

/-- The session has ended so, and nothing else has touched the wheel records: they are as they were, unless a park pending moves the
part. -/
abbrev Ended (how : Ending) (i : Nat) (s u : State) : Prop :=
  Closed how i s u ∧ (¬ (s.osc.parkPending = true ∧ s.lines.ignition = false) → u.wheels = s.wheels)

/-! ### A request waiting to be taken -/

/-- The frame `data` is the oldest request and MGU may take it now (R166, R174). -/
abbrev Waiting (s : State) (data : List Byte) : Prop :=
  s.phase = .running ∧ s.link.requests.head? = some data ∧ mayTake s = true

/-- The oldest request is a well-formed frame of one code, MGU may take it now, and the guard, asked after the take, lets its edit
class pass (R174, R180). -/
abbrev WaitingFor (code : Nat) (s : State) (data : List Byte) : Prop :=
  Waiting s data ∧ data.length = 8 ∧ natAt data 0 = code ∧ guardAllows (takeOff s) (classOf data) = true

/-- The state once the request is taken and answered: the owner leaves `t`, and the answer with the code and the tag of the frame is
the newest RESPONSE (R174). -/
abbrev replied (data : List Byte) (result : ResultCode) (bytes : List Byte) (t : State) : Result :=
  .next (respond (byteAt data 0) (byteAt data 1) result bytes t)

/-- The commands that take a request: `badFrame`, and one a request of the table of 10.1. -/
abbrev requestCommands : List Instr :=
  [.badFrame, .identify, .readPartStatus, .restart, .setSetting, .readSetting, .setLink, .setGuard, .freeze, .goOffline,
    .goActive, .save, .setAxle, .readAxle, .writeRow, .clearRow, .readRow, .rosterWriteTag, .rosterWriteAxle,
    .rosterWriteSlot, .rosterRead, .rosterClear, .trailerSelect, .setLimitsP, .setLimitsT, .readLimits, .setAnnounce,
    .enrolOrder, .enrolStart, .enrolCancel, .enrolStatus, .proposalAccept, .proposalReject, .readCandidate,
    .clearLaneStatus, .eventTake, .snapshotOpen, .snapshotRead]

/-- The edits of 10.1 with their codes, but for ROSTER_WRITE (0x15), which has three commands. -/
abbrev editCommands : List (Nat × Instr) :=
  [(0x07, .setSetting), (0x09, .setLink), (0x0A, .setGuard), (0x10, .setAxle), (0x20, .setLimitsP), (0x21, .setLimitsT),
    (0x23, .setAnnounce), (0x12, .writeRow), (0x13, .clearRow), (0x17, .rosterClear), (0x29, .enrolStart),
    (0x2C, .proposalAccept)]

/-- The command a ROSTER_WRITE is taken by: one a kind of item, and a selector that names none with the tags (log entry 16). -/
def rosterCommand : Option RosterItem → Instr
  | some .tag | none => .rosterWriteTag
  | some (.axle _) => .rosterWriteAxle
  | some (.slot _) => .rosterWriteSlot

/-- Four bytes from byte `i` give the fields of an axle record (R4, R186). -/
abbrev AxleFields (data : List Byte) (i : Nat) (a : AxleRecord) : Prop :=
  natAt data i = a.layout.code ∧ natAt data (i + 1) = a.group.val ∧ natAt data (i + 2) = a.liftable.toNat
    ∧ natAt data (i + 3) = a.nearLane.val

/-- Some field of an axle record is out of its range (R4). -/
abbrev AxleFieldsBad (data : List Byte) (i : Nat) : Prop :=
  2 < natAt data i ∨ 7 < natAt data (i + 1) ∨ 1 < natAt data (i + 2) ∨ 3 < natAt data (i + 3)

/-- The ID stands in a truck row other than `r`, or in a roster slot that row `r` does not mirror (R8). -/
abbrev HeldElsewhere (s : State) (r : Row) (id : SensorId) : Prop :=
  (∃ q : Row, q.val < 20 ∧ q ≠ r ∧ rowId s q = some id)
    ∨ ∃ (k : EntryNo) (t : SlotNo), s.tables.roster[k].slots[t] = some id ∧ ¬ (s.trailer = .identified k ∧ slotRow t = r)

/-- The record of a row has restarted (R79): its starting content, AWAITING or VACANT as the row holds an ID or not. -/
abbrev Restarted (u : State) (r : Row) : Prop :=
  (u.wheel r).status = (if (rowId u r).isSome then .awaiting else .vacant)
    ∧ (u.wheel r).pc = 4095 ∧ (u.wheel r).pg = 4095 ∧ (u.wheel r).raw = 4095 ∧ (u.wheel r).temperature = none
    ∧ (u.wheel r).flags = .clear ∧ (u.wheel r).lastAccepted = none ∧ (u.wheel r).rssi = Vector.replicate 4 0
    ∧ (u.wheel r).active = 0 ∧ (u.wheel r).announced = 0 ∧ (u.wheel r).counters = Vector.replicate 11 0
    ∧ (u.wheel r).ring = [] ∧ (u.wheel r).leakRate = none

/-- A save of the tables has begun (R158): their content is captured, nothing is dirty, and the write time is one the memory may
need; it writes at once, or waits for the end of a crank. -/
abbrev SaveBegun (before : Store) (s : State) : Prop :=
  s.store.state = (if s.lines.crank = true then .suspended else .writing) ∧ s.store.captured = some s.tables
    ∧ 150 ≤ s.store.remaining ∧ s.store.remaining ≤ 600 ∧ s.store.resumeAt = none ∧ s.store.dirty = false
    ∧ s.store.saveAgain = before.saveAgain ∧ s.store.invalid = before.invalid

/-- The link once an error-free frame has been heard: the first one fixes the bit rate (R164). -/
abbrev heardBy (l : Link) : Link :=
  if l.state = .searching then
    { l with state := .running, searchDeadline := none, rate := l.searchRates[l.searchIndex]? }
  else l

/-- `l` is the link after an attempt that was not sent: the frame is its class's oldest again, unless a newer one replaces it or its
class is not sent in the operating state at the attempt's end (R168; the model's choice where R169 can be read otherwise, log entry 38). -/
abbrev Returned (o : OpState) (f : TxFrame) (before l : Link) : Prop :=
  match f with
  | .alert a => l = { before with
      buffer := none
      alerts := if a.row ∈ before.alerts.map AlertFrame.row then before.alerts else a :: before.alerts }
  | .response x => l = { before with buffer := none, responses := x :: before.responses }
  | .status a => l = { before with
      buffer := none
      statuses := if o = .active ∧ a.row ∉ before.statuses.map StatusFrame.row then a :: before.statuses
        else before.statuses }
  | .partStatus p => l = { before with
      buffer := none
      partStatus := if (o = .active ∨ o = .offline) ∧ before.partStatus = none then some p else before.partStatus }

/-! ### Sessions completed, searches and recognition -/

/-- A session that stood at step `i` has completed with these pairs, the guard permitting (R121, R122): the map that results, the wheel
records that restart, the candidates removed, the dirty flag and the automatic save, ENROL_COMPLETED, and the session closed with both
counts. -/
abbrev Completed (i : Nat) (pairs : List EnrolPair) (s u : State) : Prop :=
  let rows := pairs.map EnrolPair.row
  let sources := pairs.map EnrolPair.source
  let applied := (rows.filter fun r => decide (rowId s r ≠ rowId u r)).length
  (∀ p ∈ pairs, rowId u p.row = some p.id)
    ∧ (∀ r, r ∉ rows → some r ∈ sources → rowId u r = none)
    ∧ (∀ r, r ∉ rows → some r ∉ sources → rowId u r = rowId s r)
    ∧ u.tables = { s.tables with rows := u.tables.rows, roster := u.tables.roster }
    ∧ (∀ r, rowId u r ≠ rowId s r → Restarted u r)
    ∧ u.candidates = s.candidates.filter (fun c => decide (c.id ∉ pairs.map EnrolPair.id))
    ∧ (s.store.state = .idle → SaveBegun s.store u)
    ∧ (s.store.state ≠ .idle → u.store = { s.store with saveAgain := true, dirty := u.store.dirty }
        ∧ (u.store.dirty = true ↔ s.store.dirty = true ∨ ∃ r, rowId u r ≠ rowId s r))
    ∧ Raised
        { kind := .enrolCompleted, row := s.enc.walk[i]?, value := some (BitVec.ofNat 32 applied), time := s.now / 1000 } s u
    ∧ u.enc.session = none ∧ u.enc.pairs = [] ∧ u.enc.copies = [] ∧ u.enc.stepDeadline = none ∧ u.enc.walk = s.enc.walk
    ∧ u.enc.lastEnding = .completed ∧ u.enc.applied = applied
    ∧ u.enc.leftVacant = (allRows.filter fun r => decide (some r ∈ sources) && decide (r ∉ rows)).length
    ∧ (s.osc.parkPending = true ∧ s.lines.ignition = false → u.osc.state = .parkWatch)
    ∧ (¬ (s.osc.parkPending = true ∧ s.lines.ignition = false) → u.osc.state = s.osc.state)

/-- R125: the row is due for a proposal: MISSING, with a moving missing time of at least proposal_delay_s × 1000 ms. -/
abbrev DueRow (s : State) (r : Row) : Prop :=
  (s.wheel r).status = .missing ∧ s.setting .proposalDelayS * 1000 ≤ (s.episode r).movingMs

/-- R126: a candidate is eligible for a due row: at least 10 moving-rolling hits, its best lane the near lane of the row's axle, first
heard later than the row's last accepted time where there is one, and not among the row's rejected IDs. -/
abbrev EligibleFor (s : State) (r : Row) (c : Candidate) : Prop :=
  10 ≤ c.movingHits ∧ c.bestLane = (axleOf s (rowAxle r)).nearLane
    ∧ (match (s.wheel r).lastAccepted with
      | none => true
      | some accepted => decide (accepted < c.firstHeard)) = true
    ∧ c.id ∉ (s.episode r).rejected

/-- The eligible candidates of a row, in list order (R126). -/
abbrev candidatesFor (s : State) (r : Row) : List Candidate := s.candidates.filter fun c => decide (EligibleFor s r c)

/-- R127: a search can run: no proposal is open, no session is open, and the state is ACTIVE or PARK_WATCH. -/
abbrev SearchAllowed (s : State) : Prop :=
  s.enc.proposal = none ∧ s.enc.session = none ∧ (s.osc.state = .active ∨ s.osc.state = .parkWatch)

/-- The search of R128 has gone from `s` to `u`: it visits the due rows (R125) in ascending order, reports as ambiguous, once an episode,
each with two or more eligible candidates (R126), and opens a proposal for the first with exactly one, where it stops; each with its
event. -/
abbrev Searched (s u : State) : Prop :=
  u.enc.proposal =
      ((allRows.filter fun q => decide (DueRow s q)).find? fun q => decide ((candidatesFor s q).length = 1)).bind
        (fun q => (candidatesFor s q).head?.map (fun c => (q, c.id)))
    ∧ (∀ p, u.enc.proposal = some p →
        Raised { kind := .proposalOpen, row := some p.1, value := some p.2, time := s.now / 1000 } s u)
    ∧ (∀ q, (u.episode q).ambiguous = true ↔ (s.episode q).ambiguous = true
        ∨ (DueRow s q ∧ 2 ≤ (candidatesFor s q).length ∧ ∀ p, u.enc.proposal = some p → q < p.1))
    ∧ (∀ q, (u.episode q).ambiguous ≠ (s.episode q).ambiguous →
        Raised { kind := .proposalAmbiguous, row := some q, value := some (BitVec.ofNat 32 (candidatesFor s q).length)
                 time := s.now / 1000 } s u)
    ∧ (∀ q, (u.episode q).movingMs = (s.episode q).movingMs ∧ (u.episode q).rejected = (s.episode q).rejected)

/-- Recognition after a write to roster entry `k`, `old` before it and `new` after it, while the trailer is RECOGNISING (R20): an ID no
longer in a slot leaves the heard set, a slot that changed forgets its sequence, and a threshold that the heard set now reaches
identifies the entry at once. -/
abbrev Rechecked (k : EntryNo) (old new : RosterEntry) (b u : State) : Prop :=
  let heard := b.recog[k].heard.filter fun id => decide (some id ∈ new.slots.toList)
  let held := (new.slots.toList.filter Option.isSome).length
  (0 < held → min 3 held ≤ heard.length →
      u.trailer = .identified k ∧ u.window = none ∧ u.recog = Vector.replicate 4 .empty
      ∧ (∀ i : SlotNo, rowId u (slotRow i) = new.slots[i]) ∧ (∀ r : Row, 20 ≤ r.val → Restarted u r)
      ∧ Raised { kind := .trailerIdentified, value := some (BitVec.ofNat 32 k.val), time := b.now / 1000 } b u)
    ∧ (held = 0 ∨ heard.length < min 3 held →
      u.trailer = .recognising ∧ u.window = b.window ∧ u.wheels = b.wheels
      ∧ u.recog = b.recog.set k
          { heard := heard
            sequence := Vector.ofFn fun i => if old.slots[i] = new.slots[i] then b.recog[k].sequence[i] else none })

/-! ### Vehicle data -/

/-- The load data of a unit once a frame has reported a load for it (R138, R139). -/
def loadAfterReport (s : State) (x : UnitLoad) : LoadReport → UnitLoad
  | .unladen => reportedAs .unladen .unladen
  | .laden => reportedAs .laden .laden
  | .tipping => { x with reported := .tipping, settle := none }
  | .unknown => { reported := .unknown, applied := .laden, settle := none }
where
  /-- A report of UNLADEN or LADEN: the table of R138. -/
  reportedAs (rep : LoadReport) (load : LoadState) : UnitLoad :=
    if load = x.applied then { x with reported := rep, settle := none }
    else if x.settle ≠ none then { x with reported := rep }
    else if s.setting .loadSettleS = 0 then { reported := rep, applied := load, settle := none }
    else { x with reported := rep, settle := some (load, s.now + s.setting .loadSettleS * 1000) }

/-- The deadlines of a row after a change of its timing set in ACTIVE from `s` to `u` (R83): to moving, they run from now; to parked, from
the base the row had, and what has then passed has expired. -/
abbrev Retimed (s u : State) (r : Row) : Prop :=
  (usesMoving s r = false → usesMoving u r = true →
      (u.wheel r).status = (s.wheel r).status ∧ (u.wheel r).base = some s.now
      ∧ (u.wheel r).staleAt = (if (s.wheel r).status = .live then some (s.now + staleMs u r) else none)
      ∧ (u.wheel r).missingAt = some (s.now + missingMs u r))
    ∧ ∀ base, usesMoving s r = true → usesMoving u r = false → (s.wheel r).base = some base →
      (base + missingMs u r ≤ s.now → (u.wheel r).status = .missing ∧ (u.wheel r).missingAt = none)
      ∧ (s.now < base + missingMs u r →
          (u.wheel r).base = some base ∧ (u.wheel r).missingAt = some (base + missingMs u r)
          ∧ ((s.wheel r).status = .live → base + staleMs u r ≤ s.now →
              (u.wheel r).status = .stale ∧ (u.wheel r).staleAt = none)
          ∧ ((s.wheel r).status = .live → s.now < base + staleMs u r →
              (u.wheel r).status = .live ∧ (u.wheel r).staleAt = some (base + staleMs u r))
          ∧ ((s.wheel r).status ≠ .live → (u.wheel r).status = (s.wheel r).status ∧ (u.wheel r).staleAt = none))

/-- Row `r` has been re-evaluated from `s` to `u` (R100), seen on LOW_CRIT: entered below its limit, left at the limit and h or more, as it was
between; and the counters of the seven conditions that depend on limits are 0, those of held conditions too (the model's reading: log
entry 14, DEDUCED). -/
abbrev Reevaluated (s u : State) (r : Row) : Prop :=
  let limit := lowCritLimit (limitsOf u r)
  ((s.wheel r).pc ≤ 4000 → (s.wheel r).pg ≤ 4000 →
      hasCond (u.wheel r).active .lowCrit =
        (decide ((s.wheel r).pc < limit)
          || (hasCond (s.wheel r).active .lowCrit && decide ((s.wheel r).pc < limit + (groupOf u r).temp.hyst))))
    ∧ ∀ c ∈ limitConditions, (u.wheel r).counters[c.code] = 0

/-- Row `r` has been announced from `s` to `u` (R100, R103, R104): its announced set is the one its active conditions give; where that differs
from the set before and the operating state lets a frame be queued, by the levels before and after the whole of it, its one new ALERT
frame carries the record as it stands in the end; else its frames are as they were. -/
abbrev AnnouncedOnce (s u : State) (r : Row) : Prop :=
  AnnouncedLegal u r
    ∧ (if (u.wheel r).announced ≠ (s.wheel r).announced
          ∧ alertDue s.osc.state (s.wheel r).announcedLevel (u.wheel r).announcedLevel = true then
        alertOf r (u.wheel r) ∈ u.link.alerts
          ∧ ∀ f ∈ u.link.alerts, f.row = r → f = alertOf r (u.wheel r) ∨ f ∈ s.link.alerts
      else
        u.link.alerts.filter (fun f => decide (f.row = r)) = s.link.alerts.filter (fun f => decide (f.row = r)))

/-- The axle of row `r` has been raised (R97): LOW_WARN, LEAK and IMBALANCE are inactive, their counters 0, and the trend gone. -/
abbrev RaisedUp (u : State) (r : Row) : Prop :=
  (∀ c ∈ [Condition.lowWarn, .leak, .imbalance], condOf (u.wheel r) c = (false, 0))
    ∧ (u.wheel r).ring = [] ∧ (u.wheel r).leakRate = none

/-! ### Frames sent -/

/-- The temperature byte of a frame: the value plus 50, and 255 when it is not available (R183). -/
def temperatureByte : Option Int → Nat
  | some t => ((t + 50) % 256).toNat
  | none => 255

/-! ### The layout of a telegram (R184) -/

/-- The `n` low bits of a number, most significant first. -/
def bitsOf (n v : Nat) : List Bool := (List.range n).map fun i => v.testBit (n - 1 - i)

/-- The first eight bytes of a sensor's telegram, as bits in the order sent (R184). -/
def telegramBits (t : TelegramRecord) : List Bool :=
  bitsOf 32 t.id.toNat ++ bitsOf 2 t.mode.code ++ [t.batteryLow, t.fault] ++ bitsOf 4 t.sequence.toNat
    ++ bitsOf 4 0 ++ bitsOf 12 t.pressure.toNat ++ bitsOf 8 t.temperature.toNat

/-- The whole body of a telegram: the eight bytes and their CRC (R35, R184). -/
def telegramBody (t : TelegramRecord) : List Bool := telegramBits t ++ bitsOf 8 (crc8 (telegramBits t)).toNat

/-! ### All of them -/

/-- Everything above. -/
abbrev Safe (s : State) : Prop :=
  EventsLegal s ∧ LinkLegal s ∧ CandidatesLegal s ∧ SessionLegal s ∧ ProposalLegal s ∧ WheelsLegal s ∧ StoreLegal s
    ∧ ModeLegal s ∧ AllTables TablesLegal s ∧ IdentityLegal s

end Sys2Proof.Machine
end

