-- ==== Sys2Proof/Certificates/Slice0/Obligations.lean ====
section
/-! DEFINITION. The statements for the provers. -/

section

open Sys2Proof Sys2Proof.Machine

/-! ### The queue of commands -/

/-- A step takes the command at the front of the queue and runs it on the state that holds the rest of the queue. -/
def Obligations.StepRunsTheFrontCommand : Prop :=
  ∀ (s : State) (c : Instr) (rest : List Instr),
    s.pending = c :: rest → step s = exec c { s with pending := rest }

/-- The MODEL's choice (log entry 5): on an empty queue one millisecond passes. The clock counts unless the supply is off (section
4.3 of 00_scope); a save in WRITING spends write time (R158); and a MISSING row's moving missing time grows (R125). -/
def Obligations.EmptyQueueIsOneMillisecond : Prop :=
  ∀ s : State, s.pending = [] →
    (s.phase = .off → step s = .next s)
    ∧ (s.phase = .inReset → step s = .next { s with clock := s.clock + 1 })
    ∧ (s.phase = .running →
        step s = .next { s with
          clock := s.clock + 1
          episodes := Vector.ofFn fun r : Row =>
            if s.osc.state = .active ∧ moving s = true ∧ sessionOpen s = false ∧ (s.wheel r).status = .missing then
              { s.episode r with movingMs := (s.episode r).movingMs + 1 }
            else s.episode r
          store :=
            if s.store.state = .writing then { s.store with remaining := s.store.remaining - 1 } else s.store })

/-- Every command that can exist completes, in every state, and none touches the queue; the two commands that could carry a longer
field than a CAN frame has stop on one (R165, log entry 22). -/
def Obligations.EveryCommandCompletes : Prop :=
  (∀ (c : Instr) (s : State), c.wellFormed = true → ∃ t, exec c s = .next t ∧ t.pending = s.pending)
  ∧ ∀ (f : BusFrame) (s : State), 8 < f.data.length →
      exec (.requestFrame f) s = .fault .frameTooLong ∧ exec (.vehicleDataFrame f) s = .fault .frameTooLong

/-- Out of reset the part must be powered and released. While it is not running, a line command changes its line alone, RESET_RELEASE
without supply changes nothing, and neither does any other command but the two that act on the supply. That the other commands do
nothing then is the MODEL's reading of R187 (log entry 6, DEDUCED): the rule does not list them. -/
def Obligations.NothingActsOutsideRunning : Prop :=
  ∀ s : State, s.phase ≠ .running →
    (∀ c : Instr, c.wellFormed = true → c ∉ [.coldReset, .powerLoss, .resetRelease, .crankAssert, .crankRelease] →
      (∀ v, c ≠ .ignitionChange v ∧ c ≠ .serviceChange v) → exec c s = .next s)
    ∧ (s.phase = .off → exec .resetRelease s = .next s)
    ∧ (∀ v, exec (.ignitionChange v) s = .next { s with lines := { s.lines with ignition := v } })
    ∧ (∀ v, exec (.serviceChange v) s = .next { s with lines := { s.lines with service := v } })
    ∧ exec .crankAssert s = .next { s with lines := { s.lines with crank := true } }
    ∧ exec .crankRelease s = .next { s with lines := { s.lines with crank := false } }

/-! ### Resets, supply and lines -/

/-- COLD_RESET, with a save in flight cut short first (R162; sent without a POWER_LOSS before it, log entry 19). Where the image is then
valid, its content is in use, nothing is dirty or invalid, no event waits, and every row is AWAITING or VACANT as it holds an ID or not;
where it is blank, cut short or of a wrong CRC, the part is as `State.reset` (log entries 1 and 2) but for the image (R156). The lines
keep their levels. That the part enters STARTING at once, whatever the level of the RESET line, is the MODEL's (log entry 43, DESIGN
CHOICE). -/
def Obligations.ColdResetLoadsTheTables : Prop :=
  ∀ s : State,
    let image := if saveInFlight s = true then Image.cutShort else s.image
    ((∀ c, image ≠ imageOf c) → exec .coldReset s = .next { State.reset with
      lines := s.lines, saves := s.saves, pending := s.pending, image := image })
    ∧ ∀ c : Tables, image = imageOf c →
      exec .coldReset s = .next { State.reset with
        lines := s.lines, saves := s.saves, pending := s.pending, image := image, tables := c
        evq := { records := [], overflow := false, taken := none }
        store := .reset
        wheels := Vector.ofFn fun r : Row =>
          .fresh (if h : r.val < 20 then (if c.rows[r.val].isSome then .awaiting else .vacant) else .vacant)
        vdm := .reset (some c.settings[Setting.vehicleDataTimeoutMs.item])
        link := .cleared .searching none (searchList c.link.preferred) (some 2000) }

/-- POWER_LOSS and RESET_ASSERT, whole. A save in flight is cut short (R162), and everything volatile is at its reset value: lanes,
records handed on, trailer state and recognition, candidates, wheel records, session and proposal, missing episodes, vehicle data,
operating state, event queue, save, and every queue, buffer and deadline of the link; both deferred requests go unanswered (R143,
R161). The clock, FROZEN, the bit rate and the tables stay for the release to work with; after a POWER_LOSS the COLD_RESET that must
follow gives them anew. That a reset by the line takes its volatile part at the assertion and the rest at the release is the MODEL's
reading of R187 (log entry 11, DEDUCED); RESET_ASSERT outside running is log entry 6. -/
def Obligations.PowerLossAndResetCutTheSave : Prop :=
  ∀ s : State,
    let bare : State := { s with
      image := if saveInFlight s = true then .cutShort else s.image
      lanes := Vector.replicate 4 .reset, handed := []
      trailer := .none, window := none, recog := Vector.replicate 4 .empty, candidates := []
      wheels := Vector.replicate 32 (.fresh .vacant), enc := .reset, episodes := Vector.replicate 32 .reset
      vdm := .reset none, osc := .reset, store := .reset
      evq := { records := [], overflow := false, taken := none }
      link :=
        { state := s.link.state, rate := s.link.rate, searchRates := [], searchIndex := 0, searchDeadline := none
          failures := 0, quietDeadline := none, alerts := [], responses := [], statuses := [], partStatus := none
          buffer := none, requests := [], overrun := false, reportDeadline := none, partStatusDeadline := none
          snapshots := .reset }
      mgu := { s.mgu with deferredRestart := none } }
    exec .powerLoss s = .next { bare with phase := .off }
    ∧ (s.phase = .running → exec .resetAssert s = .next { bare with phase := .inReset })
    ∧ (s.phase ≠ .running → exec .resetAssert s = .next s)

/-- RESET_RELEASE enters STARTING (R187) with the load of R156: a valid image gives its content; a blank one, one cut short and one of a
wrong CRC give the factory tables, both flags and STORE_INVALID. Every row is AWAITING or VACANT as it holds an ID or not, and the frame
timeout runs (R78, R133). The bit rate already fixed stays in effect, and a search not done begins afresh (R164). That the load, the
link state, the search deadline and the frame timeout are worked out at the release and not at the assertion is the MODEL's reading
(log entry 11, DEDUCED). -/
def Obligations.ResetReleaseEntersStarting : Prop :=
  ∀ s : State, s.phase = .inReset → ∃ t, exec .resetRelease s = .next t
    ∧ t.phase = .running ∧ t.osc = .reset ∧ t.clock = s.clock ∧ t.lines = s.lines ∧ t.image = s.image
    ∧ t.mgu = { s.mgu with deferredRestart := none } ∧ t.enc = .reset ∧ t.candidates = [] ∧ t.trailer = .none
    ∧ (∀ r, t.wheel r = .fresh (if (rowId t r).isSome then .awaiting else .vacant))
    ∧ t.vdm = .reset (some (s.now + t.setting .vehicleDataTimeoutMs))
    ∧ (s.link.state ≠ .searching → t.link.state = .running ∧ t.link.rate = s.link.rate)
    ∧ (s.link.state = .searching → t.link.state = .searching ∧ t.link.searchDeadline = some (s.now + 2000)
        ∧ t.link.searchIndex = 0 ∧ t.link.searchRates = searchList t.tables.link.preferred)
    ∧ (∀ c, s.image = imageOf c →
        t.tables = c ∧ t.store = .reset ∧ t.evq.records = [])
    ∧ ((∀ c, s.image ≠ imageOf c) →
        t.tables = .factory ∧ t.store = { Store.reset with dirty := true, invalid := true }
        ∧ t.evq.records = [{ kind := .storeInvalid, time := s.now / 1000 }])

/-- LOAD_COMPLETE leaves STARTING by the IGNITION level (R143); the park delay and the activity deadline, once they have come, move
the part to PARK_WATCH, or note park pending while a session is open, and to DORMANT (R145, R146). The MODEL's: bit l of
lane_enable_mask, by which the lanes follow, and of the jam mask is lane l's (log entry 35, DESIGN CHOICE). -/
def Obligations.StateChangesByLoadAndDeadlines : Prop :=
  (∀ s : State, s.phase = .running → s.osc.state = .starting →
    ∃ t, exec .loadComplete s = .next t ∧ Entered (if s.lines.ignition = true then .active else .parkWatch) s t)
  ∧ (∀ (s : State) (d : Millis), s.phase = .running → s.osc.state = .active → s.osc.parkDelay = some d → d ≤ s.now →
      sessionOpen s = false → ∃ t, exec .parkDelayExpiry s = .next t ∧ Entered .parkWatch s t)
  ∧ (∀ (s : State) (d : Millis), s.phase = .running → s.osc.state = .active → s.osc.parkDelay = some d → d ≤ s.now →
      sessionOpen s = true →
      exec .parkDelayExpiry s = .next { s with osc := { s.osc with parkDelay := none, parkPending := true } })
  ∧ ∀ (s : State) (d : Millis), s.phase = .running → s.osc.state = .parkWatch → s.osc.activity = some d → d ≤ s.now →
      ∃ t, exec .activityExpiry s = .next t ∧ Entered .dormant s t

/-- The table of R144, cell by cell, with R145 for the turn-off in ACTIVE. The MODEL's: bit l of lane_enable_mask, by which the lanes
follow, and of the jam mask is lane l's (log entry 35, DESIGN CHOICE). -/
def Obligations.IgnitionTable : Prop :=
  ∀ s : State, s.phase = .running →
    (s.lines.ignition = false → s.osc.state = .parkWatch ∨ s.osc.state = .dormant →
      ∃ t, exec (.ignitionChange true) s = .next t ∧ Entered .active { s with lines := { s.lines with ignition := true } } t)
    ∧ (s.lines.ignition = false → s.osc.state = .starting ∨ s.osc.state = .offline →
      exec (.ignitionChange true) s = .next { s with lines := { s.lines with ignition := true } })
    ∧ (s.lines.ignition = false → s.osc.state = .active →
      exec (.ignitionChange true) s = .next { s with
        lines := { s.lines with ignition := true }
        osc := { s.osc with parkDelay := none, parkPending := false } })
    ∧ (s.lines.ignition = true → s.osc.state ≠ .active →
      exec (.ignitionChange false) s = .next { s with lines := { s.lines with ignition := false } })
    ∧ (s.lines.ignition = true → s.osc.state = .active → s.setting .parkDelayS ≠ 0 →
      exec (.ignitionChange false) s = .next { s with
        lines := { s.lines with ignition := false }
        osc := { s.osc with parkDelay := some (s.now + s.setting .parkDelayS * 1000) } })
    ∧ (s.lines.ignition = true → s.osc.state = .active → s.setting .parkDelayS = 0 → sessionOpen s = false →
      ∃ t, exec (.ignitionChange false) s = .next t
        ∧ Entered .parkWatch { s with lines := { s.lines with ignition := false } } t)
    ∧ (s.lines.ignition = true → s.osc.state = .active → s.setting .parkDelayS = 0 → sessionOpen s = true →
      exec (.ignitionChange false) s = .next { s with
        lines := { s.lines with ignition := false }
        osc := { s.osc with parkDelay := none, parkPending := true } })

/-- SERVICE_CHANGE changes the line and nothing else, and the guard judges every edit by the line as it then is: the table of R180,
whole. -/
def Obligations.GuardReadsTheServiceLine : Prop :=
  (∀ (s : State) (v : Bool),
    exec (.serviceChange v) s = .next { s with lines := { s.lines with service := v } })
  ∧ ∀ s : State,
    guardAllows s .notAnEdit = true
    ∧ (s.mgu.frozen = true → guardAllows s .wheel = false ∧ guardAllows s .table = false)
    ∧ (s.mgu.frozen = false →
        (s.tables.guardLevel = .openLevel → guardAllows s .wheel = true ∧ guardAllows s .table = true)
        ∧ (s.tables.guardLevel = .service →
            guardAllows s .wheel = s.lines.service ∧ guardAllows s .table = s.lines.service)
        ∧ (s.tables.guardLevel = .fleet →
            guardAllows s .wheel = s.lines.service ∧ guardAllows s .table = false))

/-- CRANK suspends a save being written or about to resume, and its release resumes it 100 ms later; the resume deadline returns it to
WRITING with the write time it had left (R159). Nothing else changes. -/
def Obligations.CrankSuspendsTheSave : Prop :=
  ∀ s : State, s.phase = .running →
    (s.store.state = .writing ∨ s.store.state = .resuming →
      exec .crankAssert s = .next { s with
        lines := { s.lines with crank := true }
        store := { s.store with
          state := .suspended
          resumeAt := if s.store.state = .resuming then none else s.store.resumeAt } })
    ∧ (s.store.state = .idle ∨ s.store.state = .suspended →
      exec .crankAssert s = .next { s with lines := { s.lines with crank := true } })
    ∧ (s.store.state = .suspended →
      exec .crankRelease s = .next { s with
        lines := { s.lines with crank := false }
        store := { s.store with state := .resuming, resumeAt := some (s.now + 100) } })
    ∧ (s.store.state ≠ .suspended →
      exec .crankRelease s = .next { s with lines := { s.lines with crank := false } })
    ∧ ∀ d, s.store.state = .resuming → s.store.resumeAt = some d → d ≤ s.now →
      exec .resumeExpiry s = .next { s with store := { s.store with state := .writing, resumeAt := none } }

/-! ### Lanes -/

/-- The four steps a bit can be besides an ordinary one and the last of a body: the match of the sync word, the 48th equal bit, the
bit that ends a jam, and the stuff bit equal to the five before it (R29, R30, R31, R33). The other lanes and all else stay as they
were. The RSSI is the linear conversion of the level, with a result of 0 taken as 1; a level between two results gives one of them, and
which is a free value (R187; log entry 24). -/
def Obligations.LaneSyncJamClearViolation : Prop :=
  ∀ (s : State) (l : LaneNo) (bit : Bool), s.phase = .running →
    (∀ (history : List Bool) (run : BitRun) (level : BitVec 16), (s.lane l).state = .hunt history run →
      pushHistory history bit = syncWord →
      ∃ rssi : Byte, exec (.syncMatch l bit level) s = .next { s with
          lanes := s.lanes.set l { state := .body [] .empty rssi, flags := (s.lane l).flags } }
        ∧ (rssi.toNat = max 1 (level.toNat / 257) ∨ rssi.toNat = level.toNat / 257 + 1)
        ∧ ∀ n, level.toNat = 257 * n → rssi.toNat = max 1 n)
    ∧ (∀ (history : List Bool), (s.lane l).state = .hunt history { value := bit, length := 47 } →
      pushHistory history bit ≠ syncWord →
      exec (.laneJam l bit) s = .next (raiseEvent .laneJam none (some l.val) { s with
        lanes := s.lanes.set l { state := .jammed bit, flags := { (s.lane l).flags with jam := true } } }))
    ∧ ((s.lane l).state = .jammed (!bit) →
      exec (.laneClear l bit) s = .next (raiseEvent .laneClear none (some l.val) { s with
        lanes := s.lanes.set l
          { state := .hunt [bit] { value := bit, length := 1 }, flags := (s.lane l).flags } }))
    ∧ (∀ (taken : List Bool) (rssi : Byte), (s.lane l).state = .body taken { value := bit, length := 5 } rssi →
      exec (.runViolation l bit) s = .next { s with
        lanes := s.lanes.set l
          { state := .hunt [] { value := false, length := 0 }
            flags := { (s.lane l).flags with runViolation := true } } })

/-- BIT_TAKEN, in each lane state that takes a bit: the history and the run in HUNT, a de-stuffed bit or a stuff bit in BODY, and the
same value again in JAMMED (R29, R30, R31, R32). -/
def Obligations.BitTakenUpdatesTheLane : Prop :=
  ∀ (s : State) (l : LaneNo) (bit : Bool), s.phase = .running →
    (∀ (history : List Bool) (run : BitRun), (s.lane l).state = .hunt history run →
      pushHistory history bit ≠ syncWord → (extendRun run bit).length ≠ 48 →
      exec (.bitTaken l bit) s = .next { s with
        lanes := s.lanes.set l
          { state := .hunt (pushHistory history bit) (extendRun run bit), flags := (s.lane l).flags } })
    ∧ (∀ (taken : List Bool) (run : BitRun) (rssi : Byte), (s.lane l).state = .body taken run rssi →
      run.length < 5 → taken.length < 71 →
      exec (.bitTaken l bit) s = .next { s with
        lanes := s.lanes.set l
          { state := .body (taken ++ [bit])
              (if run.length ≠ 0 ∧ run.value = bit then { value := bit, length := run.length + 1 }
              else { value := bit, length := 1 }) rssi
            flags := (s.lane l).flags } })
    ∧ (∀ (taken : List Bool) (rssi : Byte), (s.lane l).state = .body taken { value := !bit, length := 5 } rssi →
      exec (.bitTaken l bit) s = .next { s with
        lanes := s.lanes.set l
          { state := .body taken { value := bit, length := 1 } rssi, flags := (s.lane l).flags } })
    ∧ ((s.lane l).state = .jammed bit → exec (.bitTaken l bit) s = .next s)

/-- TELEGRAM_COMPLETE on a body that fails: the CRC is checked first and then the form, the flag of the failure is set, no record is
delivered, and the lane hunts afresh (R34, R35, R36). -/
def Obligations.BadBodiesAreDropped : Prop :=
  ∀ (s : State) (l : LaneNo) (bit : Bool) (taken : List Bool) (run : BitRun) (rssi : Byte),
    s.phase = .running → (s.lane l).state = .body taken run rssi → run.length ≠ 5 → taken.length = 71 →
    ((crc8 ((taken ++ [bit]).take 64)).toNat ≠ field (taken ++ [bit]) 64 8 →
      exec (.telegramComplete l bit) s = .next { s with
        lanes := s.lanes.set l
          { state := .freshHunt, flags := { (s.lane l).flags with crcFail := true } } })
    ∧ ((crc8 ((taken ++ [bit]).take 64)).toNat = field (taken ++ [bit]) 64 8 →
      field (taken ++ [bit]) 0 32 = 0 ∨ field (taken ++ [bit]) 40 4 ≠ 0 →
      exec (.telegramComplete l bit) s = .next { s with
        lanes := s.lanes.set l
          { state := .freshHunt, flags := { (s.lane l).flags with malformed := true } } })

/-- The telegram a sensor sends is the record TAU is handed: for every record with an ID, the 72 bits of its layout with their CRC,
taken by a lane in BODY, give that record, with the lane, the RSSI and the arrival time of its reception (R34, R35, R37, R39,
R184). -/
def Obligations.TelegramsDecodeToWhatWasSent : Prop :=
  ∀ (s : State) (l : LaneNo) (run : BitRun) (rssi : Byte) (bit : Bool) (sent : TelegramRecord),
    s.phase = .running → sent.id ≠ 0 → run.length ≠ 5 →
    (s.lane l).state = .body ((telegramBody sent).take 71) run rssi → (telegramBody sent)[71]? = some bit →
    exec (.telegramComplete l bit) s = .next { s with
      lanes := s.lanes.set l { state := .freshHunt, flags := (s.lane l).flags }
      handed := s.handed ++ [{ sent with lane := l, rssi := rssi, arrival := s.now }] }

/-! ### Acceptance, candidates and measurements -/

/-- TELEGRAM_RECORD where TAU takes nothing further from the record: it does not listen (R43); the record is a tool's and no session
is open (R45); it is a duplicate of the row's last measurement, of which only the RSSI of the lane is kept (R47, R48); or, with a session
open, it is a tool's or TRIGGERED and the session's duplicate memory holds it (R46): ENC and its memory are as they were, a roster-foreign
one may still count toward recognition (R49), and nothing else changes. -/
def Obligations.DiscardedAndDuplicateRecords : Prop :=
  ∀ (s : State) (before after : List TelegramRecord) (t : TelegramRecord), s.phase = .running → Handed s before t after →
    (s.osc.state = .starting ∨ s.osc.state = .dormant ∨ s.osc.state = .offline →
      exec (.telegramRecord t.lane) s = .next { s with handed := before ++ after })
    ∧ (Listening s → inToolBlock t.id = true → sessionOpen s = false →
      exec (.telegramRecord t.lane) s = .next { s with handed := before ++ after })
    ∧ (∀ (r : Row) (a : Millis), Listening s → inToolBlock t.id = false → rowHolding s t.id = some r →
      (s.wheel r).lastSequence = some t.sequence → (s.wheel r).lastAccepted = some a →
      absDiff a t.arrival ≤ s.setting .duplicateWindowMs →
      exec (.telegramRecord t.lane) s = .next { s with
        handed := before ++ after
        wheels := s.wheels.set r { s.wheel r with rssi := (s.wheel r).rssi.set t.lane t.rssi } })
    ∧ ∀ copy ∈ s.enc.copies, Listening s → s.enc.session ≠ none →
      copy.id = t.id → copy.sequence = t.sequence → absDiff copy.arrival t.arrival ≤ s.setting .duplicateWindowMs →
      (inToolBlock t.id = true ∨ (t.mode = .triggered ∧ UnknownId s t.id)
          ∨ (t.mode = .triggered ∧ inToolBlock t.id = false ∧ rowHolding s t.id = none ∧ slotsWith s t.id ≠ []
              ∧ s.trailer ≠ .recognising) →
        exec (.telegramRecord t.lane) s = .next { s with handed := before ++ after })
      ∧ (t.mode = .triggered → inToolBlock t.id = false → rowHolding s t.id = none → slotsWith s t.id ≠ [] →
          s.trailer = .recognising → SessionLegal s →
        ∃ u, exec (.telegramRecord t.lane) s = .next u ∧ u.handed = before ++ after ∧ u.enc = s.enc ∧ u.tables = s.tables
          ∧ u.candidates = s.candidates ∧ u.osc = s.osc ∧ u.store = s.store ∧ u.vdm = s.vdm
          ∧ ∀ q : Row, q.val < 20 → u.wheel q = s.wheel q)

/-- TELEGRAM_RECORD of an enrolled sensor, new to its row, with no session to answer: WEVU writes the measurement whole, its four flags
among it (R47, R60 to R68, R80, R82); appends it to the trend ring, or finds a refill, or where the axle is raised does neither, and works
out the leak rate (R69 to R74); clears MISSING where the row was MISSING and ends its missing episode (R125); and leaves every row but
this one and its partner, and every table, as they were. What it judges is stated by ConditionsPersist. -/
def Obligations.MeasurementIsWritten : Prop :=
  ∀ (s : State) (before after : List TelegramRecord) (t : TelegramRecord) (r : Row), Measures s before t after r →
    let cold : Int := (pcold t.pressure.toNat (kref (groupOf s r).temp.tref)
      (kmeas (groupOf s r).temp.tref t.temperature) : Int) - s.vdm.ambient
    let hot : Int := (t.pressure.toNat : Int) - s.vdm.ambient
    let ring := (s.wheel r).ring
    ∃ u, exec (.telegramRecord t.lane) s = .next u
      ∧ u.handed = before ++ after
      ∧ (u.wheel r).status = .live ∧ (u.wheel r).raw = t.pressure.toNat
      ∧ (u.wheel r).temperature = (if t.temperature.toNat = 255 then none else some ((t.temperature.toNat : Int) - 50))
      ∧ (u.wheel r).lastMode = some t.mode ∧ (u.wheel r).lastSequence = some t.sequence
      ∧ (u.wheel r).lastAccepted = some t.arrival ∧ (u.wheel r).base = some t.arrival
      ∧ (u.wheel r).rssi = (s.wheel r).rssi.set t.lane t.rssi
      ∧ (FaultKind t →
          (u.wheel r).pc = 4094 ∧ (u.wheel r).pg = 4094
          ∧ (u.wheel r).flags =
            { belowAmbient := false, overrange := decide (t.pressure.toNat = 4094)
              tempUnavailable := decide (t.temperature.toNat = 255), sensorFaultSeen := true }
          ∧ (u.wheel r).ring = ring ∧ (u.wheel r).leakRate = (s.wheel r).leakRate)
      ∧ (¬ FaultKind t →
          (u.wheel r).pc = clampGauge cold ∧ (u.wheel r).pg = clampGauge hot
          ∧ (u.wheel r).flags =
            { belowAmbient := decide (cold < 0 ∨ hot < 0), overrange := decide (4000 < cold ∨ 4000 < hot)
              tempUnavailable := decide (t.temperature.toNat = 255)
              sensorFaultSeen := (s.wheel r).flags.sensorFaultSeen })
      ∧ (¬ FaultKind t → raisedRow s r = true → (u.wheel r).ring = ring ∧ (u.wheel r).leakRate = none)
      ∧ (¬ FaultKind t → raisedRow s r = false →
          let x : Sample := { pc := (u.wheel r).pc, time := t.arrival }
          let kept := ring.filter fun y => decide (t.arrival ≤ y.time + 3600000)
          (∀ y, ring.getLast? = some y → t.arrival ≤ y.time → (u.wheel r).ring = ring)
          ∧ (refillFound ring x = true → (u.wheel r).ring = [x]
              ∧ Raised { kind := .refill, row := some r, value := some (BitVec.ofNat 32 x.pc), time := s.now / 1000 } s u)
          ∧ (refillFound ring x = false → (∀ y, ring.getLast? = some y → y.time < t.arrival) →
              (u.wheel r).ring = kept.drop (kept.length - 7) ++ [x])
          ∧ ∀ oldest newest, (u.wheel r).ring.head? = some oldest → (u.wheel r).ring.getLast? = some newest →
              let span := newest.time - oldest.time
              (u.wheel r).leakRate =
                if 4 ≤ (u.wheel r).ring.length ∧ 120000 ≤ span then
                  some ((oldest.pc - newest.pc) * 600 / (span / 1000))
                else none)
      ∧ (s.osc.state = .active →
          (u.wheel r).staleAt = some (t.arrival + staleMs s r) ∧ (u.wheel r).missingAt = some (t.arrival + missingMs s r))
      ∧ ((s.wheel r).status = .missing →
          hasCond (u.wheel r).active .missing = false ∧ (u.episode r).movingMs = 0 ∧ (u.episode r).rejected = [])
      ∧ (∀ q, q ≠ r → q ≠ partner r → u.wheel q = s.wheel q)
      ∧ (u.wheel (partner r)).status = (s.wheel (partner r)).status ∧ (u.wheel (partner r)).pc = (s.wheel (partner r)).pc
      ∧ u.tables = s.tables ∧ u.lanes = s.lanes ∧ u.candidates = s.candidates ∧ u.trailer = s.trailer ∧ u.vdm = s.vdm
      ∧ u.store = s.store ∧ u.mgu = s.mgu ∧ u.osc.state = s.osc.state ∧ u.enc.session = s.enc.session
      ∧ u.link.requests = s.link.requests ∧ u.link.responses = s.link.responses

/-- An unknown record that no session claims makes a candidate, at the end of the list; a list of 16 first gives up the record with the
fewest hits, of those the one heard longest ago (R50, R54). No wheel and no table changes. The MODEL's: bit l of the lane mask is lane
l's (log entry 35, DESIGN CHOICE). -/
def Obligations.UnknownSensorBecomesCandidate : Prop :=
  ∀ (s : State) (before after : List TelegramRecord) (t : TelegramRecord),
    Listening s → Handed s before t after → UnknownId s t.id → (sessionOpen s = false ∨ t.mode ≠ .triggered) →
    t.id ∉ s.candidates.map Candidate.id →
    ∃ u, exec (.telegramRecord t.lane) s = .next u ∧ u.handed = before ++ after ∧ u.wheels = s.wheels ∧ u.tables = s.tables
      ∧ ∃ kept, u.candidates = kept ++ [{
          id := t.id, firstHeard := t.arrival, lastHeard := t.arrival, hits := 1
          laneMask := BitVec.twoPow 4 t.lane.val, bestLane := t.lane, bestRssi := t.rssi
          movingHits := if t.mode = .rolling ∧ moving s = true then 1 else 0
          lastSequence := t.sequence, lastTime := t.arrival }]
        ∧ (s.candidates.length < 16 → kept = s.candidates)
        ∧ (16 ≤ s.candidates.length → ∃ v ∈ s.candidates,
            (∀ c ∈ s.candidates, v.hits < c.hits ∨ (v.hits = c.hits ∧ v.lastHeard ≤ c.lastHeard))
            ∧ kept = s.candidates.filter fun c => decide (c.id ≠ v.id))

/-- An unknown record for a listed ID updates its candidate in its place: last heard, lane mask and best RSSI always; hits,
moving-rolling hits, last sequence and last time unless it is a duplicate (R53). The MODEL's: bit l of the lane mask is lane l's (log
entry 35, DESIGN CHOICE). -/
def Obligations.CandidateIsUpdatedInPlace : Prop :=
  ∀ (s : State) (before after : List TelegramRecord) (t : TelegramRecord) (front back : List Candidate) (c : Candidate),
    Listening s → Handed s before t after → UnknownId s t.id → (sessionOpen s = false ∨ t.mode ≠ .triggered) →
    s.candidates = front ++ c :: back → c.id = t.id → (s.candidates.map Candidate.id).Nodup →
    ∃ u c', exec (.telegramRecord t.lane) s = .next u ∧ u.handed = before ++ after ∧ u.wheels = s.wheels
      ∧ u.tables = s.tables ∧ u.candidates = front ++ c' :: back
      ∧ c'.id = c.id ∧ c'.firstHeard = c.firstHeard ∧ c'.lastHeard = t.arrival
      ∧ c'.laneMask = c.laneMask ||| BitVec.twoPow 4 t.lane.val
      ∧ (c.bestRssi.toNat < t.rssi.toNat → c'.bestRssi = t.rssi ∧ c'.bestLane = t.lane)
      ∧ (t.rssi.toNat ≤ c.bestRssi.toNat → c'.bestRssi = c.bestRssi ∧ c'.bestLane = c.bestLane)
      ∧ (c.lastSequence = t.sequence ∧ absDiff c.lastTime t.arrival ≤ s.setting .duplicateWindowMs →
          c'.hits = c.hits ∧ c'.movingHits = c.movingHits ∧ c'.lastSequence = c.lastSequence ∧ c'.lastTime = c.lastTime)
      ∧ (¬ (c.lastSequence = t.sequence ∧ absDiff c.lastTime t.arrival ≤ s.setting .duplicateWindowMs) →
          c'.hits = (if c.hits < 255 then c.hits + 1 else c.hits)
          ∧ c'.movingHits = (if t.mode = .rolling ∧ moving s = true then
              (if c.movingHits < 255 then c.movingHits + 1 else c.movingHits) else c.movingHits)
          ∧ c'.lastSequence = t.sequence ∧ c'.lastTime = t.arrival)

/-- CANDIDATE_AGE_EXPIRY removes a candidate not heard for candidate_age_s (R55), and withdraws a proposal whose candidate it was
(R57, R129); RECOGNITION_WINDOW_EXPIRY makes the trailer UNKNOWN (R22). -/
def Obligations.CandidateAgeAndRecognitionWindow : Prop :=
  (∀ (s : State) (c : Candidate), s.phase = .running → c ∈ s.candidates → CandidatesLegal s → ProposalLegal s →
    c.lastHeard + s.setting .candidateAgeS * 1000 ≤ s.now →
    ((∀ r, s.enc.proposal ≠ some (r, c.id)) →
      exec (.candidateAgeExpiry c.id) s = .next { s with candidates := s.candidates.filter fun x => decide (x.id ≠ c.id) })
    ∧ ∀ r, s.enc.proposal = some (r, c.id) →
      ∃ u, exec (.candidateAgeExpiry c.id) s = .next u
        ∧ u.candidates = s.candidates.filter (fun x => decide (x.id ≠ c.id))
        ∧ (∀ q, u.enc.proposal ≠ some (q, c.id)) ∧ u.wheels = s.wheels ∧ u.tables = s.tables
        ∧ Raised { kind := .proposalWithdrawn, row := some r, value := some c.id, time := s.now / 1000 } s u)
  ∧ ∀ (s : State) (d : Millis), s.phase = .running → s.trailer = .recognising → s.window = some d → d ≤ s.now →
    exec .recognitionWindowExpiry s = .next (raiseEvent .trailerUnknown none none { s with
      trailer := .unknown, window := none, recog := Vector.replicate 4 .empty })

/-- TELEGRAM_RECORD of a sensor that stands in a slot of a trailer not identified, with no session to answer (R20, R21, R49). Outside
RECOGNISING it is dropped, and so is a duplicate of the record last counted from the slot. In RECOGNISING a new one enters the sequence
memory and the heard set of its entry; where the set stays below the threshold that is all; where it reaches the threshold the entry is
identified: the rows mirror its slots, their records restart, the window stops, and TRAILER_IDENTIFIED is raised. (Recognition that a
roster write brings about is stated by RosterWrites.) -/
def Obligations.RecognitionIdentifiesTheTrailer : Prop :=
  ∀ (s : State) (before after : List TelegramRecord) (t : TelegramRecord) (k : EntryNo) (slot : SlotNo)
      (rest : List (EntryNo × SlotNo)),
    Listening s → Handed s before t after → inToolBlock t.id = false → rowHolding s t.id = none →
    slotsWith s t.id = (k, slot) :: rest → (t.mode ≠ .triggered ∨ s.enc.session = none) →
    let heard := if t.id ∈ s.recog[k].heard then s.recog[k].heard else s.recog[k].heard ++ [t.id]
    let counted : RecogEntry :=
      { heard := heard, sequence := s.recog[k].sequence.set slot (some (t.sequence, t.arrival)) }
    let duplicate := ∃ time, s.recog[k].sequence[slot] = some (t.sequence, time)
      ∧ absDiff time t.arrival ≤ s.setting .duplicateWindowMs
    (s.trailer ≠ .recognising ∨ duplicate →
      exec (.telegramRecord t.lane) s = .next { s with handed := before ++ after })
    ∧ (s.trailer = .recognising → ¬ duplicate → heard.length < threshold s.tables.roster[k] →
      exec (.telegramRecord t.lane) s = .next { s with handed := before ++ after, recog := s.recog.set k counted })
    ∧ (s.trailer = .recognising → ¬ duplicate → s.tables.roster[k].tag ≠ 0 →
      threshold s.tables.roster[k] ≤ heard.length →
      ∃ u, exec (.telegramRecord t.lane) s = .next u ∧ u.handed = before ++ after
        ∧ u.trailer = .identified k ∧ u.window = none ∧ u.recog = Vector.replicate 4 .empty ∧ u.tables = s.tables
        ∧ (∀ i : SlotNo, rowId u (slotRow i) = s.tables.roster[k].slots[i])
        ∧ (∀ r : Row, 20 ≤ r.val → Restarted u r)
        ∧ (∀ r : Row, r.val < 20 → u.wheel r = s.wheel r)
        ∧ u.candidates = s.candidates ∧ u.enc.session = s.enc.session
        ∧ Raised { kind := .trailerIdentified, value := some (BitVec.ofNat 32 k.val), time := s.now / 1000 } s u)

/-! ### Enrolment -/

/-- The tool actions at a step that is not the walk's end: SKIP advances with no pair, BACK returns one step and drops its pair, and at
step 0 sets the deadline anew alone (R112, R113); the record enters the duplicate memory (R46). ABORT ends the session, and so does
STEP_DEADLINE_EXPIRY once the deadline has come (R114, R119). -/
def Obligations.ToolActionsAndTheStepDeadline : Prop :=
  (∀ (s : State) (before after : List TelegramRecord) (t : TelegramRecord) (i : Nat),
     Listening s → Handed s before t after → inToolBlock t.id = true → s.enc.session = some i → sessionCopy s t = false →
     (t.pressure.toNat = 1 → i + 1 < s.enc.walk.length →
       exec (.skip t.lane) s = .next (raiseEvent .enrolStep s.enc.walk[i]? none { s with
         handed := before ++ after
         enc := { s.enc with
           session := some (i + 1), stepDeadline := some (s.now + s.setting .stepTimeoutS * 1000)
           copies := remembered t s.enc.copies } }))
     ∧ (t.pressure.toNat = 2 → 0 < i →
       exec (.back t.lane) s = .next { s with
         handed := before ++ after
         enc := { s.enc with
           session := some (i - 1), stepDeadline := some (s.now + s.setting .stepTimeoutS * 1000)
           pairs := s.enc.pairs.filter fun p => decide (some p.row ≠ s.enc.walk[i - 1]?)
           copies := remembered t s.enc.copies } })
     ∧ (t.pressure.toNat = 2 → i = 0 →
       exec (.back t.lane) s = .next { s with
         handed := before ++ after
         enc := { s.enc with
           stepDeadline := some (s.now + s.setting .stepTimeoutS * 1000), copies := remembered t s.enc.copies } })
     ∧ (t.pressure.toNat = 3 →
       ∃ u, exec (.abort t.lane) s = .next u ∧ u.handed = before ++ after ∧ Ended .abortedTool i s u))
  ∧ ∀ (s : State) (i : Nat) (d : Millis), s.phase = .running → s.enc.session = some i → s.enc.stepDeadline = some d →
      d ≤ s.now → SessionLegal s → ∃ u, exec .stepDeadlineExpiry s = .next u ∧ Ended .timedOut i s u

/-- A TRIGGERED record at a step that is not the last. An unknown ID is taken as a pair with no source and the session advances; an ID
that a pair holds is ENROL_REPEAT; a roster-foreign one is ENROL_FOREIGN (R111, R112). An enrolled one makes a pair when it stands in
the row itself, or, with its row as the source, when allow_move is yes; else it makes none. -/
def Obligations.AnswersToAStep : Prop :=
  ∀ (s : State) (before after : List TelegramRecord) (t : TelegramRecord) (i : Nat) (r : Row),
    Listening s → Handed s before t after → t.mode = .triggered → s.enc.session = some i → s.enc.walk[i]? = some r →
    i + 1 < s.enc.walk.length →
    (UnknownId s t.id → sessionCopy s t = false → t.id ∉ s.enc.pairs.map EnrolPair.id →
      exec (.telegramRecord t.lane) s = .next (raiseEvent .enrolStep (some r) (some t.id.toNat) { s with
        handed := before ++ after
        enc := { s.enc with
          session := some (i + 1), stepDeadline := some (s.now + s.setting .stepTimeoutS * 1000)
          pairs := s.enc.pairs ++ [{ row := r, id := t.id, source := none }]
          copies := remembered t s.enc.copies } }))
    ∧ (UnknownId s t.id → sessionCopy s t = false → t.id ∈ s.enc.pairs.map EnrolPair.id →
      exec (.telegramRecord t.lane) s = .next (raiseEvent .enrolRepeat (some r) (some t.id.toNat) { s with
        handed := before ++ after, enc := { s.enc with copies := remembered t s.enc.copies } }))
    ∧ (inToolBlock t.id = false → rowHolding s t.id = none → slotsWith s t.id ≠ [] → s.trailer ≠ .recognising →
      sessionCopy s t = false → t.id ∉ s.enc.pairs.map EnrolPair.id →
      exec (.telegramRecord t.lane) s = .next (raiseEvent .enrolForeign (some r) (some t.id.toNat) { s with
        handed := before ++ after, enc := { s.enc with copies := remembered t s.enc.copies } }))
    ∧ ∀ q, inToolBlock t.id = false → rowHolding s t.id = some q → enrolledCopy s q t = false →
      t.id ∉ s.enc.pairs.map EnrolPair.id →
      ∃ u, exec (.telegramRecord t.lane) s = .next u ∧ u.handed = before ++ after ∧ u.tables = s.tables
        ∧ (q = r → u.enc.session = some (i + 1) ∧ u.enc.pairs = s.enc.pairs ++ [{ row := r, id := t.id, source := none }])
        ∧ (q ≠ r → s.enc.allowMove = true →
            u.enc.session = some (i + 1) ∧ u.enc.pairs = s.enc.pairs ++ [{ row := r, id := t.id, source := some q }])
        ∧ (q ≠ r → s.enc.allowMove = false → u.enc.session = some i ∧ u.enc.pairs = s.enc.pairs)

/-- The last step done, by SKIP, or by the answer of an unknown or of an enrolled sensor, whose pair is then the last of the list (R111,
R112). When the guard permits, the pending list is applied as a whole: each pair's row holds its ID, each source row that is no pair's
row is empty, every other row is as before (R120, R121); the rows whose ID changed restart, the candidates of the pairs go, the tables
are dirty if a row changed, a save is requested, ENROL_COMPLETED is raised, and the session closes COMPLETED with both counts (R122).
After SKIP every wheel record whose row and partner kept their IDs runs on, unless a park pending moves the part. When the guard
refuses, no row changes and the outcome is REFUSED; the measurement of an enrolled sensor that gave the last answer stands (R48). -/
def Obligations.CompletionAppliesThePairs : Prop :=
  ∀ (s : State) (before after : List TelegramRecord) (t : TelegramRecord) (i : Nat) (r : Row),
    Listening s → Handed s before t after → s.enc.session = some i → s.enc.walk[i]? = some r →
    i + 1 = s.enc.walk.length → SessionLegal s → WalkLegal s → (∀ p ∈ s.enc.pairs, PairLegal s p) →
    (inToolBlock t.id = true → t.pressure.toNat = 1 → sessionCopy s t = false →
      (guardAllows s .wheel = true →
        ∃ u, exec (.skip t.lane) s = .next u ∧ u.handed = before ++ after ∧ Completed i s.enc.pairs s u
          ∧ (¬ (s.osc.parkPending = true ∧ s.lines.ignition = false) →
              ∀ q, rowId u q = rowId s q → rowId u (partner q) = rowId s (partner q) → u.wheel q = s.wheel q))
      ∧ (guardAllows s .wheel = false →
        ∃ u, exec (.skip t.lane) s = .next u ∧ u.handed = before ++ after ∧ Ended .refused i s u))
    ∧ (t.mode = .triggered → UnknownId s t.id → sessionCopy s t = false → t.id ∉ s.enc.pairs.map EnrolPair.id →
      (guardAllows s .wheel = true →
        ∃ u, exec (.telegramRecord t.lane) s = .next u ∧ u.handed = before ++ after
          ∧ Completed i (s.enc.pairs ++ [{ row := r, id := t.id, source := none }]) s u)
      ∧ (guardAllows s .wheel = false →
        ∃ u, exec (.telegramRecord t.lane) s = .next u ∧ u.handed = before ++ after ∧ Ended .refused i s u))
    ∧ ∀ q, t.mode = .triggered → inToolBlock t.id = false → rowHolding s t.id = some q → enrolledCopy s q t = false →
      t.id ∉ s.enc.pairs.map EnrolPair.id → q = r ∨ s.enc.allowMove = true →
      (guardAllows s .wheel = true →
        ∃ u, exec (.telegramRecord t.lane) s = .next u ∧ u.handed = before ++ after
          ∧ Completed i (s.enc.pairs ++ [{ row := r, id := t.id, source := if q = r then none else some q }]) s u)
      ∧ (guardAllows s .wheel = false →
        ∃ u, exec (.telegramRecord t.lane) s = .next u ∧ u.handed = before ++ after ∧ Closed .refused i s u
          ∧ (u.wheel q).status = .live ∧ (u.wheel q).lastAccepted = some t.arrival ∧ (u.wheel q).raw = t.pressure.toNat
          ∧ (¬ (s.osc.parkPending = true ∧ s.lines.ignition = false) →
              ∀ x, x ≠ q → x ≠ partner q → u.wheel x = s.wheel x))

/-- ROW_DUE of a row that is due, MISSING with a moving missing time of at least proposal_delay_s (R125), and the search of R128: it
visits the due rows in ascending order, reports as ambiguous each with two or more candidates eligible by the four tests of R126, with
PROPOSAL_AMBIGUOUS once an episode, and opens a proposal for the first with exactly one, with PROPOSAL_OPEN, where it stops; nothing
else changes. It runs only under the three conditions of R127. For a row that is not due, ROW_DUE does nothing. That ROW_DUE acts once
for a row, by the flag `dueTaken`, is the MODEL's (log entry 9, DESIGN CHOICE). -/
def Obligations.RowDueSearchesForAReplacement : Prop :=
  ∀ (s : State) (r : Row), s.phase = .running →
    (¬ DueRow s r ∨ (s.episode r).dueTaken = true → exec (.rowDue r) s = .next s)
    ∧ (DueRow s r → (s.episode r).dueTaken = false →
      (¬ SearchAllowed s →
        exec (.rowDue r) s = .next { s with episodes := s.episodes.set r { s.episode r with dueTaken := true } })
      ∧ (SearchAllowed s →
        ∃ u, exec (.rowDue r) s = .next u ∧ Searched s u
          ∧ u = { s with enc := { s.enc with proposal := u.enc.proposal }, episodes := u.episodes, evq := u.evq }))

/-! ### Timers of a wheel -/

/-- STALE_EXPIRY makes a LIVE wheel STALE and changes nothing else (R84); MISSING_EXPIRY takes the values of a silent wheel, empties its
ring, and brings MISSING active with its event and announcement (R85, R96, R103), leaving the other rows and the tables alone. -/
def Obligations.StaleAndMissingExpiry : Prop :=
  ∀ (s : State) (r : Row) (d : Millis), s.phase = .running → d ≤ s.now →
    ((s.wheel r).status = .live → (s.wheel r).staleAt = some d →
      exec (.staleExpiry r) s = .next { s with
        wheels := s.wheels.set r { s.wheel r with status := .stale, staleAt := none } })
    ∧ (((s.wheel r).status = .awaiting ∨ (s.wheel r).status = .live ∨ (s.wheel r).status = .stale) →
      (s.wheel r).missingAt = some d →
      ∃ u, exec (.missingExpiry r) s = .next u
        ∧ (u.wheel r).status = .missing ∧ (u.wheel r).pc = 4095 ∧ (u.wheel r).pg = 4095 ∧ (u.wheel r).temperature = none
        ∧ (u.wheel r).ring = [] ∧ (u.wheel r).leakRate = none
        ∧ (u.wheel r).staleAt = none ∧ (u.wheel r).missingAt = none
        ∧ (u.wheel r).flags = { MeasFlags.clear with sensorFaultSeen := (s.wheel r).flags.sensorFaultSeen }
        ∧ (u.wheel r).raw = (s.wheel r).raw ∧ (u.wheel r).lastMode = (s.wheel r).lastMode
        ∧ (u.wheel r).active = addCond (s.wheel r).active .missing
        ∧ AnnouncedLegal u r
        ∧ u.evq = pushEvent { kind := .conditionOn, row := some r, condition := some .missing
                              level := some (u.wheel r).alarmLevel, value := some 4095, time := s.now / 1000 } s.evq
        ∧ (s.osc.state = .active → (u.wheel r).announced ≠ (s.wheel r).announced →
            ∃ f ∈ u.link.alerts, f.row = r ∧ f.status = .missing ∧ f.announced = (u.wheel r).announced ∧ f.pc = 4095)
        ∧ (∀ q, q ≠ r → u.wheel q = s.wheel q)
        ∧ u.tables = s.tables ∧ u.candidates = s.candidates ∧ u.enc = s.enc ∧ u.osc = s.osc ∧ u.vdm = s.vdm)

/-- ALERT_REPEAT_EXPIRY: where the announced level qualifies, a frame with the present content replaces the row's unsent one or joins
the class, and the deadline is set again; where it does not, the deadline becomes absent (R104, R105, R167). -/
def Obligations.AlertRepeats : Prop :=
  ∀ (s : State) (r : Row) (d : Millis), s.phase = .running → (s.wheel r).repeatAt = some d → d ≤ s.now →
    ((s.osc.state = .active ∧ ((s.wheel r).announcedLevel = .warning ∨ (s.wheel r).announcedLevel = .critical))
        ∨ (s.osc.state = .parkWatch ∧ (s.wheel r).announcedLevel = .critical) →
      ∃ alerts, exec (.alertRepeatExpiry r) s = .next { s with
          link := { s.link with alerts := alerts }
          wheels := s.wheels.set r { s.wheel r with repeatAt := some (s.now + s.setting .alertRepeatS * 1000) } }
        ∧ alertOf r (s.wheel r) ∈ alerts
        ∧ (∀ f ∈ alerts, f = alertOf r (s.wheel r) ∨ f ∈ s.link.alerts)
        ∧ (∀ f ∈ s.link.alerts, f.row ≠ r → f ∈ alerts)
        ∧ (r ∈ s.link.alerts.map AlertFrame.row → alerts.length = s.link.alerts.length)
        ∧ (r ∉ s.link.alerts.map AlertFrame.row → alerts = s.link.alerts ++ [alertOf r (s.wheel r)]))
    ∧ (repeatQualifies s.osc.state (s.wheel r).announcedLevel = false →
      exec (.alertRepeatExpiry r) s = .next { s with
        wheels := s.wheels.set r { s.wheel r with repeatAt := none } })

/-! ### Vehicle data -/

/-- VEHICLE_DATA_FRAME with the vehicle data identifier now in force (R163, R165). One of eight bytes outside DORMANT is taken whole: every
field as R134 takes it, the data PRESENT with a new timeout (R135, R136), a LOST ending with VEHICLE_DATA_BACK; each load settles, or
cancels its settle, as R138 and R139 give; a speed at which the vehicle moves ends a session with MOVED (R115); the coupling starts
recognition, or removes the trailer, with its rows unloaded and a session that concerns it lost (R19, R24, R116); a change of the timing
set moves a row's deadlines (R83); a change of applied load, and the lowering of a lift axle, re-evaluate the rows (R98 to R100), and a
raise clears its three conditions and the trend (R97). One of another length, and any in DORMANT, leaves VDM alone (R134, R165). The
first frame fixes the bit rate (R164). A frame with another identifier does what FramesReceivedAndSearch says (log entry 25). The
MODEL's reading: a re-evaluation sets to 0 the counters of the seven conditions also where R91 holds the condition (log entry 14,
DEDUCED). The law of sessions, which every step keeps (SessionsStayLawful), has an open session stand in ACTIVE. -/
def Obligations.VehicleDataFrameIsTaken : Prop :=
  (∀ (s : State) (data : List Byte), s.phase = .running → s.osc.state ≠ .dormant → data.length = 8 → SessionLegal s →
    let speed := if natAt data 0 = 255 then none else some (natAt data 0)
    let moved := ∃ v, speed = some v ∧ speed ≠ s.vdm.speed ∧ s.setting .movingSpeedKmh < v
    let removed := natAt data 3 = 0 ∧ s.vdm.connected = true ∧ s.trailer ≠ .none
    ∃ u, exec (.vehicleDataFrame (.withId s.tables.link.vehicleId data)) s = .next u
      ∧ u.vdm.status = .present ∧ u.vdm.frameDeadline = some (s.now + s.setting .vehicleDataTimeoutMs)
      ∧ u.vdm.speed = speed
      ∧ u.vdm.truck = loadAfterReport s s.vdm.truck (loadReportOf (natAt data 1))
      ∧ u.vdm.trailer = loadAfterReport s s.vdm.trailer (loadReportOf (natAt data 2))
      ∧ u.vdm.connected = (if natAt data 3 = 1 then true else if natAt data 3 = 0 then false else s.vdm.connected)
      ∧ u.vdm.liftMask = byteAt data 4
      ∧ u.vdm.ambient = (if natAt2 data 5 = 0 then s.vdm.ambient else max 120 (min 240 (natAt2 data 5)))
      ∧ (s.vdm.status = .lost → Raised { kind := .vehicleDataBack, time := s.now / 1000 } s u)
      ∧ (natAt data 3 = 1 → s.vdm.connected = false → s.trailer = .none →
          u.trailer = .recognising ∧ u.window = some (s.now + s.setting .recognitionWindowS * 1000)
          ∧ u.recog = Vector.replicate 4 .empty)
      ∧ (natAt data 3 = 1 → s.trailer ≠ .none → u.trailer = s.trailer ∧ u.window = s.window ∧ u.recog = s.recog)
      ∧ (natAt data 3 = 0 → s.vdm.connected = true → u.trailer = .none)
      ∧ (removed → u.window = none ∧ u.recog = Vector.replicate 4 .empty
          ∧ Raised { kind := .trailerRemoved, time := s.now / 1000 } s u)
      ∧ (∀ k, removed → s.trailer = .identified k →
          (∀ q : Row, 20 ≤ q.val → rowId u q = none ∧ Restarted u q)
          ∧ ∀ p, u.enc.proposal = some p → p.1.val < 20)
      ∧ (∀ i, moved → s.enc.session = some i →
          u.enc.session = none ∧ u.enc.pairs = [] ∧ u.enc.lastEnding = .moved
          ∧ Raised { kind := .enrolEnded, row := s.enc.walk[i]?, value := some 5, time := s.now / 1000 } s u)
      ∧ (∀ i, ¬ moved → removed → s.enc.session = some i →
          (s.enc.walk.any isTrailerRow = true ∨ s.enc.pairs.any (fun p => p.source.any isTrailerRow) = true →
            u.enc.session = none ∧ u.enc.pairs = [] ∧ u.enc.lastEnding = .trailerLost
            ∧ Raised { kind := .enrolEnded, row := s.enc.walk[i]?, value := some 6, time := s.now / 1000 } s u)
          ∧ (s.enc.walk.any isTrailerRow = false → s.enc.pairs.any (fun p => p.source.any isTrailerRow) = false →
            u.enc.session = some i ∧ u.enc.pairs = s.enc.pairs))
      ∧ (∀ q : Row, q.val < 20 → s.osc.state = .active → u.osc.state = .active →
          holdsMissing (s.wheel q).status = true → Retimed s u q)
      ∧ (∀ q : Row, q.val < 20 ∨ u.trailer = s.trailer →
          (u.wheel q).status = .live ∨ (u.wheel q).status = .stale → u.osc.state = .active ∨ u.osc.state = .parkWatch →
          (unitLoad u (unitOfRow q)).applied ≠ (unitLoad s (unitOfRow q)).applied
            ∨ (raisedRow s q = true ∧ raisedRow u q = false) → Reevaluated s u q)
      ∧ (∀ q : Row, raisedRow s q = false → raisedRow u q = true → u.osc.state ≠ .offline →
          (s.wheel q).status ≠ .vacant → RaisedUp u q
          ∧ ∀ c ∈ [Condition.lowWarn, .leak, .imbalance], hasCond (s.wheel q).active c = true →
            ∃ level value, Raised
              { kind := .conditionOff, row := some q, condition := some c, level := level, value := value
                time := s.now / 1000 } s u)
      ∧ u.link.state = (if s.link.state = .searching then .running else s.link.state)
      ∧ u.tables = s.tables ∧ u.candidates = s.candidates ∧ u.store = s.store ∧ u.mgu = s.mgu ∧ u.lines = s.lines)
  ∧ ∀ (s : State) (data : List Byte), s.phase = .running → data.length ≤ 8 → s.osc.state = .dormant ∨ data.length ≠ 8 →
    exec (.vehicleDataFrame (.withId s.tables.link.vehicleId data)) s = .next { s with link := heardBy s.link }

/-- FRAME_TIMEOUT_EXPIRY: the data are LOST, the speed is unknown, both loads are reported UNKNOWN and applied LADEN, the coupling, the
lift mask and the ambient pressure are held, and VEHICLE_DATA_LOST is raised (R135, R139); already LOST, only the deadline goes
(R142). -/
def Obligations.FrameTimeoutLosesTheData : Prop :=
  ∀ (s : State) (d : Millis), s.phase = .running → s.vdm.frameDeadline = some d → d ≤ s.now →
    (s.vdm.status ≠ .lost →
      ∃ u, exec .frameTimeoutExpiry s = .next u
        ∧ u.vdm = { s.vdm with
            status := .lost, frameDeadline := none, speed := none
            truck := { reported := .unknown, applied := .laden, settle := none }
            trailer := { reported := .unknown, applied := .laden, settle := none } }
        ∧ Raised { kind := .vehicleDataLost, time := s.now / 1000 } s u
        ∧ u.tables = s.tables ∧ u.trailer = s.trailer ∧ u.candidates = s.candidates
        ∧ u.enc.session = s.enc.session ∧ u.osc.state = s.osc.state)
    ∧ (s.vdm.status = .lost →
      exec .frameTimeoutExpiry s = .next { s with vdm := { s.vdm with frameDeadline := none } })

/-- SETTLE_EXPIRY: the pending load is applied to its unit alone (R140), and where that is a change, a LIVE or STALE wheel of the unit has
LOW_CRIT judged at once on the Pc it holds: entered below LowCrit, left at LowCrit + h or more, otherwise as it was (R92, R99,
R100). The announced set and the ALERT frame of each such wheel follow once, when all its conditions have been judged, the IMBALANCE
it shares with its partner among them (R100, R103). Wheels that are neither LIVE nor STALE, and those of the other unit, are as they
were, and so is every wheel outside ACTIVE and PARK_WATCH. -/
def Obligations.SettledLoadIsAppliedAndReevaluated : Prop :=
  ∀ (s : State) (v : UnitName) (load : LoadState) (d : Millis),
    s.phase = .running → (unitLoad s v).settle = some (load, d) → d ≤ s.now →
    ∃ u, exec (.settleExpiry v) s = .next u
      ∧ unitLoad u v = { unitLoad s v with applied := load, settle := none }
      ∧ (∀ w, w ≠ v → unitLoad u w = unitLoad s w)
      ∧ (∀ r, unitOfRow r ≠ v → u.wheel r = s.wheel r)
      ∧ (load = (unitLoad s v).applied → u.wheels = s.wheels)
      ∧ (∀ r, unitOfRow r = v → load ≠ (unitLoad s v).applied →
          (s.wheel r).status = .live ∨ (s.wheel r).status = .stale →
          s.osc.state = .active ∨ s.osc.state = .parkWatch → (s.wheel r).pc ≤ 4000 → (s.wheel r).pg ≤ 4000 →
          let limit := lowCritLimit ((groupOf s r).limits load)
          hasCond (u.wheel r).active .lowCrit =
            (decide ((s.wheel r).pc < limit)
              || (hasCond (s.wheel r).active .lowCrit && decide ((s.wheel r).pc < limit + (groupOf s r).temp.hyst))))
      ∧ (∀ r, unitOfRow r = v → load ≠ (unitLoad s v).applied →
          if reevaluated s r = true then AnnouncedOnce s u r else u.wheel r = s.wheel r)
      ∧ u.tables = s.tables ∧ u.enc = s.enc ∧ u.candidates = s.candidates ∧ u.osc.state = s.osc.state

/-! ### The take of a request -/

/-- No request is taken from an empty FIFO, nor while four answers are outstanding (R166). At the take the request leaves the FIFO, a
dormant part wakes into PARK_WATCH, and a part in PARK_WATCH starts its activity deadline anew when REQUEST is a class of activity
(R146, R147, R174). A frame of the wrong length, or with a code outside the table of 10.1, is answered BAD_FRAME whatever the
guard. -/
def Obligations.RequestsAreTakenInOrder : Prop :=
  (∀ (c : Instr) (s : State), c ∈ requestCommands → s.link.requests = [] ∨ 4 ≤ answersOutstanding s → exec c s = .next s)
  ∧ (∀ s : State,
      let taken : State := { s with link := { s.link with requests := s.link.requests.tail } }
      (s.osc.state ≠ .parkWatch → s.osc.state ≠ .dormant → takeOff s = taken)
      ∧ (s.osc.state = .parkWatch → (s.setting .activityMask).testBit 1 = false → takeOff s = taken)
      ∧ (s.osc.state = .parkWatch → (s.setting .activityMask).testBit 1 = true →
          takeOff s = { taken with
            osc := { s.osc with activity := some (s.now + s.setting .dormantDelayS * 1000) } })
      ∧ (s.osc.state = .dormant → Entered .parkWatch taken (takeOff s)))
  ∧ ∀ (s : State) (data : List Byte), Waiting s data → data.length ≠ 8 ∨ requestClass (natAt data 0) = none →
      exec .badFrame s = replied data .badFrame [] (takeOff s)

/-- An edit that the guard refuses is answered GUARDED and changes nothing (R174, R180); one of the map or the roster taken while a
session is open is answered WRONG_STATE and changes nothing, and so is TRAILER_SELECT while the session walks a trailer row (R9). That
ROSTER_WRITE_TAG takes a ROSTER_WRITE whose selector names no item is the MODEL's choice (log entry 16). -/
def Obligations.RefusedEditsChangeNothing : Prop :=
  (∀ (p : Nat × Instr) (s : State) (data : List Byte), p ∈ editCommands → Waiting s data → data.length = 8 →
      natAt data 0 = p.1 → guardAllows (takeOff s) (classOf data) = false →
      exec p.2 s = replied data .guarded [] (takeOff s))
  ∧ (∀ (s : State) (data : List Byte), Waiting s data → data.length = 8 → natAt data 0 = 0x15 →
      guardAllows (takeOff s) .wheel = false →
      exec (rosterCommand (rosterItem (natAt data 3))) s = replied data .guarded [] (takeOff s))
  ∧ ∀ (s : State) (data : List Byte), s.enc.session ≠ none →
    (WaitingFor 0x12 s data → natAt data 2 < 32 → isSensor (idAt data 3) = true →
      exec .writeRow s = replied data .wrongState [] (takeOff s))
    ∧ (WaitingFor 0x13 s data → natAt data 2 < 32 → exec .clearRow s = replied data .wrongState [] (takeOff s))
    ∧ (∀ item, WaitingFor 0x15 s data → natAt data 2 < 4 → rosterItem (natAt data 3) = some item →
      exec (rosterCommand (some item)) s = replied data .wrongState [] (takeOff s))
    ∧ (WaitingFor 0x17 s data → natAt data 2 < 4 → exec .rosterClear s = replied data .wrongState [] (takeOff s))
    ∧ (∀ r ∈ s.enc.walk, 20 ≤ r.val → WaitingFor 0x18 s data → natAt data 2 < 4 →
      exec .trailerSelect s = replied data .wrongState [] (takeOff s))

/-! ### Reads -/

/-- IDENTIFY, READ_PART_STATUS with its three parts, and READ_SETTING with every item: the answer, and nothing changed beyond the take
(R171, R176, R178, R185, R186). The MODEL's: the bytes FROZEN and SERVICE are 1 or 0 (log entry 40, DESIGN CHOICE), the characters of
the part code are ASCII (log entry 41, PRESUMED), and bit l of the jam mask is lane l's (log entry 35, DESIGN CHOICE). -/
def Obligations.StatusReads : Prop :=
  ∀ (s : State) (data : List Byte),
    let b := takeOff s
    let p : PartStatus :=
      { opState := b.osc.state, trailer := b.trailer
        dataLost := decide (b.vdm.status = .lost), storeInvalid := b.store.invalid, dirty := b.store.dirty
        saveInFlight := decide (b.store.state ≠ .idle), eventsWaiting := decide (b.evq.records ≠ [])
        eventOverflow := b.evq.overflow, requestOverrun := b.link.overrun, jamMask := jamMask b
        wheelsNone := wheelsAt b .none, wheelsAdvisory := wheelsAt b .advisory
        wheelsWarning := wheelsAt b .warning, wheelsCritical := wheelsAt b .critical }
    (WaitingFor 0x01 s data → exec .identify s = replied data .ok [0x54, 0x57, 0x33, 0x32, 1] b)
    ∧ (WaitingFor 0x02 s data →
        (natAt data 2 = 0 → exec .readPartStatus s = replied data .ok
          [BitVec.ofNat 8 (p.trailer.code * 16 + p.opState.code),
            (match p.trailer with
              | .identified k => BitVec.ofNat 8 k.val
              | _ => 255),
            BitVec.ofNat 8 (p.dataLost.toNat + 2 * p.storeInvalid.toNat + 4 * p.dirty.toNat + 8 * p.saveInFlight.toNat
              + 16 * p.eventsWaiting.toNat + 32 * p.eventOverflow.toNat + 64 * p.requestOverrun.toNat),
            BitVec.ofNat 8 p.jamMask.toNat] b)
        ∧ (natAt data 2 = 1 → exec .readPartStatus s = replied data .ok
          ([p.wheelsNone, p.wheelsAdvisory, p.wheelsWarning, p.wheelsCritical].map (BitVec.ofNat 8)) b)
        ∧ (natAt data 2 = 2 → exec .readPartStatus s = replied data .ok
          ([b.tables.guardLevel.code, b.mgu.frozen.toNat, b.lines.service.toNat, b.link.state.code,
            b.store.state.code].map (BitVec.ofNat 8)) b)
        ∧ (2 < natAt data 2 → exec .readPartStatus s = replied data .badValue [] b))
    ∧ (WaitingFor 0x08 s data →
        (∀ k : Setting, natAt data 2 = k.item.val →
          exec .readSetting s = replied data .ok (byteAt data 2 :: be32 b.tables.settings[k.item]) b)
        ∧ (20 < natAt data 2 → exec .readSetting s = replied data .badValue [] b))

/-- READ_AXLE, whole: the record the table holds, mirrored from the identified entry for the trailer axles and free without one
(R3); READ_ROW and ROSTER_READ (R12, R17). Nothing changes beyond the take. -/
def Obligations.MapReads : Prop :=
  ∀ (s : State) (data : List Byte),
    let b := takeOff s
    let axle (a : AxleRecord) : List Byte := [a.layout.code, a.group.val, a.liftable.toNat, a.nearLane.val].map (BitVec.ofNat 8)
    (WaitingFor 0x11 s data →
      (∀ a : Fin 5, natAt data 2 = a.val → exec .readAxle s = replied data .ok (axle b.tables.axles[a]) b)
      ∧ (∀ (a : Fin 3) (k : EntryNo), natAt data 2 = 5 + a.val → b.trailer = .identified k →
          exec .readAxle s = replied data .ok (axle b.tables.roster[k].axles[a]) b)
      ∧ (∀ a : Fin 3, natAt data 2 = 5 + a.val → (∀ k, b.trailer ≠ .identified k) →
          exec .readAxle s = replied data .ok [0, 0, 0, 0] b)
      ∧ (7 < natAt data 2 → exec .readAxle s = replied data .badValue [] b))
    ∧ (WaitingFor 0x14 s data →
      (∀ r : Row, natAt data 2 = r.val →
        exec .readRow s = replied data .ok
          (be32 ((rowId b r).getD 0).toNat ++ [BitVec.ofNat 8 (128 * (rowUsable b r).toNat + (b.wheel r).status.code)]) b)
      ∧ (31 < natAt data 2 → exec .readRow s = replied data .badValue [] b))
    ∧ (WaitingFor 0x16 s data →
      (∀ k : EntryNo, natAt data 2 = k.val →
        (natAt data 3 = 0 → exec .rosterRead s = replied data .ok (be16 b.tables.roster[k].tag.toNat) b)
        ∧ (∀ a : Fin 3, natAt data 3 = 1 + a.val →
            exec .rosterRead s = replied data .ok (axle b.tables.roster[k].axles[a]) b)
        ∧ (∀ t : SlotNo, natAt data 3 = 16 + t.val →
            exec .rosterRead s = replied data .ok (be32 (b.tables.roster[k].slots[t].getD 0).toNat) b))
      ∧ (3 < natAt data 2 ∨ (3 < natAt data 3 ∧ natAt data 3 < 16) ∨ 27 < natAt data 3 →
          exec .rosterRead s = replied data .badValue [] b))

/-- READ_LIMITS, READ_CANDIDATE, ENROL_STATUS and SNAPSHOT_READ: every selector, and what is refused (R58, R76, R90, R124, R173,
R186). Nothing changes beyond the take. That READ_CANDIDATE checks its selector before it looks for the record, BAD_VALUE before
NOT_FOUND, is the MODEL's reading (log entry 17, DEDUCED), and so is 0, not 65535, for the seconds until an absent step deadline (log
entry 42, DESIGN CHOICE). -/
def Obligations.OtherReads : Prop :=
  ∀ (s : State) (data : List Byte),
    let b := takeOff s
    let sel := natAt data 3
    (WaitingFor 0x22 s data →
      (∀ g : GroupNo, natAt data 2 = g.val →
        let x := b.tables.groups[g]
        (sel = 0 → exec .readLimits s = replied data .ok
          (be16 x.unladen.target ++ [x.unladen.lw, x.unladen.lc, x.unladen.hw].map (BitVec.ofNat 8)) b)
        ∧ (sel = 1 → exec .readLimits s = replied data .ok
          (be16 x.laden.target ++ [x.laden.lw, x.laden.lc, x.laden.hw].map (BitVec.ofNat 8)) b)
        ∧ (sel = 2 → exec .readLimits s = replied data .ok
          [BitVec.ofInt 8 ((x.temp.tempWarn : Int) + 50), BitVec.ofInt 8 ((x.temp.tempCrit : Int) + 50),
            BitVec.ofInt 8 (x.temp.tref + 50)] b)
        ∧ (sel = 3 → exec .readLimits s = replied data .ok
          ([x.temp.imbalance, x.temp.leakWarn, x.temp.hyst].map (BitVec.ofNat 8)) b)
        ∧ (sel = 4 → exec .readLimits s = replied data .ok
          (packLimits (lowWarnLimit x.unladen) (lowCritLimit x.unladen) (highWarnLimit x.unladen)) b)
        ∧ (sel = 5 → exec .readLimits s = replied data .ok
          (packLimits (lowWarnLimit x.laden) (lowCritLimit x.laden) (highWarnLimit x.laden)) b))
      ∧ (7 < natAt data 2 ∨ 5 < sel → exec .readLimits s = replied data .badValue [] b))
    ∧ (WaitingFor 0x30 s data →
      (15 < natAt data 2 ∨ 2 < sel → exec .readCandidate s = replied data .badValue [] b)
      ∧ (natAt data 2 ≤ 15 → sel ≤ 2 → b.candidates.length ≤ natAt data 2 →
          exec .readCandidate s = replied data .notFound [BitVec.ofNat 8 b.candidates.length] b)
      ∧ ∀ c, natAt data 2 ≤ 15 → b.candidates[natAt data 2]? = some c →
        (sel = 0 → exec .readCandidate s = replied data .ok (be32 c.id.toNat ++ [BitVec.ofNat 8 c.hits]) b)
        ∧ (sel = 1 → exec .readCandidate s = replied data .ok
          (be16 (min ((b.now - c.firstHeard) / 1000) 65535) ++ be16 (min ((b.now - c.lastHeard) / 1000) 65535)
            ++ [BitVec.ofNat 8 b.candidates.length]) b)
        ∧ (sel = 2 → exec .readCandidate s = replied data .ok
          ([c.laneMask.toNat, c.bestLane.val, c.bestRssi.toNat, c.movingHits, c.id.toNat].map (BitVec.ofNat 8)) b))
    ∧ (WaitingFor 0x2B s data →
      (natAt data 2 = 0 →
        (b.enc.session = none → exec .enrolStatus s = replied data .ok
          ([0, 0, 255, b.enc.pairs.length, b.enc.allowMove.toNat].map (BitVec.ofNat 8)) b)
        ∧ ∀ i r, b.enc.session = some i → b.enc.walk[i]? = some r → exec .enrolStatus s = replied data .ok
          ([1, i, r.val, b.enc.pairs.length, b.enc.allowMove.toNat].map (BitVec.ofNat 8)) b)
      ∧ (natAt data 2 = 1 → exec .enrolStatus s = replied data .ok
          ([b.enc.lastEnding.code, b.enc.applied, b.enc.leftVacant].map (BitVec.ofNat 8)
            ++ be16 (min ((b.enc.stepDeadline.getD b.now - b.now) / 1000) 65535)) b)
      ∧ (natAt data 2 = 2 →
        (b.enc.proposal = none → exec .enrolStatus s = replied data .ok [255, 0, 0, 0, 0] b)
        ∧ ∀ r id, b.enc.proposal = some (r, id) →
          exec .enrolStatus s = replied data .ok (BitVec.ofNat 8 r.val :: be32 id.toNat) b)
      ∧ (natAt data 2 = 3 → sel ≤ 31 →
        (b.enc.walk.length ≤ sel → exec .enrolStatus s = replied data .notFound [BitVec.ofNat 8 b.enc.walk.length] b)
        ∧ ∀ r, b.enc.walk[sel]? = some r →
          (r ∉ b.enc.pairs.map EnrolPair.row →
            exec .enrolStatus s = replied data .ok [BitVec.ofNat 8 r.val, 0, 0, 0, 0] b)
          ∧ ∀ p ∈ b.enc.pairs, p.row = r → (b.enc.pairs.map EnrolPair.row).Nodup →
            exec .enrolStatus s = replied data .ok (BitVec.ofNat 8 r.val :: be32 p.id.toNat) b)
      ∧ (3 < natAt data 2 ∨ (natAt data 2 = 3 ∧ 31 < sel) → exec .enrolStatus s = replied data .badValue [] b))
    ∧ (WaitingFor 0x39 s data →
      (∀ r : Row, natAt data 2 = r.val →
        let x := b.link.snapshots.held.rows[r]
        (sel = 0 → exec .snapshotRead s = replied data .ok
          (BitVec.ofNat 8 (x.status.code * 16 + x.level.code * 4 + x.announcedLevel.code) :: be24 (x.pc * 4096 + x.pg)) b)
        ∧ (sel = 1 → exec .snapshotRead s = replied data .ok
          ([tempCode x.temperature, x.flags.byte] ++ be16 x.active.toNat) b)
        ∧ (sel = 2 → exec .snapshotRead s = replied data .ok
          (be32 x.id.toNat ++ [BitVec.ofNat 8 (min x.sinceAccepted 255)]) b)
        ∧ (sel = 3 → exec .snapshotRead s = replied data .ok [x.rssi[0], x.rssi[1], x.rssi[2], x.rssi[3]] b)
        ∧ (sel = 4 → exec .snapshotRead s = replied data .ok
          (be16 x.leakRate ++ be16 x.raw ++ [BitVec.ofNat 8 ((x.lastMode.map Mode.code).getD 255)]) b))
      ∧ (31 < natAt data 2 ∨ 4 < sel → exec .snapshotRead s = replied data .badValue [] b))

/-! ### Settings, link settings, guard -/

/-- SET_SETTING: a structural value out of range, or an unknown item, is refused; any other value is brought into its range, and the
missing time of its set raised to the stale time where it would lie below it; the answer says whether either was needed, and the
dirty flag follows a change (R82, R157, R175, R178). What follows at once is the owners': ageing out (R55), the lanes (R28), with
moving_speed_kmh each row's timing set and the end of a session that the vehicle now moves in (R83, R115, R141), and with
proposal_delay_s the search, when a row becomes due (R125, R127); a write of any other item changes nothing more. The MODEL's: a write
that leaves every setting as it was brings about nothing (log entry 28, DEDUCED), a row due before the write does not become due
again (log entry 9, DESIGN CHOICE), bit l of lane_enable_mask is lane l's (log entry 35, DESIGN CHOICE), and an answer of BAD_VALUE
carries no data (log entry 46, DESIGN CHOICE). -/
def Obligations.SetSettingWrites : Prop :=
  ∀ (s : State) (data : List Byte), WaitingFor 0x07 s data →
    let b := takeOff s
    let v := natAt4 data 3
    (20 < natAt data 2 → exec .setSetting s = replied data .badValue [] b)
    ∧ ∀ k : Setting, natAt data 2 = k.item.val →
      let lo := settingRanges[k.item].1
      let hi := settingRanges[k.item].2.1
      let brought := max lo (min hi v)
      let written := b.tables.settings.set k.item brought
      let settings : Settings :=
        if k = .staleMovingS ∨ k = .missingMovingS then written.set 4 (max written[4] written[3])
        else if k = .staleParkedS ∨ k = .missingParkedS then written.set 6 (max written[6] written[5])
        else written
      let result := if v < lo ∨ hi < v ∨ settings ≠ written then ResultCode.clamped else .ok
      let bytes := byteAt data 2 :: be32 settings[k.item]
      let stored : State := { b with
        tables := { b.tables with settings := settings }, store := { b.store with dirty := true } }
      (18 ≤ k.item.val → v < lo ∨ hi < v → exec .setSetting s = replied data .badValue [] b)
      ∧ (k.item.val < 18 ∨ (lo ≤ v ∧ v ≤ hi) → settings = b.tables.settings →
          exec .setSetting s = replied data result bytes b)
      ∧ (k.item.val < 18 ∨ (k = .activityMask ∧ lo ≤ v ∧ v ≤ hi) → settings ≠ b.tables.settings →
          k ≠ .candidateAgeS → k ≠ .movingSpeedKmh → k ≠ .proposalDelayS →
          exec .setSetting s = replied data result bytes stored)
      ∧ (k = .laneEnableMask ∨ k = .parkLane → lo ≤ v → v ≤ hi → settings ≠ b.tables.settings →
          ∃ lanes, exec .setSetting s = replied data .ok bytes { stored with lanes := lanes }
            ∧ ∀ l : LaneNo, lanes[l].flags = (b.lane l).flags
              ∧ lanes[l].state = (if laneEnabled stored b.osc.state l = false then .disabled
                else if (b.lane l).state = .disabled then .freshHunt else (b.lane l).state))
      ∧ (k = .candidateAgeS ∨ k = .movingSpeedKmh ∨ k = .proposalDelayS → settings ≠ b.tables.settings →
          ∃ u, exec .setSetting s = replied data result bytes u ∧ u.tables = stored.tables ∧ u.store = stored.store
            ∧ u.link.requests = b.link.requests ∧ u.link.responses = b.link.responses ∧ u.lines = b.lines ∧ u.mgu = b.mgu
            ∧ (k = .candidateAgeS → u.wheels = b.wheels
                ∧ u.candidates = b.candidates.filter fun c => decide (b.now < c.lastHeard + brought * 1000))
            ∧ (k ≠ .candidateAgeS → u.candidates = b.candidates)
            ∧ (∀ i speed, k = .movingSpeedKmh → b.enc.session = some i → b.vdm.speed = some speed → brought < speed →
                u.enc.session = none ∧ u.enc.lastEnding = .moved ∧ u.enc.pairs = [])
            ∧ (∀ q, k = .movingSpeedKmh → b.osc.state = .active → u.osc.state = .active →
                holdsMissing (b.wheel q).status = true → Retimed b u q)
            ∧ (k = .proposalDelayS → u.wheels = b.wheels
                ∧ ((∀ q, DueRow stored q → DueRow b q) ∨ ¬ SearchAllowed b →
                    u = { stored with episodes := u.episodes }
                    ∧ ∀ q, (u.episode q).movingMs = (b.episode q).movingMs ∧ (u.episode q).ambiguous = (b.episode q).ambiguous
                      ∧ (u.episode q).rejected = (b.episode q).rejected)
                ∧ ∀ q, DueRow stored q → ¬ DueRow b q → SearchAllowed b → Searched stored u))

/-- SET_LINK, SET_GUARD and FREEZE, with their checks in order and what each changes (R163, R179, R181, R182, R117). That SET_LINK leaves
the transmit buffer as it was, so that a frame under attempt keeps its old identifier, is the MODEL's choice (log entry 33, DESIGN
CHOICE). -/
def Obligations.LinkGuardAndFreeze : Prop :=
  ∀ (s : State) (data : List Byte),
    let b := takeOff s
    (WaitingFor 0x09 s data →
      let base := natAt2 data 2
      let id := natAt2 data 4
      let good := base % 16 = 0 ∧ 0x100 ≤ base ∧ base ≤ 0x7E0 ∧ id ≤ 0x7FF
        ∧ id ∉ [base, base + 1, base + 2, base + 3, base + 8] ∧ natAt data 6 ≤ 3
      (¬ good → exec .setLink s = replied data .badValue [] b)
      ∧ (good → b.osc.state ≠ .offline → exec .setLink s = replied data .wrongState [] b)
      ∧ ∀ rate, good → bitRateOf (natAt data 6) = some rate → b.osc.state = .offline →
        let l : LinkSettings := { nodeBase := BitVec.ofNat 11 base, vehicleId := BitVec.ofNat 11 id, preferred := rate }
        (l = b.tables.link → exec .setLink s = replied data .ok [] b)
        ∧ (l ≠ b.tables.link → exec .setLink s = replied data .ok [] { b with
            tables := { b.tables with link := l }, store := { b.store with dirty := true } }))
    ∧ (WaitingFor 0x0A s data →
      (2 < natAt data 2 → exec .setGuard s = replied data .badValue [] b)
      ∧ (natAt data 2 = b.tables.guardLevel.code → exec .setGuard s = replied data .ok [] b)
      ∧ ∀ level : GuardLevel, natAt data 2 = level.code → level ≠ b.tables.guardLevel →
        ∃ st n, let u : State := { b with
              tables := { b.tables with guardLevel := level }, store := st, saves := n }
          exec .setGuard s = replied data .ok [] u
          ∧ (b.store.state = .idle → SaveBegun b.store u)
          ∧ (b.store.state ≠ .idle → n = b.saves ∧ st = { b.store with dirty := true, saveAgain := true }))
    ∧ (WaitingFor 0x0B s data →
      (b.mgu.frozen = true → exec .freeze s = replied data .ok [] b)
      ∧ (b.mgu.frozen = false → b.enc.session = none →
          exec .freeze s = replied data .ok [] { b with mgu := { b.mgu with frozen := true } })
      ∧ ∀ i, b.mgu.frozen = false → b.enc.session = some i →
          ∃ u, exec .freeze s = replied data .ok [] u ∧ u.mgu = { b.mgu with frozen := true } ∧ Ended .frozen i b u)

/-! ### Operating state and saves -/

/-- GO_OFFLINE by the table of R148; GO_ACTIVE restarts every wheel record and leaves OFFLINE by the IGNITION level, with every
proposal withdrawn (R150, R79, R86). That the rows of that table are read from the top, BUSY for a deferred GO_OFFLINE before
WRONG_STATE for an open session, is the MODEL's reading (log entry 17, DEDUCED), and that bit l of lane_enable_mask, by which the lanes
follow, and of the jam mask is lane l's is its choice (log entry 35, DESIGN CHOICE). -/
def Obligations.OfflineAndBack : Prop :=
  ∀ (s : State) (data : List Byte),
    let b := takeOff s
    (WaitingFor 0x03 s data →
      (b.osc.state = .starting → exec .goOffline s = replied data .wrongState [] b)
      ∧ (b.osc.state = .offline → exec .goOffline s = replied data .ok [] b)
      ∧ (b.osc.state = .active ∨ b.osc.state = .parkWatch →
        (b.osc.deferredOffline ≠ none → exec .goOffline s = replied data .busy [] b)
        ∧ (b.osc.deferredOffline = none → b.enc.session ≠ none → exec .goOffline s = replied data .wrongState [] b)
        ∧ (b.osc.deferredOffline = none → b.enc.session = none → b.store.state ≠ .idle →
            exec .goOffline s = .next { b with osc := { b.osc with deferredOffline := some (byteAt data 1) } })
        ∧ (b.osc.deferredOffline = none → b.enc.session = none → b.store.state = .idle →
            ∃ t, exec .goOffline s = replied data .ok [] t ∧ Entered .offline b t)))
    ∧ (WaitingFor 0x04 s data →
      (b.osc.state ≠ .offline → exec .goActive s = replied data .wrongState [] b)
      ∧ (b.osc.state = .offline →
          ∃ t, exec .goActive s = replied data .ok [] t
            ∧ t.osc.state = (if b.lines.ignition = true then .active else .parkWatch)
            ∧ (∀ r, Restarted t r)
            ∧ (∀ r, (t.wheel r).missingAt =
                if t.osc.state = .active ∧ (t.wheel r).status = .awaiting then some (b.now + missingMs t r) else none)
            ∧ Raised { kind := .stateChange, value := some (BitVec.ofNat 32 t.osc.state.code), time := b.now / 1000 } b t
            ∧ t.enc.proposal = none ∧ t.enc.walk = b.enc.walk ∧ t.tables = b.tables ∧ t.candidates = b.candidates
            ∧ t.trailer = b.trailer ∧ t.store = b.store ∧ t.vdm = b.vdm ∧ t.mgu = b.mgu ∧ t.lines = b.lines))

/-- SAVE, RESTART and the completion of a save (R158, R160, R161, R177, R148): what is answered, what is deferred, and what the
completion brings about: the image, the flags and SAVE_DONE, then the save of save-again, which keeps a deferred RESTART waiting, a
deferred GO_OFFLINE, and a deferred RESTART, which comes back with the content just saved and takes with it whatever else was deferred.
The MODEL's: SAVE and RESTART answer WRONG_STATE in STARTING also with a save in flight (log entry 17, DEDUCED), the counter `saves` of
saves started (log entry 3), the deferred GO_OFFLINE before the deferred RESTART (log entry 15), and bit l of lane_enable_mask, by which
the lanes follow into OFFLINE, and of the jam mask is lane l's (log entry 35, DESIGN CHOICE). -/
def Obligations.SavesAndRestarts : Prop :=
  (∀ (s : State) (data : List Byte),
    let b := takeOff s
    (WaitingFor 0x06 s data →
      (b.osc.state = .starting → exec .save s = replied data .wrongState [] b)
      ∧ (b.osc.state ≠ .starting → b.store.state ≠ .idle → exec .save s = replied data .busy [] b)
      ∧ (b.osc.state ≠ .starting → b.store.state = .idle →
          ∃ st, let u : State := { b with store := st, saves := b.saves + 1 }
            exec .save s = replied data .ok [] u ∧ SaveBegun b.store u))
    ∧ (WaitingFor 0x05 s data →
      (b.osc.state = .starting → exec .restart s = replied data .wrongState [] b)
      ∧ (b.osc.state ≠ .starting → b.store.state ≠ .idle → b.mgu.deferredRestart ≠ none →
          exec .restart s = replied data .busy [] b)
      ∧ (b.osc.state ≠ .starting → b.store.state ≠ .idle → b.mgu.deferredRestart = none →
          exec .restart s = .next { b with mgu := { b.mgu with deferredRestart := some (byteAt data 1) } })
      ∧ (b.osc.state ≠ .starting → b.store.state = .idle →
          ∃ t, exec .restart s = .next t ∧ t.phase = .running ∧ t.osc = .reset ∧ t.clock = b.clock ∧ t.lines = b.lines
            ∧ t.image = b.image ∧ t.mgu = { b.mgu with deferredRestart := none } ∧ t.enc = .reset ∧ t.candidates = []
            ∧ t.link.requests = [] ∧ t.link.responses = [] ∧ t.link.alerts = [] ∧ t.link.buffer = none
            ∧ (b.link.state ≠ .searching → t.link.state = .running ∧ t.link.rate = b.link.rate)
            ∧ (∀ c, b.image = imageOf c → t.tables = c)
            ∧ (b.image = .blank ∨ b.image = .cutShort → t.tables = .factory))))
  ∧ ∀ (s : State) (c : Tables), s.phase = .running → s.store.state = .writing → s.store.remaining = 0 →
    s.store.captured = some c →
    let done : State := raiseEvent .saveDone none none { s with
      image := imageOf c
      store := { s.store with state := .idle, captured := none, resumeAt := none, saveAgain := false, invalid := false } }
    (s.store.saveAgain = false → s.osc.deferredOffline = none → s.mgu.deferredRestart = none →
      exec .saveComplete s = .next done)
    ∧ (s.store.saveAgain = true → s.osc.deferredOffline = none →
        ∃ st, let u : State := { done with store := st, saves := s.saves + 1 }
          exec .saveComplete s = .next u ∧ SaveBegun done.store u)
    ∧ (∀ tag, s.store.saveAgain = false → s.osc.deferredOffline = some tag → s.mgu.deferredRestart = none →
        let free : State := { done with osc := { s.osc with deferredOffline := none } }
        (s.enc.session ≠ none → exec .saveComplete s = .next (respond 0x03 tag .wrongState [] free))
        ∧ (s.enc.session = none → ∃ t, exec .saveComplete s = .next (respond 0x03 tag .ok [] t) ∧ Entered .offline free t))
    ∧ (∀ tag, s.store.saveAgain = true → s.osc.deferredOffline = some tag →
        ∃ st, let free : State := { done with
              store := st, saves := s.saves + 1, osc := { s.osc with deferredOffline := none } }
          SaveBegun done.store free
          ∧ (s.enc.session ≠ none → exec .saveComplete s = .next (respond 0x03 tag .wrongState [] free))
          ∧ (s.enc.session = none →
              ∃ t, exec .saveComplete s = .next (respond 0x03 tag .ok [] t) ∧ Entered .offline free t))
    ∧ (s.store.saveAgain = false → s.mgu.deferredRestart ≠ none →
        ∃ t, exec .saveComplete s = .next t ∧ t.osc = .reset ∧ t.phase = .running ∧ t.tables = c ∧ t.image = imageOf c
          ∧ t.store = .reset ∧ t.clock = s.clock ∧ t.lines = s.lines ∧ t.mgu = { s.mgu with deferredRestart := none }
          ∧ t.link.responses = [] ∧ t.evq.records = [])

/-! ### Axles and rows -/

/-- SET_AXLE: its checks in order, then the write: rows of the axle that the new layout makes unusable lose their IDs, which are counted
and enter no list; a row whose usability changed restarts; no other row or ID changes, and no save starts (R4, R5, R6, R79). -/
def Obligations.SetAxleWrites : Prop :=
  ∀ (s : State) (data : List Byte), WaitingFor 0x10 s data →
    let b := takeOff s
    (4 < natAt data 2 ∨ AxleFieldsBad data 3 → exec .setAxle s = replied data .badValue [] b)
    ∧ ∀ (a : Fin 5) (new : AxleRecord), natAt data 2 = a.val → AxleFields data 3 new →
      let old := b.tables.axles[a]
      let lost (r : Row) : Bool :=
        r.val / 4 = a.val && placeUsable old.layout (r.val % 4) && !placeUsable new.layout (r.val % 4)
      (b.osc.state ≠ .offline → exec .setAxle s = replied data .wrongState [] b)
      ∧ (b.osc.state = .offline → new = old → exec .setAxle s = replied data .ok [0] b)
      ∧ (b.osc.state = .offline → new ≠ old →
        ∃ u, exec .setAxle s = replied data .ok
            [BitVec.ofNat 8 ((List.finRange 32).filter fun r => lost r && (rowId b r).isSome).length] u
          ∧ u.tables = { b.tables with axles := b.tables.axles.set a new, rows := u.tables.rows }
          ∧ (∀ r, rowId u r = if lost r then none else rowId b r)
          ∧ (∀ r : Row, r.val / 4 = a.val →
              placeUsable old.layout (r.val % 4) ≠ placeUsable new.layout (r.val % 4) → Restarted u r)
          ∧ (∀ r : Row, r.val / 4 ≠ a.val ∨ placeUsable old.layout (r.val % 4) = placeUsable new.layout (r.val % 4) →
              (u.wheel r).status = (b.wheel r).status ∧ (u.wheel r).pc = (b.wheel r).pc ∧ (u.wheel r).ring = (b.wheel r).ring)
          ∧ (∀ r : Row, r.val / 4 ≠ a.val → u.wheel r = b.wheel r)
          ∧ u.store = { b.store with dirty := true } ∧ u.candidates = b.candidates ∧ u.trailer = b.trailer ∧ u.osc = b.osc
          ∧ u.vdm = b.vdm ∧ u.image = b.image ∧ u.lanes = b.lanes)

/-- WRITE_ROW and CLEAR_ROW with no session open: the checks in order; an unchanged row keeps its record; a change writes the ID, takes
it from the candidates, restarts the row as AWAITING or VACANT, sets the dirty flag, withdraws a proposal on the row, and leaves
every other ID as it was (R8, R10, R11, R56, R129). -/
def Obligations.RowWrites : Prop :=
  ∀ (s : State) (data : List Byte), s.enc.session = none →
    let b := takeOff s
    let id := idAt data 3
    (WaitingFor 0x12 s data →
      (31 < natAt data 2 ∨ id = 0 ∨ 0xFFFFFF00 ≤ id.toNat → exec .writeRow s = replied data .badValue [] b)
      ∧ ∀ r : Row, natAt data 2 = r.val → id ≠ 0 → id.toNat < 0xFFFFFF00 →
        (20 ≤ r.val → (∀ k, b.trailer ≠ .identified k) → exec .writeRow s = replied data .wrongState [] b)
        ∧ (r.val < 20 ∨ (∃ k, b.trailer = .identified k) →
          (rowUsable b r = false → exec .writeRow s = replied data .badValue [] b)
          ∧ (rowUsable b r = true → HeldElsewhere b r id → exec .writeRow s = replied data .inUse [] b)
          ∧ (rowUsable b r = true → ¬ HeldElsewhere b r id → rowId b r = some id →
              exec .writeRow s = replied data .ok [] b)
          ∧ (rowUsable b r = true → ¬ HeldElsewhere b r id → rowId b r ≠ some id →
              ∃ u, exec .writeRow s = replied data .ok [] u
                ∧ (∀ q, rowId u q = if q = r then some id else rowId b q)
                ∧ u.tables = { b.tables with rows := u.tables.rows, roster := u.tables.roster }
                ∧ u.candidates = b.candidates.filter (fun c => decide (c.id ≠ id))
                ∧ Restarted u r ∧ (∀ q, q ≠ r → q ≠ partner r → u.wheel q = b.wheel q)
                ∧ (∀ c, b.enc.proposal = some (r, c) → Raised
                    { kind := .proposalWithdrawn, row := some r, value := some c, time := b.now / 1000 } b u)
                ∧ u.store = { b.store with dirty := true } ∧ u.osc = b.osc ∧ u.trailer = b.trailer ∧ u.vdm = b.vdm)))
    ∧ (WaitingFor 0x13 s data →
      (31 < natAt data 2 → exec .clearRow s = replied data .badValue [] b)
      ∧ ∀ r : Row, natAt data 2 = r.val →
        (20 ≤ r.val → (∀ k, b.trailer ≠ .identified k) → exec .clearRow s = replied data .wrongState [] b)
        ∧ (r.val < 20 ∨ (∃ k, b.trailer = .identified k) →
          (rowId b r = none → exec .clearRow s = replied data .ok [0, 0, 0, 0] b)
          ∧ ∀ held, rowId b r = some held →
              ∃ u, exec .clearRow s = replied data .ok (be32 held.toNat) u
                ∧ (∀ q, rowId u q = if q = r then none else rowId b q)
                ∧ u.tables = { b.tables with rows := u.tables.rows, roster := u.tables.roster }
                ∧ u.candidates = b.candidates
                ∧ Restarted u r ∧ (∀ q, q ≠ r → q ≠ partner r → u.wheel q = b.wheel q)
                ∧ (∀ c, b.enc.proposal = some (r, c) → Raised
                    { kind := .proposalWithdrawn, row := some r, value := some c, time := b.now / 1000 } b u)
                ∧ u.store = { b.store with dirty := true } ∧ u.osc = b.osc ∧ u.trailer = b.trailer ∧ u.vdm = b.vdm))

/-! ### The roster and the trailer -/

/-- ROSTER_WRITE with no session open, for each kind of item, its checks in order (R14, R15, R16): a tag alone; an axle record, with the
slots it makes unusable emptied and counted; a slot, with the candidate of its new ID removed, and, in the identified entry, the row
that mirrors it restarted. In RECOGNISING the entry's recognition data are worked out anew, and may succeed at once (R20). The
MODEL's: ROSTER_WRITE_TAG takes a selector that names no item (log entry 16), and a bad AXLE field is refused before a free entry, and
the refusals of a SLOT come in the order of the text (log entry 17, DEDUCED). -/
def Obligations.RosterWrites : Prop :=
  ∀ (s : State) (data : List Byte), WaitingFor 0x15 s data → s.enc.session = none →
    let b := takeOff s
    let entry (k : EntryNo) (e : RosterEntry) : Tables := { b.tables with roster := b.tables.roster.set k e }
    let dirty : Store := { b.store with dirty := true }
    (3 < natAt data 2 ∨ rosterItem (natAt data 3) = none →
      exec (rosterCommand (rosterItem (natAt data 3))) s = replied data .badValue [] b)
    ∧ ∀ k : EntryNo, natAt data 2 = k.val →
      let e := b.tables.roster[k]
      (natAt data 3 = 0 →
        let tag := BitVec.ofNat 16 (natAt2 data 4)
        (tag = 0 → exec .rosterWriteTag s = replied data .badValue [] b)
        ∧ (tag ≠ 0 → (∃ j : EntryNo, j ≠ k ∧ b.tables.roster[j].tag = tag) →
            exec .rosterWriteTag s = replied data .inUse [] b)
        ∧ (tag ≠ 0 → (∀ j : EntryNo, j ≠ k → b.tables.roster[j].tag ≠ tag) →
          (e.tag = tag → exec .rosterWriteTag s = replied data .ok [] b)
          ∧ (e.tag ≠ tag → exec .rosterWriteTag s =
              replied data .ok [] { b with tables := entry k { e with tag := tag }, store := dirty })))
      ∧ (∀ a : Fin 3, natAt data 3 = 1 + a.val →
        (AxleFieldsBad data 4 → exec .rosterWriteAxle s = replied data .badValue [] b)
        ∧ ∀ new : AxleRecord, AxleFields data 4 new →
          let lost (t : SlotNo) : Bool :=
            t.val / 4 = a.val && placeUsable e.axles[a].layout (t.val % 4) && !placeUsable new.layout (t.val % 4)
          (e.tag = 0 → exec .rosterWriteAxle s = replied data .wrongState [] b)
          ∧ (e.tag ≠ 0 → e.axles[a] = new → exec .rosterWriteAxle s = replied data .ok [0] b)
          ∧ (e.tag ≠ 0 → e.axles[a] ≠ new →
            ∃ u, exec .rosterWriteAxle s = replied data .ok
                [BitVec.ofNat 8 ((List.finRange 12).filter fun t => lost t && e.slots[t].isSome).length] u
              ∧ u.tables = entry k { e with
                  axles := e.axles.set a new
                  slots := Vector.ofFn fun t => if lost t then none else e.slots[t] }
              ∧ u.store = dirty ∧ u.candidates = b.candidates ∧ u.vdm = b.vdm
              ∧ (b.trailer ≠ .identified k → b.trailer ≠ .recognising →
                  u = { b with tables := u.tables, store := dirty })
              ∧ (b.trailer = .recognising → Rechecked k e u.tables.roster[k] b u)
              ∧ (b.trailer = .identified k → u.trailer = .identified k
                  ∧ ∀ t : SlotNo, lost t = true → Restarted u (slotRow t))))
      ∧ (∀ t : SlotNo, natAt data 3 = 16 + t.val →
        let id := idAt data 4
        let new : Option SensorId := if id = 0 then none else some id
        let elsewhere := (∃ q : Row, q.val < 20 ∧ rowId b q = some id)
          ∨ ∃ (j : EntryNo) (x : SlotNo), (j, x) ≠ (k, t) ∧ b.tables.roster[j].slots[x] = some id
        let usable := placeUsable e.axles[slotAxle t].layout (t.val % 4)
        (0xFFFFFF00 ≤ id.toNat → exec .rosterWriteSlot s = replied data .badValue [] b)
        ∧ (id.toNat < 0xFFFFFF00 →
          (e.tag = 0 → exec .rosterWriteSlot s = replied data .wrongState [] b)
          ∧ (e.tag ≠ 0 → id ≠ 0 → usable = false → exec .rosterWriteSlot s = replied data .badValue [] b)
          ∧ (e.tag ≠ 0 → id ≠ 0 → usable = true → elsewhere → exec .rosterWriteSlot s = replied data .inUse [] b)
          ∧ (e.tag ≠ 0 → id = 0 ∨ (usable = true ∧ ¬ elsewhere) → e.slots[t] = new →
              exec .rosterWriteSlot s = replied data .ok [] b)
          ∧ (e.tag ≠ 0 → id = 0 ∨ (usable = true ∧ ¬ elsewhere) → e.slots[t] ≠ new →
            ∃ u, exec .rosterWriteSlot s = replied data .ok [] u
              ∧ u.tables = entry k { e with slots := e.slots.set t new } ∧ u.store = dirty
              ∧ (id = 0 → u.candidates = b.candidates)
              ∧ (id ≠ 0 → u.candidates = b.candidates.filter fun c => decide (c.id ≠ id))
              ∧ (b.trailer = .identified k → rowId u (slotRow t) = new ∧ Restarted u (slotRow t))
              ∧ (b.trailer = .recognising → Rechecked k e u.tables.roster[k] b u)
              ∧ (b.trailer ≠ .identified k → b.trailer ≠ .recognising → u.wheels = b.wheels))))

/-- ROSTER_CLEAR with no session open, and TRAILER_SELECT: the checks in order; a cleared entry is free, and if it was identified the
trailer is unloaded and UNKNOWN (R18, R24); a selected entry is identified, its rows restarted as its slots stand, and no table
changes (R21, R23). While a session is open that walks no trailer row, TRAILER_SELECT is served in the same way (R9, R23): the session
goes on, but where an identified entry is unloaded and a pair has a trailer row as its source it ends TRAILER_LOST (R116). -/
def Obligations.RosterClearAndSelect : Prop :=
  ∀ (s : State) (data : List Byte),
    let b := takeOff s
    (WaitingFor 0x17 s data → s.enc.session = none →
      (3 < natAt data 2 → exec .rosterClear s = replied data .badValue [] b)
      ∧ ∀ k : EntryNo, natAt data 2 = k.val →
        let cleared : Tables := { b.tables with roster := b.tables.roster.set k .free }
        let dirty : Store := { b.store with dirty := true }
        (b.tables.roster[k].tag = 0 → exec .rosterClear s = replied data .ok [] b)
        ∧ (b.tables.roster[k].tag ≠ 0 → b.trailer = .identified k →
            ∃ u, exec .rosterClear s = replied data .ok [] u ∧ u.tables = cleared ∧ u.store = dirty
              ∧ u.trailer = .unknown ∧ u.candidates = b.candidates
              ∧ (∀ r : Row, 20 ≤ r.val → rowId u r = none ∧ Restarted u r)
              ∧ (∀ r : Row, r.val < 20 → u.wheel r = b.wheel r)
              ∧ Raised { kind := .trailerUnknown, time := b.now / 1000 } b u)
        ∧ (b.tables.roster[k].tag ≠ 0 → b.trailer = .recognising → exec .rosterClear s =
            replied data .ok [] { b with tables := cleared, store := dirty, recog := b.recog.set k .empty })
        ∧ (b.tables.roster[k].tag ≠ 0 → b.trailer ≠ .identified k → b.trailer ≠ .recognising →
            exec .rosterClear s = replied data .ok [] { b with tables := cleared, store := dirty }))
    ∧ (WaitingFor 0x18 s data →
      (3 < natAt data 2 → exec .trailerSelect s = replied data .badValue [] b)
      ∧ ∀ k : EntryNo, natAt data 2 = k.val →
        (b.trailer = .none → exec .trailerSelect s = replied data .wrongState [] b)
        ∧ (b.trailer ≠ .none → s.enc.session = none →
          (b.tables.roster[k].tag = 0 → exec .trailerSelect s = replied data .notFound [] b)
          ∧ (b.tables.roster[k].tag ≠ 0 → b.trailer = .identified k → exec .trailerSelect s = replied data .ok [] b)
          ∧ (b.tables.roster[k].tag ≠ 0 → b.trailer ≠ .identified k →
              ∃ u, exec .trailerSelect s = replied data .ok [] u
                ∧ u.trailer = .identified k ∧ u.window = none ∧ u.recog = Vector.replicate 4 .empty
                ∧ (∀ i : SlotNo, rowId u (slotRow i) = b.tables.roster[k].slots[i])
                ∧ (∀ r : Row, 20 ≤ r.val → Restarted u r) ∧ (∀ r : Row, r.val < 20 → u.wheel r = b.wheel r)
                ∧ u.tables = b.tables ∧ u.store = b.store ∧ u.candidates = b.candidates ∧ u.vdm = b.vdm
                ∧ Raised { kind := .trailerIdentified, value := some (BitVec.ofNat 32 k.val), time := b.now / 1000 } b u))
        ∧ ∀ i, b.trailer ≠ .none → s.enc.session = some i → (∀ r ∈ s.enc.walk, r.val < 20) → SessionLegal s →
          (b.tables.roster[k].tag = 0 → exec .trailerSelect s = replied data .notFound [] b)
          ∧ (b.tables.roster[k].tag ≠ 0 → b.trailer = .identified k → exec .trailerSelect s = replied data .ok [] b)
          ∧ (b.tables.roster[k].tag ≠ 0 → b.trailer ≠ .identified k →
              let lost := (∃ j, b.trailer = .identified j) ∧ ∃ p ∈ b.enc.pairs, ∃ q, p.source = some q ∧ 20 ≤ q.val
              ∃ u, exec .trailerSelect s = replied data .ok [] u
                ∧ u.trailer = .identified k ∧ u.window = none ∧ u.recog = Vector.replicate 4 .empty
                ∧ (∀ i : SlotNo, rowId u (slotRow i) = b.tables.roster[k].slots[i])
                ∧ (∀ r : Row, 20 ≤ r.val → Restarted u r)
                ∧ u.tables = b.tables ∧ u.store = b.store ∧ u.candidates = b.candidates ∧ u.vdm = b.vdm
                ∧ Raised { kind := .trailerIdentified, value := some (BitVec.ofNat 32 k.val), time := b.now / 1000 } b u
                ∧ (¬ lost → u.enc = b.enc ∧ u.osc = b.osc ∧ ∀ r : Row, r.val < 20 → u.wheel r = b.wheel r)
                ∧ (lost → u.enc.session = none ∧ u.enc.pairs = [] ∧ u.enc.copies = [] ∧ u.enc.stepDeadline = none
                    ∧ u.enc.walk = b.enc.walk ∧ u.enc.lastEnding = .trailerLost ∧ u.enc.applied = 0 ∧ u.enc.leftVacant = 0
                    ∧ Raised { kind := .enrolEnded, row := b.enc.walk[i]?, value := some 6, time := b.now / 1000 } b u
                    ∧ (b.osc.parkPending = true ∧ b.lines.ignition = false → u.osc.state = .parkWatch)
                    ∧ (¬ (b.osc.parkPending = true ∧ b.lines.ignition = false) → u.osc.state = b.osc.state
                        ∧ ∀ r : Row, r.val < 20 → u.wheel r = b.wheel r))))

/-! ### Limits and announcements -/

/-- SET_LIMITS_P and SET_LIMITS_T, each adjustment and its answer, with LOW_CRIT judged anew at once on the wheels in scope (R88, R89,
R99, R100; code 255 as a temperature is the model's choice, log entry 18); SET_ANNOUNCE works every announced set out anew (R102,
R103). Wheels out of scope are as they were. -/
def Obligations.LimitsAndAnnounceWrites : Prop :=
  ∀ (s : State) (data : List Byte),
    let b := takeOff s
    let dirty : Store := { b.store with dirty := true }
    let judgedAnew (u : State) (r : Row) : Prop :=
      (b.wheel r).status = .live ∨ (b.wheel r).status = .stale →
      b.osc.state = .active ∨ b.osc.state = .parkWatch → (b.wheel r).pc ≤ 4000 → (b.wheel r).pg ≤ 4000 →
      let limit := lowCritLimit (limitsOf u r)
      hasCond (u.wheel r).active .lowCrit =
        (decide ((b.wheel r).pc < limit)
          || (hasCond (b.wheel r).active .lowCrit && decide ((b.wheel r).pc < limit + (groupOf u r).temp.hyst)))
    (WaitingFor 0x20 s data →
      (127 < natAt data 2 ∨ 1 < natAt data 2 % 16 → exec .setLimitsP s = replied data .badValue [] b)
      ∧ ∀ (g : GroupNo) (load : LoadState), natAt data 2 = 16 * g.val + load.code →
        let p : PressureLimits :=
          { target := min 4000 (natAt2 data 3), lw := natAt data 5, lc := max (natAt data 5) (natAt data 6)
            hw := natAt data 7 }
        let result := if 4000 < natAt2 data 3 ∨ natAt data 6 < natAt data 5 then ResultCode.clamped else .ok
        let old := b.tables.groups[g]
        let new : ThresholdGroup :=
          match load with
          | .unladen => { old with unladen := p }
          | .laden => { old with laden := p }
        (p = old.limits load → exec .setLimitsP s = replied data result [] b)
        ∧ (p ≠ old.limits load →
            ∃ u, exec .setLimitsP s = replied data result [] u
              ∧ u.tables = { b.tables with groups := b.tables.groups.set g new } ∧ u.store = dirty
              ∧ (∀ r, (axleOf b (rowAxle r)).group ≠ g ∨ (unitLoad b (unitOfRow r)).applied ≠ load →
                  u.wheel r = b.wheel r)
              ∧ (∀ r, (axleOf b (rowAxle r)).group = g → (unitLoad b (unitOfRow r)).applied = load → judgedAnew u r)
              ∧ (b.osc.state = .offline → u.wheels = b.wheels)
              ∧ u.candidates = b.candidates ∧ u.osc.state = b.osc.state ∧ u.vdm = b.vdm ∧ u.enc = b.enc))
    ∧ (WaitingFor 0x21 s data →
      ∀ g : GroupNo, natAt data 2 / 32 = g.val →
        let warn := min 204 (natAt data 3 - 50)
        let x : TempLimits :=
          { tempWarn := warn, tempCrit := max warn (min 204 (natAt data 4 - 50)), imbalance := natAt data 5
            leakWarn := natAt data 6, hyst := natAt data 2 % 32
            tref := max (-20) (min 60 ((natAt data 7 : Int) - 50)) }
        let result := if natAt data 3 < 50 ∨ natAt data 3 = 255 ∨ natAt data 4 < 50 ∨ natAt data 4 = 255
            ∨ natAt data 4 - 50 < warn ∨ natAt data 7 < 30 ∨ 110 < natAt data 7 then ResultCode.clamped else .ok
        let old := b.tables.groups[g]
        (x = old.temp → exec .setLimitsT s = replied data result [] b)
        ∧ (x ≠ old.temp →
            ∃ u, exec .setLimitsT s = replied data result [] u
              ∧ u.tables = { b.tables with groups := b.tables.groups.set g { old with temp := x } } ∧ u.store = dirty
              ∧ (∀ r, (axleOf b (rowAxle r)).group ≠ g → u.wheel r = b.wheel r)
              ∧ (∀ r, (axleOf b (rowAxle r)).group = g → judgedAnew u r ∧ (u.wheel r).pc = (b.wheel r).pc)
              ∧ (b.osc.state = .offline → u.wheels = b.wheels)
              ∧ u.candidates = b.candidates ∧ u.osc.state = b.osc.state ∧ u.vdm = b.vdm ∧ u.enc = b.enc))
    ∧ (WaitingFor 0x23 s data →
      (natAt data 2 = 0 ∨ 3 < natAt data 2 ∨ 2048 ≤ natAt2 data 3 → exec .setAnnounce s = replied data .badValue [] b)
      ∧ ∀ v : Severity, v ≠ .none → natAt data 2 = v.code → natAt2 data 3 < 2048 →
        let a : Announce := { minimum := v, exclude := BitVec.ofNat 16 (natAt2 data 3) }
        (a = b.tables.announce → exec .setAnnounce s = replied data .ok [] b)
        ∧ (a ≠ b.tables.announce →
            ∃ u, exec .setAnnounce s = replied data .ok [] u
              ∧ u.tables = { b.tables with announce := a } ∧ u.store = dirty
              ∧ (∀ r, (u.wheel r).announced = announcedOf a (b.wheel r).active
                ∧ (u.wheel r).active = (b.wheel r).active ∧ (u.wheel r).status = (b.wheel r).status
                ∧ (u.wheel r).pc = (b.wheel r).pc ∧ (u.wheel r).counters = (b.wheel r).counters
                ∧ (b.osc.state = .active → (u.wheel r).announced ≠ (b.wheel r).announced →
                    r ∈ u.link.alerts.map AlertFrame.row))
              ∧ u.evq = b.evq ∧ u.candidates = b.candidates ∧ u.osc = b.osc ∧ u.vdm = b.vdm ∧ u.enc = b.enc))

/-! ### Sessions and proposals on request -/

/-- ENROL_ORDER, ENROL_START and ENROL_CANCEL: the checks in order with the bytes their refusals carry, the walk order written, the
session opened at its first step with an open proposal withdrawn, and the session cancelled (R108, R109, R110, R118, R119). -/
def Obligations.EnrolmentRequests : Prop :=
  ∀ (s : State) (data : List Byte),
    let b := takeOff s
    (WaitingFor 0x28 s data →
      ∀ (rows : List Row) (tail : List Nat), (data.drop 3).map BitVec.toNat = rows.map Fin.val ++ tail →
        let start := natAt data 2
        let good := start ≤ 31 ∧ start ≤ b.enc.walk.length ∧ start + rows.length ≤ 32
        (∀ v, tail.head? = some v → 31 < v → v ≠ 255 → exec .enrolOrder s = replied data .badValue [] b)
        ∧ (tail = [] ∨ tail.head? = some 255 →
          (¬ good → exec .enrolOrder s = replied data .badValue [] b)
          ∧ (good → b.enc.session ≠ none → exec .enrolOrder s = replied data .wrongState [] b)
          ∧ (good → b.enc.session = none → exec .enrolOrder s =
              replied data .ok [BitVec.ofNat 8 (start + rows.length)]
                { b with enc := { b.enc with walk := b.enc.walk.take start ++ rows } })))
    ∧ (WaitingFor 0x29 s data →
      (1 < natAt data 2 → exec .enrolStart s = replied data .badValue [255] b)
      ∧ (natAt data 2 ≤ 1 → b.osc.state ≠ .active ∨ b.enc.session ≠ none ∨ b.vdm.speed = none ∨ moving b = true →
          exec .enrolStart s = replied data .wrongState [] b)
      ∧ ∀ speed, natAt data 2 ≤ 1 → b.osc.state = .active → b.enc.session = none → b.vdm.speed = some speed →
        speed ≤ b.setting .movingSpeedKmh →
        let offending (i : Nat) (r : Row) : Prop := r ∈ b.enc.walk.take i
          ∨ (20 ≤ r.val ∧ ∀ k, b.trailer ≠ .identified k) ∨ rowUsable b r = false
        (b.enc.walk = [] → exec .enrolStart s = replied data .badValue [255] b)
        ∧ (∀ i r, b.enc.walk[i]? = some r → offending i r → (∀ j q, j < i → b.enc.walk[j]? = some q → ¬ offending j q) →
            exec .enrolStart s = replied data .badValue [BitVec.ofNat 8 i] b)
        ∧ (b.enc.walk ≠ [] → (∀ i r, b.enc.walk[i]? = some r → ¬ offending i r) →
          let opened : Enrolment := { b.enc with
            session := some 0, allowMove := decide (natAt data 2 = 1), pairs := [], copies := [], proposal := none
            stepDeadline := some (b.now + b.setting .stepTimeoutS * 1000) }
          (b.enc.proposal = none → exec .enrolStart s =
            replied data .ok [BitVec.ofNat 8 b.enc.walk.length] { b with enc := opened })
          ∧ ∀ r id, b.enc.proposal = some (r, id) → exec .enrolStart s =
              replied data .ok [BitVec.ofNat 8 b.enc.walk.length]
                (raiseEvent .proposalWithdrawn (some r) (some id.toNat) { b with enc := opened })))
    ∧ (WaitingFor 0x2A s data →
      (b.enc.session = none → exec .enrolCancel s = replied data .wrongState [] b)
      ∧ ∀ i, b.enc.session = some i → ∃ u, exec .enrolCancel s = replied data .ok [] u ∧ Ended .cancelled i b u)

/-- PROPOSAL_ACCEPT and PROPOSAL_REJECT: a proposal that does not match is NOT_FOUND; acceptance places the candidate in the row, which
restarts and ends its missing episode, and begins a save; rejection puts the candidate on the row's list, newest last, of at most
eight (R125, R128, R130, R131). The MODEL's: PROPOSAL_REJECT answers NOT_FOUND also to an ID that is zero or in the tool block, which
R175 could make BAD_VALUE (log entry 34, DESIGN CHOICE). -/
def Obligations.ProposalRequests : Prop :=
  ∀ (s : State) (data : List Byte),
    let b := takeOff s
    let id := idAt data 3
    (WaitingFor 0x2C s data →
      (31 < natAt data 2 ∨ id = 0 ∨ 0xFFFFFF00 ≤ id.toNat → exec .proposalAccept s = replied data .badValue [] b)
      ∧ ∀ r : Row, natAt data 2 = r.val → id ≠ 0 → id.toNat < 0xFFFFFF00 →
        (b.enc.proposal ≠ some (r, id) → exec .proposalAccept s = replied data .notFound [] b)
        ∧ (b.enc.proposal = some (r, id) → r.val < 20 ∨ (∃ k, b.trailer = .identified k) →
            ∃ u, exec .proposalAccept s = replied data .ok [] u
              ∧ (∀ q, rowId u q = if q = r then some id else rowId b q)
              ∧ u.candidates = b.candidates.filter (fun c => decide (c.id ≠ id))
              ∧ Restarted u r ∧ (u.episode r).movingMs = 0 ∧ (u.episode r).rejected = []
              ∧ (∀ q, q ≠ r → q ≠ partner r → u.wheel q = b.wheel q)
              ∧ (∀ p, u.enc.proposal = some p → p.1 ≠ r)
              ∧ (b.store.state = .idle → SaveBegun b.store u)
              ∧ (b.store.state ≠ .idle → u.store = { b.store with dirty := true, saveAgain := true })
              ∧ Raised { kind := .proposalAccepted, row := some r, value := some id, time := b.now / 1000 } b u
              ∧ u.osc = b.osc ∧ u.trailer = b.trailer ∧ u.vdm = b.vdm))
    ∧ (WaitingFor 0x2D s data →
      (31 < natAt data 2 → exec .proposalReject s = replied data .badValue [] b)
      ∧ ∀ r : Row, natAt data 2 = r.val →
        (b.enc.proposal ≠ some (r, id) → exec .proposalReject s = replied data .notFound [] b)
        ∧ (b.enc.proposal = some (r, id) →
            let held := (b.episode r).rejected
            ∃ u, exec .proposalReject s = replied data .ok [] u
              ∧ (held.length < 8 → (u.episode r).rejected = held ++ [id])
              ∧ (held.length = 8 → (u.episode r).rejected = held.tail ++ [id])
              ∧ u.enc.proposal ≠ some (r, id)
              ∧ Raised { kind := .proposalRejected, row := some r, value := some id, time := b.now / 1000 } b u
              ∧ u.candidates = b.candidates ∧ u.wheels = b.wheels ∧ u.tables = b.tables ∧ u.store = b.store
              ∧ u.osc = b.osc ∧ u.link = b.link))

/-! ### Lane flags, events, the snapshot -/

/-- CLEAR_LANE_STATUS gives the flags as they stood and clears those of the lanes named (R41); EVENT_TAKE gives the oldest record, in
order, and reads the one taken (R154); SNAPSHOT_OPEN exchanges READY and HELD when a publish is new (R173). The MODEL's: the row,
condition and level bytes of an empty EVENT_TAKE are 255 (log entry 27, DEDUCED), and bit l of a lane mask names lane l (log
entry 35). -/
def Obligations.LaneEventAndSnapshotRequests : Prop :=
  ∀ (s : State) (data : List Byte),
    let b := takeOff s
    (WaitingFor 0x31 s data →
      (15 < natAt data 2 → exec .clearLaneStatus s = replied data .badValue [] b)
      ∧ (natAt data 2 ≤ 15 → exec .clearLaneStatus s = replied data .ok
          ((List.finRange 4).map fun l : LaneNo =>
            BitVec.ofNat 8 ((b.lane l).flags.crcFail.toNat + 2 * (b.lane l).flags.runViolation.toNat
              + 4 * (b.lane l).flags.malformed.toNat + 8 * (b.lane l).flags.jam.toNat + 16 * (b.lane l).state.code))
          { b with lanes := Vector.ofFn fun l : LaneNo =>
              if (natAt data 2).testBit l.val then { state := (b.lane l).state, flags := .clear } else b.lane l }))
    ∧ (WaitingFor 0x32 s data →
      (∀ e rest, natAt data 2 = 0 → b.evq.records = e :: rest → rest.length < 64 →
        let overflow := b.evq.overflow && decide (rest ≠ [])
        exec .eventTake s = replied data .ok
          ([e.kind.code, (e.row.map Fin.val).getD 255,
            (e.condition.map fun c => c.code.val).getD 15 * 16 + (e.level.map Severity.code).getD 15,
            128 * overflow.toNat + rest.length].map (BitVec.ofNat 8))
          { b with evq := { records := rest, overflow := overflow, taken := some e } })
      ∧ (natAt data 2 = 0 → b.evq.records = [] → b.evq.overflow = false →
          exec .eventTake s = replied data .ok [255, 255, 255, 0] { b with evq := { b.evq with taken := none } })
      ∧ (natAt data 2 = 1 ∨ natAt data 2 = 2 → b.evq.taken = none → exec .eventTake s = replied data .notFound [] b)
      ∧ (∀ e, natAt data 2 = 1 → b.evq.taken = some e →
          exec .eventTake s = replied data .ok
            (BitVec.ofNat 8 e.value.isSome.toNat :: be32 (e.value.getD 0).toNat) b)
      ∧ (∀ e, natAt data 2 = 2 → b.evq.taken = some e → exec .eventTake s = replied data .ok (be32 e.time) b)
      ∧ (2 < natAt data 2 → exec .eventTake s = replied data .badValue [] b))
    ∧ (WaitingFor 0x38 s data →
      let p := b.link.snapshots
      (p.readyNew = true → exec .snapshotOpen s = replied data .ok (be16 p.ready.sequence ++ be24 p.ready.time)
        { b with link := { b.link with snapshots := { p with ready := p.held, held := p.ready, readyNew := false } } })
      ∧ (p.readyNew = false → exec .snapshotOpen s = replied data .ok (be16 p.held.sequence ++ be24 p.held.time) b))

/-! ### The link -/

/-- REQUEST_FRAME with the REQUEST identifier now in force, node base + 8, joins the FIFO, or is discarded with the overrun flag set when
four wait (R163, R165, R166). A frame with an 11-bit identifier of neither use, a remote frame and one with a 29-bit identifier do no
more than fix the rate, and so does OTHER_FRAME_RECEIVED. While the link searches, SEARCH_DEADLINE_EXPIRY goes to the next candidate
rate, round and round (R164). That the two commands with a frame take any frame, by its identifier, is the MODEL's (log entry 25). A
VEHICLE_DATA_FRAME of eight bytes with the vehicle data identifier is taken in every state but DORMANT (R134 to R136); what it brings
about is said by VehicleDataFrameIsTaken. -/
def Obligations.FramesReceivedAndSearch : Prop :=
  ∀ s : State, s.phase = .running →
    (∀ data : List Byte, data.length ≤ 8 → s.tables.link.vehicleId ≠ s.tables.link.nodeBase + 8 →
      (s.link.requests.length < 4 → exec (.requestFrame (.withId (s.tables.link.nodeBase + 8) data)) s =
        .next { s with link := { heardBy s.link with requests := s.link.requests ++ [data] } })
      ∧ (4 ≤ s.link.requests.length → exec (.requestFrame (.withId (s.tables.link.nodeBase + 8) data)) s =
        .next { s with link := { heardBy s.link with overrun := true } }))
    ∧ (∀ f : BusFrame, f.data.length ≤ 8 →
        (f.remote = true ∨ ∀ n, f.id = .standard n → n ≠ s.tables.link.vehicleId ∧ n ≠ s.tables.link.nodeBase + 8) →
        exec (.requestFrame f) s = .next { s with link := heardBy s.link })
    ∧ (∀ f : BusFrame, exec (.vehicleDataFrame f) s = exec (.requestFrame f) s)
    ∧ (∀ data : List Byte, data.length = 8 → s.osc.state ≠ .dormant →
        ∃ u, exec (.vehicleDataFrame (.withId s.tables.link.vehicleId data)) s = .next u
          ∧ u.vdm.status = .present ∧ u.vdm.frameDeadline = some (s.now + s.setting .vehicleDataTimeoutMs)
          ∧ u.vdm.speed = (if natAt data 0 = 255 then none else some (natAt data 0)) ∧ u.vdm.liftMask = byteAt data 4)
    ∧ exec .otherFrameReceived s = .next { s with link := heardBy s.link }
    ∧ ∀ d, s.link.state = .searching → s.link.searchDeadline = some d → d ≤ s.now →
      exec .searchDeadlineExpiry s = .next { s with link := { s.link with
        searchIndex := (s.link.searchIndex + 1) % s.link.searchRates.length, searchDeadline := some (s.now + 2000) } }

/-- TRANSMIT_START takes the oldest frame of the first class, in the order ALERT, RESPONSE, STATUS, PART_STATUS, that holds one and is
sent in the present state, only while RUNNING with the buffer free (R163, R167, R169), with the eight bytes of its class (R183, R185,
R186). TRANSMIT_DONE, by how the attempt ended: sent, lost, failed, and the 32nd failure, which pauses the link until
QUIET_DEADLINE_EXPIRY (R166, R168). The MODEL's: whether an unsent frame returns is judged by the operating state at the attempt's end,
so a STATUS frame may outlive an exit from ACTIVE and a new entry (log entry 38, DESIGN CHOICE). -/
def Obligations.TransmissionStartsAndEnds : Prop :=
  (∀ s : State, s.phase = .running →
    let o := s.osc.state
    let noAlert := s.link.alerts = [] ∨ (o ≠ .active ∧ o ≠ .parkWatch)
    let noResponse := s.link.responses = [] ∨ o = .starting
    let noStatus := s.link.statuses = [] ∨ o ≠ .active
    let noPartStatus := s.link.partStatus = none ∨ (o ≠ .active ∧ o ≠ .offline)
    let base := s.tables.link.nodeBase
    (s.link.state = .running → s.link.buffer = none →
      (∀ f rest, s.link.alerts = f :: rest → o = .active ∨ o = .parkWatch →
        exec .transmitStart s = .next { s with link := { s.link with
          alerts := rest, buffer := some { frame := .alert f, identifier := base, data := (TxFrame.alert f).data } } })
      ∧ (∀ f rest, noAlert → s.link.responses = f :: rest → o ≠ .starting →
        exec .transmitStart s = .next { s with link := { s.link with
          responses := rest
          buffer := some { frame := .response f, identifier := base + 1, data := (TxFrame.response f).data } } })
      ∧ (∀ f rest, noAlert → noResponse → s.link.statuses = f :: rest → o = .active →
        exec .transmitStart s = .next { s with link := { s.link with
          statuses := rest
          buffer := some { frame := .status f, identifier := base + 2, data := (TxFrame.status f).data } } })
      ∧ (∀ f, noAlert → noResponse → noStatus → s.link.partStatus = some f → o = .active ∨ o = .offline →
        exec .transmitStart s = .next { s with link := { s.link with
          partStatus := none
          buffer := some { frame := .partStatus f, identifier := base + 3, data := (TxFrame.partStatus f).data } } })
      ∧ (noAlert → noResponse → noStatus → noPartStatus → exec .transmitStart s = .next s))
    ∧ (s.link.state ≠ .running ∨ s.link.buffer ≠ none → exec .transmitStart s = .next s))
  ∧ (∀ (s : State) (x : Attempt), s.phase = .running → s.link.buffer = some x →
    exec (.transmitDone .sent) s = .next { s with link := { s.link with
      buffer := none, failures := 0
      overrun := match x.frame with
        | .partStatus p => s.link.overrun && !p.requestOverrun
        | _ => s.link.overrun } }
    ∧ ∃ l, Returned s.osc.state x.frame s.link l
      ∧ exec (.transmitDone .arbitrationLost) s = .next { s with link := l }
      ∧ (s.link.failures + 1 < 32 →
          exec (.transmitDone .failed) s = .next { s with link := { l with failures := s.link.failures + 1 } })
      ∧ (32 ≤ s.link.failures + 1 →
          exec (.transmitDone .failed) s = .next (raiseEvent .linkFault none none { s with link := { l with
            failures := s.link.failures + 1, state := .busQuiet, quietDeadline := some (s.now + 1000) } })))
  ∧ (∀ (s : State) (d : Millis), s.phase = .running → s.link.state = .busQuiet → s.link.quietDeadline = some d → d ≤ s.now →
    exec .quietDeadlineExpiry s = .next { s with link := { s.link with
      state := .running, failures := 0, quietDeadline := none } })
  ∧ (∀ f : AlertFrame, f.pc < 4096 → f.pg < 4096 → (TxFrame.alert f).data =
      [f.row.val, f.status.code * 16 + (highest f.announced).code, f.announced.toNat / 256, f.announced.toNat % 256,
        f.pc / 16, f.pc % 16 * 16 + f.pg / 256, f.pg % 256, temperatureByte f.temperature].map (BitVec.ofNat 8))
  ∧ (∀ f : StatusFrame, f.pc < 4096 → f.pg < 4096 → (TxFrame.status f).data =
      [f.row.val, f.status.code * 16 + f.level.code, f.pc / 16, f.pc % 16 * 16 + f.pg / 256, f.pg % 256,
        temperatureByte f.temperature,
        f.flags.belowAmbient.toNat + 2 * f.flags.overrange.toNat + 4 * f.flags.tempUnavailable.toNat
          + 8 * f.flags.sensorFaultSeen.toNat, 0].map (BitVec.ofNat 8))
  ∧ (∀ f : ResponseFrame, f.data.length = 5 →
      (TxFrame.response f).data = f.code :: f.tag :: BitVec.ofNat 8 f.result.code :: f.data)
  ∧ (∀ (code tag : Byte) (result : ResultCode) (bytes : List Byte) (s : State), bytes.length ≤ 5 →
      respond code tag result bytes s = { s with link := { s.link with
        responses := s.link.responses ++
          [{ code := code, tag := tag, result := result, data := bytes ++ List.replicate (5 - bytes.length) 0 }] } })
  ∧ ∀ p : PartStatus, (TxFrame.partStatus p).data =
      [p.trailer.code * 16 + p.opState.code, (p.trailer.entry?.map Fin.val).getD 255,
        p.dataLost.toNat + 2 * p.storeInvalid.toNat + 4 * p.dirty.toNat + 8 * p.saveInFlight.toNat
          + 16 * p.eventsWaiting.toNat + 32 * p.eventOverflow.toNat + 64 * p.requestOverrun.toNat,
        p.jamMask.toNat, p.wheelsNone, p.wheelsAdvisory, p.wheelsWarning, p.wheelsCritical].map (BitVec.ofNat 8)

/-- REPORT_EXPIRY publishes the snapshot, with FILL taking the picture and becoming READY and HELD untouched, queues in ACTIVE one STATUS
frame a row that is not VACANT, and sets its deadline again (R170, R172); PART_STATUS_EXPIRY queues a PART_STATUS frame with the
present content and does the same (R171). The MODEL's: the seconds since last accepted are the whole seconds of the milliseconds
passed (log entry 39, DESIGN CHOICE), and bit l of the jam mask is lane l's (log entry 35, DESIGN CHOICE). -/
def Obligations.ReportsAreQueued : Prop :=
  ∀ (s : State) (d : Millis), s.phase = .running → d ≤ s.now →
    (s.link.reportDeadline = some d →
      let n := if s.link.snapshots.count = 65535 then 1 else s.link.snapshots.count + 1
      let picture : SnapBuffer :=
        { rows := Vector.ofFn fun r : Row =>
            let w := s.wheel r
            { id := (rowId s r).getD 0, status := w.status, level := w.alarmLevel, announcedLevel := w.announcedLevel
              active := w.active, pc := w.pc, pg := w.pg, temperature := w.temperature, flags := w.flags, rssi := w.rssi
              raw := w.raw, lastMode := w.lastMode, leakRate := w.leakRate.getD 65535
              sinceAccepted :=
                match w.lastAccepted with
                | some t => min ((s.now - t) / 1000) 65535
                | none => 65535 }
          sequence := n, time := s.now / 1000 }
      ∃ statuses, exec .reportExpiry s = .next { s with link := { s.link with
          statuses := statuses
          snapshots :=
            { fill := s.link.snapshots.ready, ready := picture, held := s.link.snapshots.held, readyNew := true, count := n }
          reportDeadline := some (s.now + s.setting .reportPeriodS * 1000) } }
        ∧ (s.osc.state ≠ .active → statuses = s.link.statuses)
        ∧ (s.osc.state = .active →
            (∀ r, (s.wheel r).status ≠ .vacant → statusOf r (s.wheel r) ∈ statuses)
            ∧ (∀ f ∈ statuses, f ∈ s.link.statuses ∨ ((s.wheel f.row).status ≠ .vacant ∧ f = statusOf f.row (s.wheel f.row)))
            ∧ (s.link.statuses = [] → statuses =
                ((List.finRange 32).filter fun r => decide ((s.wheel r).status ≠ .vacant)).map
                  fun r => statusOf r (s.wheel r))))
    ∧ (s.link.partStatusDeadline = some d →
      exec .partStatusExpiry s = .next { s with link := { s.link with
        partStatus := some (partStatusOf s)
        partStatusDeadline := some (s.now + s.setting .partStatusPeriodS * 1000) } })

/-! ### Arithmetic, counters, the full queue -/

/-- The cold absolute pressure is the exact quotient rounded to the nearest, halves up (R64); a gauge pressure outside 0..4000 is
brought to its nearer end (R66); the derived limits are ordered, for every legal record (R75, R76); and the trend ring keeps at
most eight samples of rising time, spanning at most 3,600 s (R69, R70). -/
def Obligations.PressureArithmetic : Prop :=
  (∀ pabs kr km : Nat, 0 < km →
    2 * km * pcold pabs kr km ≤ 2 * (pabs * kr) + km ∧ 2 * (pabs * kr) + km < 2 * km * (pcold pabs kr km + 1))
  ∧ (∀ p : Int, ((clampGauge p : Nat) : Int) = max 0 (min 4000 p))
  ∧ (∀ p : PressureLimits, LimitsLegal p →
      lowCritLimit p ≤ lowWarnLimit p ∧ lowWarnLimit p ≤ p.target ∧ p.target ≤ highWarnLimit p ∧ highWarnLimit p ≤ 4000
      ∧ lowWarnLimit p = p.target - p.target * p.lw / 256 ∧ lowCritLimit p = p.target - p.target * p.lc / 256
      ∧ highWarnLimit p = min 4000 (p.target + p.target * p.hw / 256))
  ∧ ∀ (ring : List Sample) (x : Sample), RingLegal ring → RingLegal (ringAdd ring x).ring

/-- A condition with no first-measurement entry takes exactly persist_n qualifying measurements in a row to enter, and every condition
exactly persist_n clearing ones in a row to leave; a measurement that breaks the row returns the counter to 0; one that enters at
once does so on the first (R93, R94). And so TELEGRAM_RECORD judges a measurement: each condition that R91 has judged moves by its
tests of R92, every other is held, on a fault all but SENSOR_FAULT, BATTERY_LOW and MISSING (R67); LEAK leaves at once on a refill, and
with leak_warn 0 on a measurement that is not a fault (R71, R91); IMBALANCE moves by the counter of the
outer row and stays shared by the pair (R95); and MISSING leaves (R80). The events come in the order MISSING, the refill, then code order,
with the level after each change (R96); then both announced sets follow, and a row whose set changed has an ALERT frame with its present
content (R103, R104; which of two joins first is log entry 31, DESIGN CHOICE). The MODEL's too: leak_warn 0 makes LEAK inactive also
where the leak rate is none, for which R91 holds LEAK in another row of its table (log entry 14, DEDUCED), and the events of a proposal that the
measurement withdraws, and of the search that follows, come after all of these (log entry 21, DESIGN CHOICE). -/
def Obligations.ConditionsPersist : Prop :=
  (∀ (persist : Nat) (v : Verdict), 1 ≤ persist →
    (∀ j, v.qualifies = true → j ≤ persist →
      (fun p : Bool × Nat => moveCounter persist false p.1 p.2 v)^[j] (false, 0) =
        if j < persist then (false, j) else (true, 0))
    ∧ (∀ j (atOnce : Bool), v.clears = true → j ≤ persist →
      (fun p : Bool × Nat => moveCounter persist atOnce p.1 p.2 v)^[j] (true, 0) =
        if j < persist then (true, j) else (false, 0))
    ∧ (∀ count, v.qualifies = true → moveCounter persist true false count v = (true, 0))
    ∧ (∀ atOnce count, v.qualifies = false → moveCounter persist atOnce false count v = (false, 0))
    ∧ (∀ atOnce count, v.clears = false → moveCounter persist atOnce true count v = (true, 0)))
  ∧ ∀ (s : State) (before after : List TelegramRecord) (t : TelegramRecord) (r : Row), Measures s before t after r →
    ∃ u, exec (.telegramRecord t.lane) s = .next u ∧
      let q := partner r
      let o := if r.val % 4 = 0 ∨ r.val % 4 = 3 then r else q
      let w := s.wheel r
      let w' := u.wheel r
      let leakWarn := (groupOf s r).temp.leakWarn
      let judged (c : Condition) : Bool := isJudged s r t w'.leakRate c
      let move (c : Condition) (held : Bool × Nat) : Bool × Nat :=
        moveCounter (s.setting .persistN) (entersFirst t c) held.1 held.2
          (testsOf (limitsOf s r) (groupOf s r).temp t w' (s.wheel q).pc c)
      let refilled := refills s r t w'.pc
      let leakHeld := if refilled = true then (false, 0) else condOf w .leak
      (∀ c, c ≠ .leak → c ≠ .imbalance → c ≠ .missing → condOf w' c = if judged c = true then move c (condOf w c) else condOf w c)
      ∧ (leakWarn ≠ 0 ∨ FaultKind t → condOf w' .leak = if judged .leak = true then move .leak leakHeld else leakHeld)
      ∧ (leakWarn = 0 → ¬ FaultKind t → hasCond w'.active .leak = false)
      ∧ (condOf (u.wheel o) .imbalance =
          if judged .imbalance = true then move .imbalance (condOf (s.wheel o) .imbalance) else condOf (s.wheel o) .imbalance)
      ∧ (ImbalanceLegal s r → ImbalanceLegal u r)
      ∧ hasCond w'.active .missing = (hasCond w.active .missing && decide (w.status ≠ .missing))
      ∧ (∀ c, c ≠ .imbalance → condOf (u.wheel q) c = condOf (s.wheel q) c)
      ∧ (let time := s.now / 1000
        let first := if w.status = .missing then dropCond w.active .missing else w.active
        let second := if refilled = true then dropCond first .leak else first
        let shared := hasCond (u.wheel o).active .imbalance
        let own (c : Condition) : Event := conditionEvent r c (hasCond w'.active c) (activeUpTo c second w'.active) w'.pc time
        let other := conditionEvent q .imbalance shared (u.wheel q).active (s.wheel q).pc time
        let missed := if w.status = .missing ∧ hasCond w.active .missing = true then
            [conditionEvent r .missing false first w'.pc time] else []
        let refill : List Event := if refilled = true then
            { kind := .refill, row := some r, value := some (BitVec.ofNat 32 w'.pc), time := time }
              :: (if hasCond w.active .leak = true then [conditionEvent r .leak false second w'.pc time] else [])
          else []
        let changed (c : Condition) : List Event :=
          if c = .imbalance then
            if shared = hasCond (s.wheel o).active c then [] else if o = r then [own c, other] else [other, own c]
          else if hasCond w'.active c = hasCond second c then [] else [own c]
        ∃ later, u.evq = (missed ++ refill ++ Condition.all.flatMap changed ++ later).foldl (fun x e => pushEvent e x) s.evq
          ∧ (s.enc.proposal = none → later = []))
      ∧ (let alerting (x : Row) : Prop := (u.wheel x).announced ≠ (s.wheel x).announced
          ∧ (s.osc.state = .active ∨ (s.wheel x).announcedLevel = .critical ∨ (u.wheel x).announcedLevel = .critical)
        (∀ x, x = r ∨ x = q → AnnouncedLegal u x ∧ (alerting x → alertOf x (u.wheel x) ∈ u.link.alerts))
        ∧ (¬ alerting r → ¬ alerting q → u.link.alerts = s.link.alerts))

/-- A record entering the event queue: it joins the newest end while there is room; in a full queue a critical entry takes the place of
the oldest record that is none, and every other record is discarded; either way the overflow flag is set (R152, R153). -/
def Obligations.EventsEnterTheQueue : Prop :=
  ∀ (e : Event) (q : EventQueue),
    (q.records.length < 64 → pushEvent e q = { q with records := q.records ++ [e] })
    ∧ (q.records.length = 64 →
      (e.critical = false → pushEvent e q = { q with overflow := true })
      ∧ (e.critical = true → (∀ x ∈ q.records, x.critical = true) → pushEvent e q = { q with overflow := true })
      ∧ ∀ front old back, q.records = front ++ old :: back → (∀ x ∈ front, x.critical = true) → old.critical = false →
        e.critical = true → pushEvent e q = { q with records := front ++ back ++ [e], overflow := true })

/-! ### What every step keeps -/

/-- Every invariant of Safety.lean holds right after reset. -/
def Obligations.ResetIsSafe : Prop := Safe State.reset

/-- Every step keeps, each by itself, the bounds of the event queue, of the request FIFO and the transmit classes, and of the candidate
list (R52, R152, R153, R166, R167, R169); and the law of saves, by which what a save captured lasts exactly as long as the save, and
neither a crank nor a reset ever meets one being written (R158 to R162). -/
def Obligations.QueuesAndSavesStayLawful : Prop :=
  ∀ s t : State, step s = .next t →
    (EventsLegal s → EventsLegal t) ∧ (LinkLegal s → LinkLegal t) ∧ (CandidatesLegal s → CandidatesLegal t)
    ∧ (StoreLegal s → StoreLegal t)

/-- Every step keeps the law of enrolment sessions: an open one stands at a row of its walk in ACTIVE with a deadline and no proposal
beside it, and a closed one holds nothing (R107, R109, R129, R145, R148). -/
def Obligations.SessionsStayLawful : Prop := ∀ s t : State, SessionLegal s → step s = .next t → SessionLegal t

/-- Every step keeps the laws of the wheel records: rising trend rings, announced sets that follow the active ones, IMBALANCE shared by
a pair, and VACANT exactly without an ID (R7, R70, R79, R95, R103). -/
def Obligations.WheelsStayLawful : Prop := ∀ s t : State, WheelsLegal s → step s = .next t → WheelsLegal t

/-- Every step keeps what the operating state decides: the lanes that listen and the deadlines that may stand (R26, R82, R86, R142,
R145, R146, R170, R171). The MODEL's: bit l of lane_enable_mask is lane l's (log entry 35, DESIGN CHOICE). -/
def Obligations.OperatingStateRules : Prop := ∀ s t : State, ModeLegal s → step s = .next t → ModeLegal t

/-- From a state that meets every invariant, a step leaves the tables, the content captured and the image within the ranges of their
chapters (R2, R6, R13, R75, R87, R102, R163, R178). -/
def Obligations.TablesStayInRange : Prop := ∀ s t : State, Safe s → step s = .next t → AllTables TablesLegal t

/-- From a state that meets every invariant, a step keeps the law of identities: no sensor ID in two places, zero and the tool block in
none; and an open proposal's row stays MISSING with its candidate listed (R8, R57, R129). -/
def Obligations.IdentitiesStayUnique : Prop := ∀ s t : State, Safe s → step s = .next t → IdentityLegal t ∧ ProposalLegal t

end
end

