-- ==== Sys2Proof/Laws/State.lean ====
section
/-! SUPPORT. One lemma per field per update of the state, and per reader of one field, all true by rfl. -/

namespace Sys2Proof.Machine

/-! ### A field after an update -/

section

variable (s : State) (v : BitVec 40)

@[simp] theorem State.setClock_clock : (s.setClock v).clock = v := rfl
@[simp] theorem State.setClock_phase : (s.setClock v).phase = s.phase := rfl
@[simp] theorem State.setClock_lines : (s.setClock v).lines = s.lines := rfl
@[simp] theorem State.setClock_image : (s.setClock v).image = s.image := rfl
@[simp] theorem State.setClock_tables : (s.setClock v).tables = s.tables := rfl
@[simp] theorem State.setClock_lanes : (s.setClock v).lanes = s.lanes := rfl
@[simp] theorem State.setClock_handed : (s.setClock v).handed = s.handed := rfl
@[simp] theorem State.setClock_trailer : (s.setClock v).trailer = s.trailer := rfl
@[simp] theorem State.setClock_window : (s.setClock v).window = s.window := rfl
@[simp] theorem State.setClock_recog : (s.setClock v).recog = s.recog := rfl
@[simp] theorem State.setClock_candidates : (s.setClock v).candidates = s.candidates := rfl
@[simp] theorem State.setClock_wheels : (s.setClock v).wheels = s.wheels := rfl
@[simp] theorem State.setClock_enc : (s.setClock v).enc = s.enc := rfl
@[simp] theorem State.setClock_episodes : (s.setClock v).episodes = s.episodes := rfl
@[simp] theorem State.setClock_vdm : (s.setClock v).vdm = s.vdm := rfl
@[simp] theorem State.setClock_osc : (s.setClock v).osc = s.osc := rfl
@[simp] theorem State.setClock_evq : (s.setClock v).evq = s.evq := rfl
@[simp] theorem State.setClock_store : (s.setClock v).store = s.store := rfl
@[simp] theorem State.setClock_link : (s.setClock v).link = s.link := rfl
@[simp] theorem State.setClock_mgu : (s.setClock v).mgu = s.mgu := rfl
@[simp] theorem State.setClock_saves : (s.setClock v).saves = s.saves := rfl
@[simp] theorem State.setClock_pending : (s.setClock v).pending = s.pending := rfl
@[simp] theorem State.setClock_setting (k : Setting) : (s.setClock v).setting k = s.setting k := rfl
@[simp] theorem State.setClock_wheel (r : Row) : (s.setClock v).wheel r = s.wheel r := rfl
@[simp] theorem State.setClock_episode (r : Row) : (s.setClock v).episode r = s.episode r := rfl
@[simp] theorem State.setClock_lane (l : LaneNo) : (s.setClock v).lane l = s.lane l := rfl

end

section

variable (s : State) (v : Phase)

@[simp] theorem State.setPhase_clock : (s.setPhase v).clock = s.clock := rfl
@[simp] theorem State.setPhase_phase : (s.setPhase v).phase = v := rfl
@[simp] theorem State.setPhase_lines : (s.setPhase v).lines = s.lines := rfl
@[simp] theorem State.setPhase_image : (s.setPhase v).image = s.image := rfl
@[simp] theorem State.setPhase_tables : (s.setPhase v).tables = s.tables := rfl
@[simp] theorem State.setPhase_lanes : (s.setPhase v).lanes = s.lanes := rfl
@[simp] theorem State.setPhase_handed : (s.setPhase v).handed = s.handed := rfl
@[simp] theorem State.setPhase_trailer : (s.setPhase v).trailer = s.trailer := rfl
@[simp] theorem State.setPhase_window : (s.setPhase v).window = s.window := rfl
@[simp] theorem State.setPhase_recog : (s.setPhase v).recog = s.recog := rfl
@[simp] theorem State.setPhase_candidates : (s.setPhase v).candidates = s.candidates := rfl
@[simp] theorem State.setPhase_wheels : (s.setPhase v).wheels = s.wheels := rfl
@[simp] theorem State.setPhase_enc : (s.setPhase v).enc = s.enc := rfl
@[simp] theorem State.setPhase_episodes : (s.setPhase v).episodes = s.episodes := rfl
@[simp] theorem State.setPhase_vdm : (s.setPhase v).vdm = s.vdm := rfl
@[simp] theorem State.setPhase_osc : (s.setPhase v).osc = s.osc := rfl
@[simp] theorem State.setPhase_evq : (s.setPhase v).evq = s.evq := rfl
@[simp] theorem State.setPhase_store : (s.setPhase v).store = s.store := rfl
@[simp] theorem State.setPhase_link : (s.setPhase v).link = s.link := rfl
@[simp] theorem State.setPhase_mgu : (s.setPhase v).mgu = s.mgu := rfl
@[simp] theorem State.setPhase_saves : (s.setPhase v).saves = s.saves := rfl
@[simp] theorem State.setPhase_pending : (s.setPhase v).pending = s.pending := rfl
@[simp] theorem State.setPhase_now : (s.setPhase v).now = s.now := rfl
@[simp] theorem State.setPhase_setting (k : Setting) : (s.setPhase v).setting k = s.setting k := rfl
@[simp] theorem State.setPhase_wheel (r : Row) : (s.setPhase v).wheel r = s.wheel r := rfl
@[simp] theorem State.setPhase_episode (r : Row) : (s.setPhase v).episode r = s.episode r := rfl
@[simp] theorem State.setPhase_lane (l : LaneNo) : (s.setPhase v).lane l = s.lane l := rfl

end

section

variable (s : State) (v : Lines)

@[simp] theorem State.setLines_clock : (s.setLines v).clock = s.clock := rfl
@[simp] theorem State.setLines_phase : (s.setLines v).phase = s.phase := rfl
@[simp] theorem State.setLines_lines : (s.setLines v).lines = v := rfl
@[simp] theorem State.setLines_image : (s.setLines v).image = s.image := rfl
@[simp] theorem State.setLines_tables : (s.setLines v).tables = s.tables := rfl
@[simp] theorem State.setLines_lanes : (s.setLines v).lanes = s.lanes := rfl
@[simp] theorem State.setLines_handed : (s.setLines v).handed = s.handed := rfl
@[simp] theorem State.setLines_trailer : (s.setLines v).trailer = s.trailer := rfl
@[simp] theorem State.setLines_window : (s.setLines v).window = s.window := rfl
@[simp] theorem State.setLines_recog : (s.setLines v).recog = s.recog := rfl
@[simp] theorem State.setLines_candidates : (s.setLines v).candidates = s.candidates := rfl
@[simp] theorem State.setLines_wheels : (s.setLines v).wheels = s.wheels := rfl
@[simp] theorem State.setLines_enc : (s.setLines v).enc = s.enc := rfl
@[simp] theorem State.setLines_episodes : (s.setLines v).episodes = s.episodes := rfl
@[simp] theorem State.setLines_vdm : (s.setLines v).vdm = s.vdm := rfl
@[simp] theorem State.setLines_osc : (s.setLines v).osc = s.osc := rfl
@[simp] theorem State.setLines_evq : (s.setLines v).evq = s.evq := rfl
@[simp] theorem State.setLines_store : (s.setLines v).store = s.store := rfl
@[simp] theorem State.setLines_link : (s.setLines v).link = s.link := rfl
@[simp] theorem State.setLines_mgu : (s.setLines v).mgu = s.mgu := rfl
@[simp] theorem State.setLines_saves : (s.setLines v).saves = s.saves := rfl
@[simp] theorem State.setLines_pending : (s.setLines v).pending = s.pending := rfl
@[simp] theorem State.setLines_now : (s.setLines v).now = s.now := rfl
@[simp] theorem State.setLines_setting (k : Setting) : (s.setLines v).setting k = s.setting k := rfl
@[simp] theorem State.setLines_wheel (r : Row) : (s.setLines v).wheel r = s.wheel r := rfl
@[simp] theorem State.setLines_episode (r : Row) : (s.setLines v).episode r = s.episode r := rfl
@[simp] theorem State.setLines_lane (l : LaneNo) : (s.setLines v).lane l = s.lane l := rfl

end

section

variable (s : State) (v : Image)

@[simp] theorem State.setImage_clock : (s.setImage v).clock = s.clock := rfl
@[simp] theorem State.setImage_phase : (s.setImage v).phase = s.phase := rfl
@[simp] theorem State.setImage_lines : (s.setImage v).lines = s.lines := rfl
@[simp] theorem State.setImage_image : (s.setImage v).image = v := rfl
@[simp] theorem State.setImage_tables : (s.setImage v).tables = s.tables := rfl
@[simp] theorem State.setImage_lanes : (s.setImage v).lanes = s.lanes := rfl
@[simp] theorem State.setImage_handed : (s.setImage v).handed = s.handed := rfl
@[simp] theorem State.setImage_trailer : (s.setImage v).trailer = s.trailer := rfl
@[simp] theorem State.setImage_window : (s.setImage v).window = s.window := rfl
@[simp] theorem State.setImage_recog : (s.setImage v).recog = s.recog := rfl
@[simp] theorem State.setImage_candidates : (s.setImage v).candidates = s.candidates := rfl
@[simp] theorem State.setImage_wheels : (s.setImage v).wheels = s.wheels := rfl
@[simp] theorem State.setImage_enc : (s.setImage v).enc = s.enc := rfl
@[simp] theorem State.setImage_episodes : (s.setImage v).episodes = s.episodes := rfl
@[simp] theorem State.setImage_vdm : (s.setImage v).vdm = s.vdm := rfl
@[simp] theorem State.setImage_osc : (s.setImage v).osc = s.osc := rfl
@[simp] theorem State.setImage_evq : (s.setImage v).evq = s.evq := rfl
@[simp] theorem State.setImage_store : (s.setImage v).store = s.store := rfl
@[simp] theorem State.setImage_link : (s.setImage v).link = s.link := rfl
@[simp] theorem State.setImage_mgu : (s.setImage v).mgu = s.mgu := rfl
@[simp] theorem State.setImage_saves : (s.setImage v).saves = s.saves := rfl
@[simp] theorem State.setImage_pending : (s.setImage v).pending = s.pending := rfl
@[simp] theorem State.setImage_now : (s.setImage v).now = s.now := rfl
@[simp] theorem State.setImage_setting (k : Setting) : (s.setImage v).setting k = s.setting k := rfl
@[simp] theorem State.setImage_wheel (r : Row) : (s.setImage v).wheel r = s.wheel r := rfl
@[simp] theorem State.setImage_episode (r : Row) : (s.setImage v).episode r = s.episode r := rfl
@[simp] theorem State.setImage_lane (l : LaneNo) : (s.setImage v).lane l = s.lane l := rfl

end

section

variable (s : State) (v : Tables)

@[simp] theorem State.setTables_clock : (s.setTables v).clock = s.clock := rfl
@[simp] theorem State.setTables_phase : (s.setTables v).phase = s.phase := rfl
@[simp] theorem State.setTables_lines : (s.setTables v).lines = s.lines := rfl
@[simp] theorem State.setTables_image : (s.setTables v).image = s.image := rfl
@[simp] theorem State.setTables_tables : (s.setTables v).tables = v := rfl
@[simp] theorem State.setTables_lanes : (s.setTables v).lanes = s.lanes := rfl
@[simp] theorem State.setTables_handed : (s.setTables v).handed = s.handed := rfl
@[simp] theorem State.setTables_trailer : (s.setTables v).trailer = s.trailer := rfl
@[simp] theorem State.setTables_window : (s.setTables v).window = s.window := rfl
@[simp] theorem State.setTables_recog : (s.setTables v).recog = s.recog := rfl
@[simp] theorem State.setTables_candidates : (s.setTables v).candidates = s.candidates := rfl
@[simp] theorem State.setTables_wheels : (s.setTables v).wheels = s.wheels := rfl
@[simp] theorem State.setTables_enc : (s.setTables v).enc = s.enc := rfl
@[simp] theorem State.setTables_episodes : (s.setTables v).episodes = s.episodes := rfl
@[simp] theorem State.setTables_vdm : (s.setTables v).vdm = s.vdm := rfl
@[simp] theorem State.setTables_osc : (s.setTables v).osc = s.osc := rfl
@[simp] theorem State.setTables_evq : (s.setTables v).evq = s.evq := rfl
@[simp] theorem State.setTables_store : (s.setTables v).store = s.store := rfl
@[simp] theorem State.setTables_link : (s.setTables v).link = s.link := rfl
@[simp] theorem State.setTables_mgu : (s.setTables v).mgu = s.mgu := rfl
@[simp] theorem State.setTables_saves : (s.setTables v).saves = s.saves := rfl
@[simp] theorem State.setTables_pending : (s.setTables v).pending = s.pending := rfl
@[simp] theorem State.setTables_now : (s.setTables v).now = s.now := rfl
@[simp] theorem State.setTables_wheel (r : Row) : (s.setTables v).wheel r = s.wheel r := rfl
@[simp] theorem State.setTables_episode (r : Row) : (s.setTables v).episode r = s.episode r := rfl
@[simp] theorem State.setTables_lane (l : LaneNo) : (s.setTables v).lane l = s.lane l := rfl

end

section

variable (s : State) (v : Vector Lane 4)

@[simp] theorem State.setLanes_clock : (s.setLanes v).clock = s.clock := rfl
@[simp] theorem State.setLanes_phase : (s.setLanes v).phase = s.phase := rfl
@[simp] theorem State.setLanes_lines : (s.setLanes v).lines = s.lines := rfl
@[simp] theorem State.setLanes_image : (s.setLanes v).image = s.image := rfl
@[simp] theorem State.setLanes_tables : (s.setLanes v).tables = s.tables := rfl
@[simp] theorem State.setLanes_lanes : (s.setLanes v).lanes = v := rfl
@[simp] theorem State.setLanes_handed : (s.setLanes v).handed = s.handed := rfl
@[simp] theorem State.setLanes_trailer : (s.setLanes v).trailer = s.trailer := rfl
@[simp] theorem State.setLanes_window : (s.setLanes v).window = s.window := rfl
@[simp] theorem State.setLanes_recog : (s.setLanes v).recog = s.recog := rfl
@[simp] theorem State.setLanes_candidates : (s.setLanes v).candidates = s.candidates := rfl
@[simp] theorem State.setLanes_wheels : (s.setLanes v).wheels = s.wheels := rfl
@[simp] theorem State.setLanes_enc : (s.setLanes v).enc = s.enc := rfl
@[simp] theorem State.setLanes_episodes : (s.setLanes v).episodes = s.episodes := rfl
@[simp] theorem State.setLanes_vdm : (s.setLanes v).vdm = s.vdm := rfl
@[simp] theorem State.setLanes_osc : (s.setLanes v).osc = s.osc := rfl
@[simp] theorem State.setLanes_evq : (s.setLanes v).evq = s.evq := rfl
@[simp] theorem State.setLanes_store : (s.setLanes v).store = s.store := rfl
@[simp] theorem State.setLanes_link : (s.setLanes v).link = s.link := rfl
@[simp] theorem State.setLanes_mgu : (s.setLanes v).mgu = s.mgu := rfl
@[simp] theorem State.setLanes_saves : (s.setLanes v).saves = s.saves := rfl
@[simp] theorem State.setLanes_pending : (s.setLanes v).pending = s.pending := rfl
@[simp] theorem State.setLanes_now : (s.setLanes v).now = s.now := rfl
@[simp] theorem State.setLanes_setting (k : Setting) : (s.setLanes v).setting k = s.setting k := rfl
@[simp] theorem State.setLanes_wheel (r : Row) : (s.setLanes v).wheel r = s.wheel r := rfl
@[simp] theorem State.setLanes_episode (r : Row) : (s.setLanes v).episode r = s.episode r := rfl

end

section

variable (s : State) (v : List TelegramRecord)

@[simp] theorem State.setHanded_clock : (s.setHanded v).clock = s.clock := rfl
@[simp] theorem State.setHanded_phase : (s.setHanded v).phase = s.phase := rfl
@[simp] theorem State.setHanded_lines : (s.setHanded v).lines = s.lines := rfl
@[simp] theorem State.setHanded_image : (s.setHanded v).image = s.image := rfl
@[simp] theorem State.setHanded_tables : (s.setHanded v).tables = s.tables := rfl
@[simp] theorem State.setHanded_lanes : (s.setHanded v).lanes = s.lanes := rfl
@[simp] theorem State.setHanded_handed : (s.setHanded v).handed = v := rfl
@[simp] theorem State.setHanded_trailer : (s.setHanded v).trailer = s.trailer := rfl
@[simp] theorem State.setHanded_window : (s.setHanded v).window = s.window := rfl
@[simp] theorem State.setHanded_recog : (s.setHanded v).recog = s.recog := rfl
@[simp] theorem State.setHanded_candidates : (s.setHanded v).candidates = s.candidates := rfl
@[simp] theorem State.setHanded_wheels : (s.setHanded v).wheels = s.wheels := rfl
@[simp] theorem State.setHanded_enc : (s.setHanded v).enc = s.enc := rfl
@[simp] theorem State.setHanded_episodes : (s.setHanded v).episodes = s.episodes := rfl
@[simp] theorem State.setHanded_vdm : (s.setHanded v).vdm = s.vdm := rfl
@[simp] theorem State.setHanded_osc : (s.setHanded v).osc = s.osc := rfl
@[simp] theorem State.setHanded_evq : (s.setHanded v).evq = s.evq := rfl
@[simp] theorem State.setHanded_store : (s.setHanded v).store = s.store := rfl
@[simp] theorem State.setHanded_link : (s.setHanded v).link = s.link := rfl
@[simp] theorem State.setHanded_mgu : (s.setHanded v).mgu = s.mgu := rfl
@[simp] theorem State.setHanded_saves : (s.setHanded v).saves = s.saves := rfl
@[simp] theorem State.setHanded_pending : (s.setHanded v).pending = s.pending := rfl
@[simp] theorem State.setHanded_now : (s.setHanded v).now = s.now := rfl
@[simp] theorem State.setHanded_setting (k : Setting) : (s.setHanded v).setting k = s.setting k := rfl
@[simp] theorem State.setHanded_wheel (r : Row) : (s.setHanded v).wheel r = s.wheel r := rfl
@[simp] theorem State.setHanded_episode (r : Row) : (s.setHanded v).episode r = s.episode r := rfl
@[simp] theorem State.setHanded_lane (l : LaneNo) : (s.setHanded v).lane l = s.lane l := rfl

end

section

variable (s : State) (v : TrailerState)

@[simp] theorem State.setTrailer_clock : (s.setTrailer v).clock = s.clock := rfl
@[simp] theorem State.setTrailer_phase : (s.setTrailer v).phase = s.phase := rfl
@[simp] theorem State.setTrailer_lines : (s.setTrailer v).lines = s.lines := rfl
@[simp] theorem State.setTrailer_image : (s.setTrailer v).image = s.image := rfl
@[simp] theorem State.setTrailer_tables : (s.setTrailer v).tables = s.tables := rfl
@[simp] theorem State.setTrailer_lanes : (s.setTrailer v).lanes = s.lanes := rfl
@[simp] theorem State.setTrailer_handed : (s.setTrailer v).handed = s.handed := rfl
@[simp] theorem State.setTrailer_trailer : (s.setTrailer v).trailer = v := rfl
@[simp] theorem State.setTrailer_window : (s.setTrailer v).window = s.window := rfl
@[simp] theorem State.setTrailer_recog : (s.setTrailer v).recog = s.recog := rfl
@[simp] theorem State.setTrailer_candidates : (s.setTrailer v).candidates = s.candidates := rfl
@[simp] theorem State.setTrailer_wheels : (s.setTrailer v).wheels = s.wheels := rfl
@[simp] theorem State.setTrailer_enc : (s.setTrailer v).enc = s.enc := rfl
@[simp] theorem State.setTrailer_episodes : (s.setTrailer v).episodes = s.episodes := rfl
@[simp] theorem State.setTrailer_vdm : (s.setTrailer v).vdm = s.vdm := rfl
@[simp] theorem State.setTrailer_osc : (s.setTrailer v).osc = s.osc := rfl
@[simp] theorem State.setTrailer_evq : (s.setTrailer v).evq = s.evq := rfl
@[simp] theorem State.setTrailer_store : (s.setTrailer v).store = s.store := rfl
@[simp] theorem State.setTrailer_link : (s.setTrailer v).link = s.link := rfl
@[simp] theorem State.setTrailer_mgu : (s.setTrailer v).mgu = s.mgu := rfl
@[simp] theorem State.setTrailer_saves : (s.setTrailer v).saves = s.saves := rfl
@[simp] theorem State.setTrailer_pending : (s.setTrailer v).pending = s.pending := rfl
@[simp] theorem State.setTrailer_now : (s.setTrailer v).now = s.now := rfl
@[simp] theorem State.setTrailer_setting (k : Setting) : (s.setTrailer v).setting k = s.setting k := rfl
@[simp] theorem State.setTrailer_wheel (r : Row) : (s.setTrailer v).wheel r = s.wheel r := rfl
@[simp] theorem State.setTrailer_episode (r : Row) : (s.setTrailer v).episode r = s.episode r := rfl
@[simp] theorem State.setTrailer_lane (l : LaneNo) : (s.setTrailer v).lane l = s.lane l := rfl

end

section

variable (s : State) (v : Option Millis)

@[simp] theorem State.setWindow_clock : (s.setWindow v).clock = s.clock := rfl
@[simp] theorem State.setWindow_phase : (s.setWindow v).phase = s.phase := rfl
@[simp] theorem State.setWindow_lines : (s.setWindow v).lines = s.lines := rfl
@[simp] theorem State.setWindow_image : (s.setWindow v).image = s.image := rfl
@[simp] theorem State.setWindow_tables : (s.setWindow v).tables = s.tables := rfl
@[simp] theorem State.setWindow_lanes : (s.setWindow v).lanes = s.lanes := rfl
@[simp] theorem State.setWindow_handed : (s.setWindow v).handed = s.handed := rfl
@[simp] theorem State.setWindow_trailer : (s.setWindow v).trailer = s.trailer := rfl
@[simp] theorem State.setWindow_window : (s.setWindow v).window = v := rfl
@[simp] theorem State.setWindow_recog : (s.setWindow v).recog = s.recog := rfl
@[simp] theorem State.setWindow_candidates : (s.setWindow v).candidates = s.candidates := rfl
@[simp] theorem State.setWindow_wheels : (s.setWindow v).wheels = s.wheels := rfl
@[simp] theorem State.setWindow_enc : (s.setWindow v).enc = s.enc := rfl
@[simp] theorem State.setWindow_episodes : (s.setWindow v).episodes = s.episodes := rfl
@[simp] theorem State.setWindow_vdm : (s.setWindow v).vdm = s.vdm := rfl
@[simp] theorem State.setWindow_osc : (s.setWindow v).osc = s.osc := rfl
@[simp] theorem State.setWindow_evq : (s.setWindow v).evq = s.evq := rfl
@[simp] theorem State.setWindow_store : (s.setWindow v).store = s.store := rfl
@[simp] theorem State.setWindow_link : (s.setWindow v).link = s.link := rfl
@[simp] theorem State.setWindow_mgu : (s.setWindow v).mgu = s.mgu := rfl
@[simp] theorem State.setWindow_saves : (s.setWindow v).saves = s.saves := rfl
@[simp] theorem State.setWindow_pending : (s.setWindow v).pending = s.pending := rfl
@[simp] theorem State.setWindow_now : (s.setWindow v).now = s.now := rfl
@[simp] theorem State.setWindow_setting (k : Setting) : (s.setWindow v).setting k = s.setting k := rfl
@[simp] theorem State.setWindow_wheel (r : Row) : (s.setWindow v).wheel r = s.wheel r := rfl
@[simp] theorem State.setWindow_episode (r : Row) : (s.setWindow v).episode r = s.episode r := rfl
@[simp] theorem State.setWindow_lane (l : LaneNo) : (s.setWindow v).lane l = s.lane l := rfl

end

section

variable (s : State) (v : Vector RecogEntry 4)

@[simp] theorem State.setRecog_clock : (s.setRecog v).clock = s.clock := rfl
@[simp] theorem State.setRecog_phase : (s.setRecog v).phase = s.phase := rfl
@[simp] theorem State.setRecog_lines : (s.setRecog v).lines = s.lines := rfl
@[simp] theorem State.setRecog_image : (s.setRecog v).image = s.image := rfl
@[simp] theorem State.setRecog_tables : (s.setRecog v).tables = s.tables := rfl
@[simp] theorem State.setRecog_lanes : (s.setRecog v).lanes = s.lanes := rfl
@[simp] theorem State.setRecog_handed : (s.setRecog v).handed = s.handed := rfl
@[simp] theorem State.setRecog_trailer : (s.setRecog v).trailer = s.trailer := rfl
@[simp] theorem State.setRecog_window : (s.setRecog v).window = s.window := rfl
@[simp] theorem State.setRecog_recog : (s.setRecog v).recog = v := rfl
@[simp] theorem State.setRecog_candidates : (s.setRecog v).candidates = s.candidates := rfl
@[simp] theorem State.setRecog_wheels : (s.setRecog v).wheels = s.wheels := rfl
@[simp] theorem State.setRecog_enc : (s.setRecog v).enc = s.enc := rfl
@[simp] theorem State.setRecog_episodes : (s.setRecog v).episodes = s.episodes := rfl
@[simp] theorem State.setRecog_vdm : (s.setRecog v).vdm = s.vdm := rfl
@[simp] theorem State.setRecog_osc : (s.setRecog v).osc = s.osc := rfl
@[simp] theorem State.setRecog_evq : (s.setRecog v).evq = s.evq := rfl
@[simp] theorem State.setRecog_store : (s.setRecog v).store = s.store := rfl
@[simp] theorem State.setRecog_link : (s.setRecog v).link = s.link := rfl
@[simp] theorem State.setRecog_mgu : (s.setRecog v).mgu = s.mgu := rfl
@[simp] theorem State.setRecog_saves : (s.setRecog v).saves = s.saves := rfl
@[simp] theorem State.setRecog_pending : (s.setRecog v).pending = s.pending := rfl
@[simp] theorem State.setRecog_now : (s.setRecog v).now = s.now := rfl
@[simp] theorem State.setRecog_setting (k : Setting) : (s.setRecog v).setting k = s.setting k := rfl
@[simp] theorem State.setRecog_wheel (r : Row) : (s.setRecog v).wheel r = s.wheel r := rfl
@[simp] theorem State.setRecog_episode (r : Row) : (s.setRecog v).episode r = s.episode r := rfl
@[simp] theorem State.setRecog_lane (l : LaneNo) : (s.setRecog v).lane l = s.lane l := rfl

end

section

variable (s : State) (v : List Candidate)

@[simp] theorem State.setCandidates_clock : (s.setCandidates v).clock = s.clock := rfl
@[simp] theorem State.setCandidates_phase : (s.setCandidates v).phase = s.phase := rfl
@[simp] theorem State.setCandidates_lines : (s.setCandidates v).lines = s.lines := rfl
@[simp] theorem State.setCandidates_image : (s.setCandidates v).image = s.image := rfl
@[simp] theorem State.setCandidates_tables : (s.setCandidates v).tables = s.tables := rfl
@[simp] theorem State.setCandidates_lanes : (s.setCandidates v).lanes = s.lanes := rfl
@[simp] theorem State.setCandidates_handed : (s.setCandidates v).handed = s.handed := rfl
@[simp] theorem State.setCandidates_trailer : (s.setCandidates v).trailer = s.trailer := rfl
@[simp] theorem State.setCandidates_window : (s.setCandidates v).window = s.window := rfl
@[simp] theorem State.setCandidates_recog : (s.setCandidates v).recog = s.recog := rfl
@[simp] theorem State.setCandidates_candidates : (s.setCandidates v).candidates = v := rfl
@[simp] theorem State.setCandidates_wheels : (s.setCandidates v).wheels = s.wheels := rfl
@[simp] theorem State.setCandidates_enc : (s.setCandidates v).enc = s.enc := rfl
@[simp] theorem State.setCandidates_episodes : (s.setCandidates v).episodes = s.episodes := rfl
@[simp] theorem State.setCandidates_vdm : (s.setCandidates v).vdm = s.vdm := rfl
@[simp] theorem State.setCandidates_osc : (s.setCandidates v).osc = s.osc := rfl
@[simp] theorem State.setCandidates_evq : (s.setCandidates v).evq = s.evq := rfl
@[simp] theorem State.setCandidates_store : (s.setCandidates v).store = s.store := rfl
@[simp] theorem State.setCandidates_link : (s.setCandidates v).link = s.link := rfl
@[simp] theorem State.setCandidates_mgu : (s.setCandidates v).mgu = s.mgu := rfl
@[simp] theorem State.setCandidates_saves : (s.setCandidates v).saves = s.saves := rfl
@[simp] theorem State.setCandidates_pending : (s.setCandidates v).pending = s.pending := rfl
@[simp] theorem State.setCandidates_now : (s.setCandidates v).now = s.now := rfl
@[simp] theorem State.setCandidates_setting (k : Setting) : (s.setCandidates v).setting k = s.setting k := rfl
@[simp] theorem State.setCandidates_wheel (r : Row) : (s.setCandidates v).wheel r = s.wheel r := rfl
@[simp] theorem State.setCandidates_episode (r : Row) : (s.setCandidates v).episode r = s.episode r := rfl
@[simp] theorem State.setCandidates_lane (l : LaneNo) : (s.setCandidates v).lane l = s.lane l := rfl

end

section

variable (s : State) (v : Vector WheelRecord 32)

@[simp] theorem State.setWheels_clock : (s.setWheels v).clock = s.clock := rfl
@[simp] theorem State.setWheels_phase : (s.setWheels v).phase = s.phase := rfl
@[simp] theorem State.setWheels_lines : (s.setWheels v).lines = s.lines := rfl
@[simp] theorem State.setWheels_image : (s.setWheels v).image = s.image := rfl
@[simp] theorem State.setWheels_tables : (s.setWheels v).tables = s.tables := rfl
@[simp] theorem State.setWheels_lanes : (s.setWheels v).lanes = s.lanes := rfl
@[simp] theorem State.setWheels_handed : (s.setWheels v).handed = s.handed := rfl
@[simp] theorem State.setWheels_trailer : (s.setWheels v).trailer = s.trailer := rfl
@[simp] theorem State.setWheels_window : (s.setWheels v).window = s.window := rfl
@[simp] theorem State.setWheels_recog : (s.setWheels v).recog = s.recog := rfl
@[simp] theorem State.setWheels_candidates : (s.setWheels v).candidates = s.candidates := rfl
@[simp] theorem State.setWheels_wheels : (s.setWheels v).wheels = v := rfl
@[simp] theorem State.setWheels_enc : (s.setWheels v).enc = s.enc := rfl
@[simp] theorem State.setWheels_episodes : (s.setWheels v).episodes = s.episodes := rfl
@[simp] theorem State.setWheels_vdm : (s.setWheels v).vdm = s.vdm := rfl
@[simp] theorem State.setWheels_osc : (s.setWheels v).osc = s.osc := rfl
@[simp] theorem State.setWheels_evq : (s.setWheels v).evq = s.evq := rfl
@[simp] theorem State.setWheels_store : (s.setWheels v).store = s.store := rfl
@[simp] theorem State.setWheels_link : (s.setWheels v).link = s.link := rfl
@[simp] theorem State.setWheels_mgu : (s.setWheels v).mgu = s.mgu := rfl
@[simp] theorem State.setWheels_saves : (s.setWheels v).saves = s.saves := rfl
@[simp] theorem State.setWheels_pending : (s.setWheels v).pending = s.pending := rfl
@[simp] theorem State.setWheels_now : (s.setWheels v).now = s.now := rfl
@[simp] theorem State.setWheels_setting (k : Setting) : (s.setWheels v).setting k = s.setting k := rfl
@[simp] theorem State.setWheels_episode (r : Row) : (s.setWheels v).episode r = s.episode r := rfl
@[simp] theorem State.setWheels_lane (l : LaneNo) : (s.setWheels v).lane l = s.lane l := rfl

end

section

variable (s : State) (v : Enrolment)

@[simp] theorem State.setEnc_clock : (s.setEnc v).clock = s.clock := rfl
@[simp] theorem State.setEnc_phase : (s.setEnc v).phase = s.phase := rfl
@[simp] theorem State.setEnc_lines : (s.setEnc v).lines = s.lines := rfl
@[simp] theorem State.setEnc_image : (s.setEnc v).image = s.image := rfl
@[simp] theorem State.setEnc_tables : (s.setEnc v).tables = s.tables := rfl
@[simp] theorem State.setEnc_lanes : (s.setEnc v).lanes = s.lanes := rfl
@[simp] theorem State.setEnc_handed : (s.setEnc v).handed = s.handed := rfl
@[simp] theorem State.setEnc_trailer : (s.setEnc v).trailer = s.trailer := rfl
@[simp] theorem State.setEnc_window : (s.setEnc v).window = s.window := rfl
@[simp] theorem State.setEnc_recog : (s.setEnc v).recog = s.recog := rfl
@[simp] theorem State.setEnc_candidates : (s.setEnc v).candidates = s.candidates := rfl
@[simp] theorem State.setEnc_wheels : (s.setEnc v).wheels = s.wheels := rfl
@[simp] theorem State.setEnc_enc : (s.setEnc v).enc = v := rfl
@[simp] theorem State.setEnc_episodes : (s.setEnc v).episodes = s.episodes := rfl
@[simp] theorem State.setEnc_vdm : (s.setEnc v).vdm = s.vdm := rfl
@[simp] theorem State.setEnc_osc : (s.setEnc v).osc = s.osc := rfl
@[simp] theorem State.setEnc_evq : (s.setEnc v).evq = s.evq := rfl
@[simp] theorem State.setEnc_store : (s.setEnc v).store = s.store := rfl
@[simp] theorem State.setEnc_link : (s.setEnc v).link = s.link := rfl
@[simp] theorem State.setEnc_mgu : (s.setEnc v).mgu = s.mgu := rfl
@[simp] theorem State.setEnc_saves : (s.setEnc v).saves = s.saves := rfl
@[simp] theorem State.setEnc_pending : (s.setEnc v).pending = s.pending := rfl
@[simp] theorem State.setEnc_now : (s.setEnc v).now = s.now := rfl
@[simp] theorem State.setEnc_setting (k : Setting) : (s.setEnc v).setting k = s.setting k := rfl
@[simp] theorem State.setEnc_wheel (r : Row) : (s.setEnc v).wheel r = s.wheel r := rfl
@[simp] theorem State.setEnc_episode (r : Row) : (s.setEnc v).episode r = s.episode r := rfl
@[simp] theorem State.setEnc_lane (l : LaneNo) : (s.setEnc v).lane l = s.lane l := rfl

end

section

variable (s : State) (v : Vector Episode 32)

@[simp] theorem State.setEpisodes_clock : (s.setEpisodes v).clock = s.clock := rfl
@[simp] theorem State.setEpisodes_phase : (s.setEpisodes v).phase = s.phase := rfl
@[simp] theorem State.setEpisodes_lines : (s.setEpisodes v).lines = s.lines := rfl
@[simp] theorem State.setEpisodes_image : (s.setEpisodes v).image = s.image := rfl
@[simp] theorem State.setEpisodes_tables : (s.setEpisodes v).tables = s.tables := rfl
@[simp] theorem State.setEpisodes_lanes : (s.setEpisodes v).lanes = s.lanes := rfl
@[simp] theorem State.setEpisodes_handed : (s.setEpisodes v).handed = s.handed := rfl
@[simp] theorem State.setEpisodes_trailer : (s.setEpisodes v).trailer = s.trailer := rfl
@[simp] theorem State.setEpisodes_window : (s.setEpisodes v).window = s.window := rfl
@[simp] theorem State.setEpisodes_recog : (s.setEpisodes v).recog = s.recog := rfl
@[simp] theorem State.setEpisodes_candidates : (s.setEpisodes v).candidates = s.candidates := rfl
@[simp] theorem State.setEpisodes_wheels : (s.setEpisodes v).wheels = s.wheels := rfl
@[simp] theorem State.setEpisodes_enc : (s.setEpisodes v).enc = s.enc := rfl
@[simp] theorem State.setEpisodes_episodes : (s.setEpisodes v).episodes = v := rfl
@[simp] theorem State.setEpisodes_vdm : (s.setEpisodes v).vdm = s.vdm := rfl
@[simp] theorem State.setEpisodes_osc : (s.setEpisodes v).osc = s.osc := rfl
@[simp] theorem State.setEpisodes_evq : (s.setEpisodes v).evq = s.evq := rfl
@[simp] theorem State.setEpisodes_store : (s.setEpisodes v).store = s.store := rfl
@[simp] theorem State.setEpisodes_link : (s.setEpisodes v).link = s.link := rfl
@[simp] theorem State.setEpisodes_mgu : (s.setEpisodes v).mgu = s.mgu := rfl
@[simp] theorem State.setEpisodes_saves : (s.setEpisodes v).saves = s.saves := rfl
@[simp] theorem State.setEpisodes_pending : (s.setEpisodes v).pending = s.pending := rfl
@[simp] theorem State.setEpisodes_now : (s.setEpisodes v).now = s.now := rfl
@[simp] theorem State.setEpisodes_setting (k : Setting) : (s.setEpisodes v).setting k = s.setting k := rfl
@[simp] theorem State.setEpisodes_wheel (r : Row) : (s.setEpisodes v).wheel r = s.wheel r := rfl
@[simp] theorem State.setEpisodes_lane (l : LaneNo) : (s.setEpisodes v).lane l = s.lane l := rfl

end

section

variable (s : State) (v : VehicleData)

@[simp] theorem State.setVdm_clock : (s.setVdm v).clock = s.clock := rfl
@[simp] theorem State.setVdm_phase : (s.setVdm v).phase = s.phase := rfl
@[simp] theorem State.setVdm_lines : (s.setVdm v).lines = s.lines := rfl
@[simp] theorem State.setVdm_image : (s.setVdm v).image = s.image := rfl
@[simp] theorem State.setVdm_tables : (s.setVdm v).tables = s.tables := rfl
@[simp] theorem State.setVdm_lanes : (s.setVdm v).lanes = s.lanes := rfl
@[simp] theorem State.setVdm_handed : (s.setVdm v).handed = s.handed := rfl
@[simp] theorem State.setVdm_trailer : (s.setVdm v).trailer = s.trailer := rfl
@[simp] theorem State.setVdm_window : (s.setVdm v).window = s.window := rfl
@[simp] theorem State.setVdm_recog : (s.setVdm v).recog = s.recog := rfl
@[simp] theorem State.setVdm_candidates : (s.setVdm v).candidates = s.candidates := rfl
@[simp] theorem State.setVdm_wheels : (s.setVdm v).wheels = s.wheels := rfl
@[simp] theorem State.setVdm_enc : (s.setVdm v).enc = s.enc := rfl
@[simp] theorem State.setVdm_episodes : (s.setVdm v).episodes = s.episodes := rfl
@[simp] theorem State.setVdm_vdm : (s.setVdm v).vdm = v := rfl
@[simp] theorem State.setVdm_osc : (s.setVdm v).osc = s.osc := rfl
@[simp] theorem State.setVdm_evq : (s.setVdm v).evq = s.evq := rfl
@[simp] theorem State.setVdm_store : (s.setVdm v).store = s.store := rfl
@[simp] theorem State.setVdm_link : (s.setVdm v).link = s.link := rfl
@[simp] theorem State.setVdm_mgu : (s.setVdm v).mgu = s.mgu := rfl
@[simp] theorem State.setVdm_saves : (s.setVdm v).saves = s.saves := rfl
@[simp] theorem State.setVdm_pending : (s.setVdm v).pending = s.pending := rfl
@[simp] theorem State.setVdm_now : (s.setVdm v).now = s.now := rfl
@[simp] theorem State.setVdm_setting (k : Setting) : (s.setVdm v).setting k = s.setting k := rfl
@[simp] theorem State.setVdm_wheel (r : Row) : (s.setVdm v).wheel r = s.wheel r := rfl
@[simp] theorem State.setVdm_episode (r : Row) : (s.setVdm v).episode r = s.episode r := rfl
@[simp] theorem State.setVdm_lane (l : LaneNo) : (s.setVdm v).lane l = s.lane l := rfl

end

section

variable (s : State) (v : Controller)

@[simp] theorem State.setOsc_clock : (s.setOsc v).clock = s.clock := rfl
@[simp] theorem State.setOsc_phase : (s.setOsc v).phase = s.phase := rfl
@[simp] theorem State.setOsc_lines : (s.setOsc v).lines = s.lines := rfl
@[simp] theorem State.setOsc_image : (s.setOsc v).image = s.image := rfl
@[simp] theorem State.setOsc_tables : (s.setOsc v).tables = s.tables := rfl
@[simp] theorem State.setOsc_lanes : (s.setOsc v).lanes = s.lanes := rfl
@[simp] theorem State.setOsc_handed : (s.setOsc v).handed = s.handed := rfl
@[simp] theorem State.setOsc_trailer : (s.setOsc v).trailer = s.trailer := rfl
@[simp] theorem State.setOsc_window : (s.setOsc v).window = s.window := rfl
@[simp] theorem State.setOsc_recog : (s.setOsc v).recog = s.recog := rfl
@[simp] theorem State.setOsc_candidates : (s.setOsc v).candidates = s.candidates := rfl
@[simp] theorem State.setOsc_wheels : (s.setOsc v).wheels = s.wheels := rfl
@[simp] theorem State.setOsc_enc : (s.setOsc v).enc = s.enc := rfl
@[simp] theorem State.setOsc_episodes : (s.setOsc v).episodes = s.episodes := rfl
@[simp] theorem State.setOsc_vdm : (s.setOsc v).vdm = s.vdm := rfl
@[simp] theorem State.setOsc_osc : (s.setOsc v).osc = v := rfl
@[simp] theorem State.setOsc_evq : (s.setOsc v).evq = s.evq := rfl
@[simp] theorem State.setOsc_store : (s.setOsc v).store = s.store := rfl
@[simp] theorem State.setOsc_link : (s.setOsc v).link = s.link := rfl
@[simp] theorem State.setOsc_mgu : (s.setOsc v).mgu = s.mgu := rfl
@[simp] theorem State.setOsc_saves : (s.setOsc v).saves = s.saves := rfl
@[simp] theorem State.setOsc_pending : (s.setOsc v).pending = s.pending := rfl
@[simp] theorem State.setOsc_now : (s.setOsc v).now = s.now := rfl
@[simp] theorem State.setOsc_setting (k : Setting) : (s.setOsc v).setting k = s.setting k := rfl
@[simp] theorem State.setOsc_wheel (r : Row) : (s.setOsc v).wheel r = s.wheel r := rfl
@[simp] theorem State.setOsc_episode (r : Row) : (s.setOsc v).episode r = s.episode r := rfl
@[simp] theorem State.setOsc_lane (l : LaneNo) : (s.setOsc v).lane l = s.lane l := rfl

end

section

variable (s : State) (v : EventQueue)

@[simp] theorem State.setEvq_clock : (s.setEvq v).clock = s.clock := rfl
@[simp] theorem State.setEvq_phase : (s.setEvq v).phase = s.phase := rfl
@[simp] theorem State.setEvq_lines : (s.setEvq v).lines = s.lines := rfl
@[simp] theorem State.setEvq_image : (s.setEvq v).image = s.image := rfl
@[simp] theorem State.setEvq_tables : (s.setEvq v).tables = s.tables := rfl
@[simp] theorem State.setEvq_lanes : (s.setEvq v).lanes = s.lanes := rfl
@[simp] theorem State.setEvq_handed : (s.setEvq v).handed = s.handed := rfl
@[simp] theorem State.setEvq_trailer : (s.setEvq v).trailer = s.trailer := rfl
@[simp] theorem State.setEvq_window : (s.setEvq v).window = s.window := rfl
@[simp] theorem State.setEvq_recog : (s.setEvq v).recog = s.recog := rfl
@[simp] theorem State.setEvq_candidates : (s.setEvq v).candidates = s.candidates := rfl
@[simp] theorem State.setEvq_wheels : (s.setEvq v).wheels = s.wheels := rfl
@[simp] theorem State.setEvq_enc : (s.setEvq v).enc = s.enc := rfl
@[simp] theorem State.setEvq_episodes : (s.setEvq v).episodes = s.episodes := rfl
@[simp] theorem State.setEvq_vdm : (s.setEvq v).vdm = s.vdm := rfl
@[simp] theorem State.setEvq_osc : (s.setEvq v).osc = s.osc := rfl
@[simp] theorem State.setEvq_evq : (s.setEvq v).evq = v := rfl
@[simp] theorem State.setEvq_store : (s.setEvq v).store = s.store := rfl
@[simp] theorem State.setEvq_link : (s.setEvq v).link = s.link := rfl
@[simp] theorem State.setEvq_mgu : (s.setEvq v).mgu = s.mgu := rfl
@[simp] theorem State.setEvq_saves : (s.setEvq v).saves = s.saves := rfl
@[simp] theorem State.setEvq_pending : (s.setEvq v).pending = s.pending := rfl
@[simp] theorem State.setEvq_now : (s.setEvq v).now = s.now := rfl
@[simp] theorem State.setEvq_setting (k : Setting) : (s.setEvq v).setting k = s.setting k := rfl
@[simp] theorem State.setEvq_wheel (r : Row) : (s.setEvq v).wheel r = s.wheel r := rfl
@[simp] theorem State.setEvq_episode (r : Row) : (s.setEvq v).episode r = s.episode r := rfl
@[simp] theorem State.setEvq_lane (l : LaneNo) : (s.setEvq v).lane l = s.lane l := rfl

end

section

variable (s : State) (v : Store)

@[simp] theorem State.setStore_clock : (s.setStore v).clock = s.clock := rfl
@[simp] theorem State.setStore_phase : (s.setStore v).phase = s.phase := rfl
@[simp] theorem State.setStore_lines : (s.setStore v).lines = s.lines := rfl
@[simp] theorem State.setStore_image : (s.setStore v).image = s.image := rfl
@[simp] theorem State.setStore_tables : (s.setStore v).tables = s.tables := rfl
@[simp] theorem State.setStore_lanes : (s.setStore v).lanes = s.lanes := rfl
@[simp] theorem State.setStore_handed : (s.setStore v).handed = s.handed := rfl
@[simp] theorem State.setStore_trailer : (s.setStore v).trailer = s.trailer := rfl
@[simp] theorem State.setStore_window : (s.setStore v).window = s.window := rfl
@[simp] theorem State.setStore_recog : (s.setStore v).recog = s.recog := rfl
@[simp] theorem State.setStore_candidates : (s.setStore v).candidates = s.candidates := rfl
@[simp] theorem State.setStore_wheels : (s.setStore v).wheels = s.wheels := rfl
@[simp] theorem State.setStore_enc : (s.setStore v).enc = s.enc := rfl
@[simp] theorem State.setStore_episodes : (s.setStore v).episodes = s.episodes := rfl
@[simp] theorem State.setStore_vdm : (s.setStore v).vdm = s.vdm := rfl
@[simp] theorem State.setStore_osc : (s.setStore v).osc = s.osc := rfl
@[simp] theorem State.setStore_evq : (s.setStore v).evq = s.evq := rfl
@[simp] theorem State.setStore_store : (s.setStore v).store = v := rfl
@[simp] theorem State.setStore_link : (s.setStore v).link = s.link := rfl
@[simp] theorem State.setStore_mgu : (s.setStore v).mgu = s.mgu := rfl
@[simp] theorem State.setStore_saves : (s.setStore v).saves = s.saves := rfl
@[simp] theorem State.setStore_pending : (s.setStore v).pending = s.pending := rfl
@[simp] theorem State.setStore_now : (s.setStore v).now = s.now := rfl
@[simp] theorem State.setStore_setting (k : Setting) : (s.setStore v).setting k = s.setting k := rfl
@[simp] theorem State.setStore_wheel (r : Row) : (s.setStore v).wheel r = s.wheel r := rfl
@[simp] theorem State.setStore_episode (r : Row) : (s.setStore v).episode r = s.episode r := rfl
@[simp] theorem State.setStore_lane (l : LaneNo) : (s.setStore v).lane l = s.lane l := rfl

end

section

variable (s : State) (v : Link)

@[simp] theorem State.setLink_clock : (s.setLink v).clock = s.clock := rfl
@[simp] theorem State.setLink_phase : (s.setLink v).phase = s.phase := rfl
@[simp] theorem State.setLink_lines : (s.setLink v).lines = s.lines := rfl
@[simp] theorem State.setLink_image : (s.setLink v).image = s.image := rfl
@[simp] theorem State.setLink_tables : (s.setLink v).tables = s.tables := rfl
@[simp] theorem State.setLink_lanes : (s.setLink v).lanes = s.lanes := rfl
@[simp] theorem State.setLink_handed : (s.setLink v).handed = s.handed := rfl
@[simp] theorem State.setLink_trailer : (s.setLink v).trailer = s.trailer := rfl
@[simp] theorem State.setLink_window : (s.setLink v).window = s.window := rfl
@[simp] theorem State.setLink_recog : (s.setLink v).recog = s.recog := rfl
@[simp] theorem State.setLink_candidates : (s.setLink v).candidates = s.candidates := rfl
@[simp] theorem State.setLink_wheels : (s.setLink v).wheels = s.wheels := rfl
@[simp] theorem State.setLink_enc : (s.setLink v).enc = s.enc := rfl
@[simp] theorem State.setLink_episodes : (s.setLink v).episodes = s.episodes := rfl
@[simp] theorem State.setLink_vdm : (s.setLink v).vdm = s.vdm := rfl
@[simp] theorem State.setLink_osc : (s.setLink v).osc = s.osc := rfl
@[simp] theorem State.setLink_evq : (s.setLink v).evq = s.evq := rfl
@[simp] theorem State.setLink_store : (s.setLink v).store = s.store := rfl
@[simp] theorem State.setLink_link : (s.setLink v).link = v := rfl
@[simp] theorem State.setLink_mgu : (s.setLink v).mgu = s.mgu := rfl
@[simp] theorem State.setLink_saves : (s.setLink v).saves = s.saves := rfl
@[simp] theorem State.setLink_pending : (s.setLink v).pending = s.pending := rfl
@[simp] theorem State.setLink_now : (s.setLink v).now = s.now := rfl
@[simp] theorem State.setLink_setting (k : Setting) : (s.setLink v).setting k = s.setting k := rfl
@[simp] theorem State.setLink_wheel (r : Row) : (s.setLink v).wheel r = s.wheel r := rfl
@[simp] theorem State.setLink_episode (r : Row) : (s.setLink v).episode r = s.episode r := rfl
@[simp] theorem State.setLink_lane (l : LaneNo) : (s.setLink v).lane l = s.lane l := rfl

end

section

variable (s : State) (v : Management)

@[simp] theorem State.setMgu_clock : (s.setMgu v).clock = s.clock := rfl
@[simp] theorem State.setMgu_phase : (s.setMgu v).phase = s.phase := rfl
@[simp] theorem State.setMgu_lines : (s.setMgu v).lines = s.lines := rfl
@[simp] theorem State.setMgu_image : (s.setMgu v).image = s.image := rfl
@[simp] theorem State.setMgu_tables : (s.setMgu v).tables = s.tables := rfl
@[simp] theorem State.setMgu_lanes : (s.setMgu v).lanes = s.lanes := rfl
@[simp] theorem State.setMgu_handed : (s.setMgu v).handed = s.handed := rfl
@[simp] theorem State.setMgu_trailer : (s.setMgu v).trailer = s.trailer := rfl
@[simp] theorem State.setMgu_window : (s.setMgu v).window = s.window := rfl
@[simp] theorem State.setMgu_recog : (s.setMgu v).recog = s.recog := rfl
@[simp] theorem State.setMgu_candidates : (s.setMgu v).candidates = s.candidates := rfl
@[simp] theorem State.setMgu_wheels : (s.setMgu v).wheels = s.wheels := rfl
@[simp] theorem State.setMgu_enc : (s.setMgu v).enc = s.enc := rfl
@[simp] theorem State.setMgu_episodes : (s.setMgu v).episodes = s.episodes := rfl
@[simp] theorem State.setMgu_vdm : (s.setMgu v).vdm = s.vdm := rfl
@[simp] theorem State.setMgu_osc : (s.setMgu v).osc = s.osc := rfl
@[simp] theorem State.setMgu_evq : (s.setMgu v).evq = s.evq := rfl
@[simp] theorem State.setMgu_store : (s.setMgu v).store = s.store := rfl
@[simp] theorem State.setMgu_link : (s.setMgu v).link = s.link := rfl
@[simp] theorem State.setMgu_mgu : (s.setMgu v).mgu = v := rfl
@[simp] theorem State.setMgu_saves : (s.setMgu v).saves = s.saves := rfl
@[simp] theorem State.setMgu_pending : (s.setMgu v).pending = s.pending := rfl
@[simp] theorem State.setMgu_now : (s.setMgu v).now = s.now := rfl
@[simp] theorem State.setMgu_setting (k : Setting) : (s.setMgu v).setting k = s.setting k := rfl
@[simp] theorem State.setMgu_wheel (r : Row) : (s.setMgu v).wheel r = s.wheel r := rfl
@[simp] theorem State.setMgu_episode (r : Row) : (s.setMgu v).episode r = s.episode r := rfl
@[simp] theorem State.setMgu_lane (l : LaneNo) : (s.setMgu v).lane l = s.lane l := rfl

end

section

variable (s : State) (v : Nat)

@[simp] theorem State.setSaves_clock : (s.setSaves v).clock = s.clock := rfl
@[simp] theorem State.setSaves_phase : (s.setSaves v).phase = s.phase := rfl
@[simp] theorem State.setSaves_lines : (s.setSaves v).lines = s.lines := rfl
@[simp] theorem State.setSaves_image : (s.setSaves v).image = s.image := rfl
@[simp] theorem State.setSaves_tables : (s.setSaves v).tables = s.tables := rfl
@[simp] theorem State.setSaves_lanes : (s.setSaves v).lanes = s.lanes := rfl
@[simp] theorem State.setSaves_handed : (s.setSaves v).handed = s.handed := rfl
@[simp] theorem State.setSaves_trailer : (s.setSaves v).trailer = s.trailer := rfl
@[simp] theorem State.setSaves_window : (s.setSaves v).window = s.window := rfl
@[simp] theorem State.setSaves_recog : (s.setSaves v).recog = s.recog := rfl
@[simp] theorem State.setSaves_candidates : (s.setSaves v).candidates = s.candidates := rfl
@[simp] theorem State.setSaves_wheels : (s.setSaves v).wheels = s.wheels := rfl
@[simp] theorem State.setSaves_enc : (s.setSaves v).enc = s.enc := rfl
@[simp] theorem State.setSaves_episodes : (s.setSaves v).episodes = s.episodes := rfl
@[simp] theorem State.setSaves_vdm : (s.setSaves v).vdm = s.vdm := rfl
@[simp] theorem State.setSaves_osc : (s.setSaves v).osc = s.osc := rfl
@[simp] theorem State.setSaves_evq : (s.setSaves v).evq = s.evq := rfl
@[simp] theorem State.setSaves_store : (s.setSaves v).store = s.store := rfl
@[simp] theorem State.setSaves_link : (s.setSaves v).link = s.link := rfl
@[simp] theorem State.setSaves_mgu : (s.setSaves v).mgu = s.mgu := rfl
@[simp] theorem State.setSaves_saves : (s.setSaves v).saves = v := rfl
@[simp] theorem State.setSaves_pending : (s.setSaves v).pending = s.pending := rfl
@[simp] theorem State.setSaves_now : (s.setSaves v).now = s.now := rfl
@[simp] theorem State.setSaves_setting (k : Setting) : (s.setSaves v).setting k = s.setting k := rfl
@[simp] theorem State.setSaves_wheel (r : Row) : (s.setSaves v).wheel r = s.wheel r := rfl
@[simp] theorem State.setSaves_episode (r : Row) : (s.setSaves v).episode r = s.episode r := rfl
@[simp] theorem State.setSaves_lane (l : LaneNo) : (s.setSaves v).lane l = s.lane l := rfl

end

section

variable (s : State) (v : List Instr)

@[simp] theorem State.setPending_clock : (s.setPending v).clock = s.clock := rfl
@[simp] theorem State.setPending_phase : (s.setPending v).phase = s.phase := rfl
@[simp] theorem State.setPending_lines : (s.setPending v).lines = s.lines := rfl
@[simp] theorem State.setPending_image : (s.setPending v).image = s.image := rfl
@[simp] theorem State.setPending_tables : (s.setPending v).tables = s.tables := rfl
@[simp] theorem State.setPending_lanes : (s.setPending v).lanes = s.lanes := rfl
@[simp] theorem State.setPending_handed : (s.setPending v).handed = s.handed := rfl
@[simp] theorem State.setPending_trailer : (s.setPending v).trailer = s.trailer := rfl
@[simp] theorem State.setPending_window : (s.setPending v).window = s.window := rfl
@[simp] theorem State.setPending_recog : (s.setPending v).recog = s.recog := rfl
@[simp] theorem State.setPending_candidates : (s.setPending v).candidates = s.candidates := rfl
@[simp] theorem State.setPending_wheels : (s.setPending v).wheels = s.wheels := rfl
@[simp] theorem State.setPending_enc : (s.setPending v).enc = s.enc := rfl
@[simp] theorem State.setPending_episodes : (s.setPending v).episodes = s.episodes := rfl
@[simp] theorem State.setPending_vdm : (s.setPending v).vdm = s.vdm := rfl
@[simp] theorem State.setPending_osc : (s.setPending v).osc = s.osc := rfl
@[simp] theorem State.setPending_evq : (s.setPending v).evq = s.evq := rfl
@[simp] theorem State.setPending_store : (s.setPending v).store = s.store := rfl
@[simp] theorem State.setPending_link : (s.setPending v).link = s.link := rfl
@[simp] theorem State.setPending_mgu : (s.setPending v).mgu = s.mgu := rfl
@[simp] theorem State.setPending_saves : (s.setPending v).saves = s.saves := rfl
@[simp] theorem State.setPending_pending : (s.setPending v).pending = v := rfl
@[simp] theorem State.setPending_now : (s.setPending v).now = s.now := rfl
@[simp] theorem State.setPending_setting (k : Setting) : (s.setPending v).setting k = s.setting k := rfl
@[simp] theorem State.setPending_wheel (r : Row) : (s.setPending v).wheel r = s.wheel r := rfl
@[simp] theorem State.setPending_episode (r : Row) : (s.setPending v).episode r = s.episode r := rfl
@[simp] theorem State.setPending_lane (l : LaneNo) : (s.setPending v).lane l = s.lane l := rfl

end

/-! ### Readers after an update of their own field -/

@[simp] theorem State.setClock_now (s : State) (v : BitVec 40) : (s.setClock v).now = v.toNat := rfl
@[simp] theorem State.setTables_setting (s : State) (v : Tables) (k : Setting) :
    (s.setTables v).setting k = v.settings[k.item] := rfl
@[simp] theorem State.setWheels_wheel (s : State) (v : Vector WheelRecord 32) (r : Row) : (s.setWheels v).wheel r = v[r] := rfl
@[simp] theorem State.setEpisodes_episode (s : State) (v : Vector Episode 32) (r : Row) :
    (s.setEpisodes v).episode r = v[r] := rfl
@[simp] theorem State.setLanes_lane (s : State) (v : Vector Lane 4) (l : LaneNo) : (s.setLanes v).lane l = v[l] := rfl

/-! ### An update with the value held -/

@[simp] theorem State.setClock_self (s : State) : s.setClock s.clock = s := rfl
@[simp] theorem State.setPhase_self (s : State) : s.setPhase s.phase = s := rfl
@[simp] theorem State.setLines_self (s : State) : s.setLines s.lines = s := rfl
@[simp] theorem State.setImage_self (s : State) : s.setImage s.image = s := rfl
@[simp] theorem State.setTables_self (s : State) : s.setTables s.tables = s := rfl
@[simp] theorem State.setLanes_self (s : State) : s.setLanes s.lanes = s := rfl
@[simp] theorem State.setHanded_self (s : State) : s.setHanded s.handed = s := rfl
@[simp] theorem State.setTrailer_self (s : State) : s.setTrailer s.trailer = s := rfl
@[simp] theorem State.setWindow_self (s : State) : s.setWindow s.window = s := rfl
@[simp] theorem State.setRecog_self (s : State) : s.setRecog s.recog = s := rfl
@[simp] theorem State.setCandidates_self (s : State) : s.setCandidates s.candidates = s := rfl
@[simp] theorem State.setWheels_self (s : State) : s.setWheels s.wheels = s := rfl
@[simp] theorem State.setEnc_self (s : State) : s.setEnc s.enc = s := rfl
@[simp] theorem State.setEpisodes_self (s : State) : s.setEpisodes s.episodes = s := rfl
@[simp] theorem State.setVdm_self (s : State) : s.setVdm s.vdm = s := rfl
@[simp] theorem State.setOsc_self (s : State) : s.setOsc s.osc = s := rfl
@[simp] theorem State.setEvq_self (s : State) : s.setEvq s.evq = s := rfl
@[simp] theorem State.setStore_self (s : State) : s.setStore s.store = s := rfl
@[simp] theorem State.setLink_self (s : State) : s.setLink s.link = s := rfl
@[simp] theorem State.setMgu_self (s : State) : s.setMgu s.mgu = s := rfl
@[simp] theorem State.setSaves_self (s : State) : s.setSaves s.saves = s := rfl
@[simp] theorem State.setPending_self (s : State) : s.setPending s.pending = s := rfl

/-! ### Read after write of one element -/

/-- A vector written at one index and read at another. -/
theorem vector_set_get {α : Type} {n : Nat} (v : Vector α n) (i j : Fin n) (x : α) :
    (v.set i x)[j] = if j = i then x else v[j] := by
  obtain ⟨i, hi⟩ := i
  obtain ⟨j, hj⟩ := j
  simp [Vector.getElem_set, eq_comm]

theorem putWheel_wheel (r q : Row) (w : WheelRecord) (s : State) :
    (putWheel r w s).wheel q = if q = r then w else s.wheel q := vector_set_get _ _ _ _

theorem putEpisode_episode (r q : Row) (e : Episode) (s : State) :
    (putEpisode r e s).episode q = if q = r then e else s.episode q := vector_set_get _ _ _ _

theorem putLane_lane (l m : LaneNo) (v : Lane) (s : State) :
    (putLane l v s).lane m = if m = l then v else s.lane m := vector_set_get _ _ _ _

theorem mapWheels_wheel (f : Row → WheelRecord → WheelRecord) (s : State) (r : Row) :
    (mapWheels f s).wheel r = f r (s.wheel r) := by
  simp [mapWheels]

end Sys2Proof.Machine
end

