-- ==== Sys2Proof/Laws/Frames.lean ====
section
/-! SUPPORT. What each shared operation leaves alone: the fields it may change, and that it touches the event queue by entering events
alone. -/

namespace Sys2Proof.Machine

/-- The fields of the state, by name. -/
inductive Field where
  | clock
  | phase
  | lines
  | image
  | tables
  | lanes
  | handed
  | trailer
  | window
  | recog
  | candidates
  | wheels
  | enc
  | episodes
  | vdm
  | osc
  | evq
  | store
  | link
  | mgu
  | saves
  | pending
deriving DecidableEq, Repr

/-- Two states hold the same in a field. -/
def Agree (s t : State) : Field → Prop
  | .clock => t.clock = s.clock
  | .phase => t.phase = s.phase
  | .lines => t.lines = s.lines
  | .image => t.image = s.image
  | .tables => t.tables = s.tables
  | .lanes => t.lanes = s.lanes
  | .handed => t.handed = s.handed
  | .trailer => t.trailer = s.trailer
  | .window => t.window = s.window
  | .recog => t.recog = s.recog
  | .candidates => t.candidates = s.candidates
  | .wheels => t.wheels = s.wheels
  | .enc => t.enc = s.enc
  | .episodes => t.episodes = s.episodes
  | .vdm => t.vdm = s.vdm
  | .osc => t.osc = s.osc
  | .evq => t.evq = s.evq
  | .store => t.store = s.store
  | .link => t.link = s.link
  | .mgu => t.mgu = s.mgu
  | .saves => t.saves = s.saves
  | .pending => t.pending = s.pending

theorem Agree.refl (s : State) (f : Field) : Agree s s f := by cases f <;> rfl

theorem Agree.trans {s t u : State} {f : Field} (h : Agree s t f) (k : Agree t u f) : Agree s u f := by
  cases f <;> exact Eq.trans k h

/-- From `s` to `t` only the fields named may change, and events are entered in the queue, none removed otherwise. -/
structure Frame (changed : List Field) (s t : State) : Prop where
  keeps : ∀ f, f ∉ changed → Agree s t f
  pushes : ∃ es : List Event, t.evq = es.foldl (fun q e => pushEvent e q) s.evq

namespace Frame

variable {c d : List Field} {s t u : State}

theorem refl (c : List Field) (s : State) : Frame c s s := ⟨fun f _ => .refl s f, [], rfl⟩

theorem trans (h : Frame c s t) (k : Frame c t u) : Frame c s u := by
  obtain ⟨es, he⟩ := h.pushes
  obtain ⟨fs, hf⟩ := k.pushes
  exact ⟨fun f hc => (h.keeps f hc).trans (k.keeps f hc), es ++ fs, by rw [hf, he, List.foldl_append]⟩

theorem mono (h : Frame c s t) (hcd : ∀ f ∈ c, f ∈ d) : Frame d s t :=
  ⟨fun f hd => h.keeps f fun hc => hd (hcd f hc), h.pushes⟩

theorem ite {p : Prop} [Decidable p] (h : Frame c s t) (k : Frame c s u) : Frame c s (if p then t else u) := by
  split <;> assumption

/-- An operation that does not touch the event queue. -/
theorem quiet (h : ∀ f, f ∉ c → Agree s t f) (e : t.evq = s.evq) : Frame c s t := ⟨h, [], e⟩

/-- An operation that enters one event. -/
theorem one {e : Event} (h : ∀ f, f ∉ c → Agree s t f) (k : t.evq = pushEvent e s.evq) : Frame c s t := ⟨h, [e], k⟩

/-- A list of things, each acted on in turn. -/
theorem foldl {α : Type} (f : State → α → State) (h : ∀ s x, Frame c s (f s x)) (l : List α) (s : State) :
    Frame c s (l.foldl f s) := by
  induction l generalizing s with
  | nil => exact refl c s
  | cons x l ih => exact (h s x).trans (ih (f s x))

theorem forRows (f : Row → State → State) (h : ∀ r s, Frame c s (f r s)) (rows : List Row) (s : State) :
    Frame c s (Machine.forRows f rows s) := foldl _ (fun s r => h r s) rows s

/-! ### A field that is not named is as it was -/

theorem clock (h : Frame c s t) (k : Field.clock ∉ c := by decide) : t.clock = s.clock := h.keeps .clock k
theorem phase (h : Frame c s t) (k : Field.phase ∉ c := by decide) : t.phase = s.phase := h.keeps .phase k
theorem lines (h : Frame c s t) (k : Field.lines ∉ c := by decide) : t.lines = s.lines := h.keeps .lines k
theorem image (h : Frame c s t) (k : Field.image ∉ c := by decide) : t.image = s.image := h.keeps .image k
theorem tables (h : Frame c s t) (k : Field.tables ∉ c := by decide) : t.tables = s.tables := h.keeps .tables k
theorem lanes (h : Frame c s t) (k : Field.lanes ∉ c := by decide) : t.lanes = s.lanes := h.keeps .lanes k
theorem handed (h : Frame c s t) (k : Field.handed ∉ c := by decide) : t.handed = s.handed := h.keeps .handed k
theorem trailer (h : Frame c s t) (k : Field.trailer ∉ c := by decide) : t.trailer = s.trailer := h.keeps .trailer k
theorem window (h : Frame c s t) (k : Field.window ∉ c := by decide) : t.window = s.window := h.keeps .window k
theorem recog (h : Frame c s t) (k : Field.recog ∉ c := by decide) : t.recog = s.recog := h.keeps .recog k
theorem candidates (h : Frame c s t) (k : Field.candidates ∉ c := by decide) : t.candidates = s.candidates := h.keeps .candidates k
theorem wheels (h : Frame c s t) (k : Field.wheels ∉ c := by decide) : t.wheels = s.wheels := h.keeps .wheels k
theorem enc (h : Frame c s t) (k : Field.enc ∉ c := by decide) : t.enc = s.enc := h.keeps .enc k
theorem episodes (h : Frame c s t) (k : Field.episodes ∉ c := by decide) : t.episodes = s.episodes := h.keeps .episodes k
theorem vdm (h : Frame c s t) (k : Field.vdm ∉ c := by decide) : t.vdm = s.vdm := h.keeps .vdm k
theorem osc (h : Frame c s t) (k : Field.osc ∉ c := by decide) : t.osc = s.osc := h.keeps .osc k
theorem evq (h : Frame c s t) (k : Field.evq ∉ c := by decide) : t.evq = s.evq := h.keeps .evq k
theorem store (h : Frame c s t) (k : Field.store ∉ c := by decide) : t.store = s.store := h.keeps .store k
theorem link (h : Frame c s t) (k : Field.link ∉ c := by decide) : t.link = s.link := h.keeps .link k
theorem mgu (h : Frame c s t) (k : Field.mgu ∉ c := by decide) : t.mgu = s.mgu := h.keeps .mgu k
theorem saves (h : Frame c s t) (k : Field.saves ∉ c := by decide) : t.saves = s.saves := h.keeps .saves k
theorem pending (h : Frame c s t) (k : Field.pending ∉ c := by decide) : t.pending = s.pending := h.keeps .pending k

theorem now (h : Frame c s t) (k : Field.clock ∉ c := by decide) : t.now = s.now := congrArg BitVec.toNat (h.clock k)
theorem setting (h : Frame c s t) (x : Setting) (k : Field.tables ∉ c := by decide) : t.setting x = s.setting x := by
  simp only [State.setting, h.tables k]
theorem wheel (h : Frame c s t) (r : Row) (k : Field.wheels ∉ c := by decide) : t.wheel r = s.wheel r := by
  simp only [State.wheel, h.wheels k]

end Frame

/-! ### One field at a time -/

theorem setClock_frame (v : BitVec 40) (s : State) : Frame [.clock] s (s.setClock v) :=
  .quiet (by intro f hf; cases f <;> first | exact absurd (by decide) hf | rfl) rfl

theorem setPhase_frame (v : Phase) (s : State) : Frame [.phase] s (s.setPhase v) :=
  .quiet (by intro f hf; cases f <;> first | exact absurd (by decide) hf | rfl) rfl

theorem setLines_frame (v : Lines) (s : State) : Frame [.lines] s (s.setLines v) :=
  .quiet (by intro f hf; cases f <;> first | exact absurd (by decide) hf | rfl) rfl

theorem setImage_frame (v : Image) (s : State) : Frame [.image] s (s.setImage v) :=
  .quiet (by intro f hf; cases f <;> first | exact absurd (by decide) hf | rfl) rfl

theorem setTables_frame (v : Tables) (s : State) : Frame [.tables] s (s.setTables v) :=
  .quiet (by intro f hf; cases f <;> first | exact absurd (by decide) hf | rfl) rfl

theorem setLanes_frame (v : Vector Lane 4) (s : State) : Frame [.lanes] s (s.setLanes v) :=
  .quiet (by intro f hf; cases f <;> first | exact absurd (by decide) hf | rfl) rfl

theorem setHanded_frame (v : List TelegramRecord) (s : State) : Frame [.handed] s (s.setHanded v) :=
  .quiet (by intro f hf; cases f <;> first | exact absurd (by decide) hf | rfl) rfl

theorem setTrailer_frame (v : TrailerState) (s : State) : Frame [.trailer] s (s.setTrailer v) :=
  .quiet (by intro f hf; cases f <;> first | exact absurd (by decide) hf | rfl) rfl

theorem setWindow_frame (v : Option Millis) (s : State) : Frame [.window] s (s.setWindow v) :=
  .quiet (by intro f hf; cases f <;> first | exact absurd (by decide) hf | rfl) rfl

theorem setRecog_frame (v : Vector RecogEntry 4) (s : State) : Frame [.recog] s (s.setRecog v) :=
  .quiet (by intro f hf; cases f <;> first | exact absurd (by decide) hf | rfl) rfl

theorem setCandidates_frame (v : List Candidate) (s : State) : Frame [.candidates] s (s.setCandidates v) :=
  .quiet (by intro f hf; cases f <;> first | exact absurd (by decide) hf | rfl) rfl

theorem setWheels_frame (v : Vector WheelRecord 32) (s : State) : Frame [.wheels] s (s.setWheels v) :=
  .quiet (by intro f hf; cases f <;> first | exact absurd (by decide) hf | rfl) rfl

theorem setEnc_frame (v : Enrolment) (s : State) : Frame [.enc] s (s.setEnc v) :=
  .quiet (by intro f hf; cases f <;> first | exact absurd (by decide) hf | rfl) rfl

theorem setEpisodes_frame (v : Vector Episode 32) (s : State) : Frame [.episodes] s (s.setEpisodes v) :=
  .quiet (by intro f hf; cases f <;> first | exact absurd (by decide) hf | rfl) rfl

theorem setVdm_frame (v : VehicleData) (s : State) : Frame [.vdm] s (s.setVdm v) :=
  .quiet (by intro f hf; cases f <;> first | exact absurd (by decide) hf | rfl) rfl

theorem setOsc_frame (v : Controller) (s : State) : Frame [.osc] s (s.setOsc v) :=
  .quiet (by intro f hf; cases f <;> first | exact absurd (by decide) hf | rfl) rfl

theorem setStore_frame (v : Store) (s : State) : Frame [.store] s (s.setStore v) :=
  .quiet (by intro f hf; cases f <;> first | exact absurd (by decide) hf | rfl) rfl

theorem setLink_frame (v : Link) (s : State) : Frame [.link] s (s.setLink v) :=
  .quiet (by intro f hf; cases f <;> first | exact absurd (by decide) hf | rfl) rfl

theorem setMgu_frame (v : Management) (s : State) : Frame [.mgu] s (s.setMgu v) :=
  .quiet (by intro f hf; cases f <;> first | exact absurd (by decide) hf | rfl) rfl

theorem setSaves_frame (v : Nat) (s : State) : Frame [.saves] s (s.setSaves v) :=
  .quiet (by intro f hf; cases f <;> first | exact absurd (by decide) hf | rfl) rfl

theorem setPending_frame (v : List Instr) (s : State) : Frame [.pending] s (s.setPending v) :=
  .quiet (by intro f hf; cases f <;> first | exact absurd (by decide) hf | rfl) rfl

/-- An event enters the queue. -/
theorem setEvq_frame (e : Event) (s : State) : Frame [.evq] s (s.setEvq (pushEvent e s.evq)) :=
  .one (by intro f hf; cases f <;> first | exact absurd (by decide) hf | rfl) rfl

/-! ### Shared operations (Ops.lean) -/

theorem putWheel_frame (r : Row) (w : WheelRecord) (s : State) : Frame [.wheels] s (putWheel r w s) := setWheels_frame _ s

theorem putEpisode_frame (r : Row) (e : Episode) (s : State) : Frame [.episodes] s (putEpisode r e s) :=
  setEpisodes_frame _ s

theorem putLane_frame (l : LaneNo) (v : Lane) (s : State) : Frame [.lanes] s (putLane l v s) := setLanes_frame _ s

theorem mapWheels_frame (f : Row → WheelRecord → WheelRecord) (s : State) : Frame [.wheels] s (mapWheels f s) :=
  setWheels_frame _ s

theorem raiseEvent_frame (k : EventKind) (r : Option Row) (v : Option Nat) (s : State) :
    Frame [.evq] s (raiseEvent k r v s) := setEvq_frame _ s

theorem raiseCondition_frame (r : Row) (c : Condition) (on : Bool) (s : State) :
    Frame [.evq] s (raiseCondition r c on s) := setEvq_frame _ s

theorem notice_frame (a : Activity) (s : State) : Frame [.osc] s (notice a s) :=
  .ite (setOsc_frame _ s) (.refl _ s)

theorem queueAlert_frame (r : Row) (s : State) : Frame [.link] s (queueAlert r s) := setLink_frame _ s

theorem queueStatus_frame (r : Row) (s : State) : Frame [.link] s (queueStatus r s) := setLink_frame _ s

theorem queuePartStatus_frame (s : State) : Frame [.link] s (queuePartStatus s) := setLink_frame _ s

theorem respond_frame (code tag : Byte) (result : ResultCode) (data : List Byte) (s : State) :
    Frame [.link] s (respond code tag result data s) := setLink_frame _ s

theorem markDirty_frame (s : State) : Frame [.store] s (markDirty s) := setStore_frame _ s

theorem startSave_frame (s : State) : Frame [.store, .saves] s (startSave s) :=
  ((setStore_frame _ s).mono (by decide)).trans ((setSaves_frame _ _).mono (by decide))

theorem requestSave_frame (s : State) : Frame [.store, .saves] s (requestSave s) :=
  .ite (startSave_frame s) ((setStore_frame _ s).mono (by decide))

theorem cutSave_frame (s : State) : Frame [.image] s (cutSave s) := .ite (setImage_frame _ s) (.refl _ s)

theorem putEntry_frame (k : EntryNo) (e : RosterEntry) (s : State) : Frame [.tables] s (putEntry k e s) :=
  setTables_frame _ s

theorem writeRowId_frame (r : Row) (id : Option SensorId) (s : State) : Frame [.tables] s (writeRowId r id s) := by
  unfold writeRowId
  split
  · exact setTables_frame _ s
  · split
    · exact putEntry_frame _ _ s
    · exact .refl _ s

/-! ### Wheel evaluation (Wheels.lean) -/

theorem announceAlert_frame (r : Row) (s : State) : Frame [.link, .wheels] s (announceAlert r s) :=
  ((queueAlert_frame r s).mono (by decide)).trans (.ite (.refl _ _) ((putWheel_frame _ _ _).mono (by decide)))

theorem reannounce_frame (r : Row) (s : State) : Frame [.link, .wheels] s (reannounce r s) :=
  .ite (.refl _ s) (((putWheel_frame _ _ s).mono (by decide)).trans (.ite (announceAlert_frame r _) (.refl _ _)))

theorem goStale_frame (r : Row) (s : State) : Frame [.wheels] s (goStale r s) := putWheel_frame _ _ s

theorem setCondition_frame (r : Row) (c : Condition) (on : Bool) (s : State) :
    Frame [.wheels, .evq, .osc] s (setCondition r c on s) :=
  (((putWheel_frame _ _ s).mono (by decide)).trans ((raiseCondition_frame r c on _).mono (by decide))).trans
    (.ite ((notice_frame _ _).mono (by decide)) (.refl _ _))

theorem clearIfActive_frame (r : Row) (c : Condition) (s : State) :
    Frame [.wheels, .evq, .osc] s (clearIfActive r c s) := .ite (setCondition_frame r c false s) (.refl _ s)

/-- The fields the conditions and announcements of a wheel can reach. -/
abbrev wheelFields : List Field := [.wheels, .evq, .osc, .link]

theorem goMissing_frame (r : Row) (s : State) : Frame wheelFields s (goMissing r s) :=
  (((putWheel_frame _ _ s).mono (by decide)).trans ((setCondition_frame _ _ _ _).mono (by decide))).trans
    ((reannounce_frame _ _).mono (by decide))

theorem retimeRow_frame (before : State) (r : Row) (s : State) : Frame wheelFields s (retimeRow before r s) := by
  unfold retimeRow
  refine .ite (.refl _ s) (.ite ((putWheel_frame _ _ s).mono (by decide)) ?_)
  extract_lets a b
  have ha : Frame wheelFields s a := (putWheel_frame _ _ s).mono (by decide)
  have hb : Frame wheelFields a b := .ite ((goStale_frame r _).mono (by decide)) (.refl _ _)
  exact (ha.trans hb).trans (.ite (goMissing_frame r _) (.refl _ _))

theorem retime_frame (before s : State) : Frame wheelFields s (retime before s) :=
  .forRows _ (fun r s => retimeRow_frame before r s) allRows s

theorem restartOne_frame (r : Row) (s : State) : Frame (.episodes :: wheelFields) s (restartOne r s) :=
  (((putWheel_frame _ _ s).mono (by decide)).trans ((putEpisode_frame _ _ _).mono (by decide))).trans
    ((reannounce_frame _ _).mono (by decide))

theorem restartPartner_frame (rows : List Row) (r : Row) (s : State) : Frame wheelFields s (restartPartner rows r s) :=
  .ite (((clearIfActive_frame _ _ s).mono (by decide)).trans ((reannounce_frame _ _).mono (by decide))) (.refl _ s)

theorem restartRows_frame (rows : List Row) (s : State) : Frame (.episodes :: wheelFields) s (restartRows rows s) :=
  (Frame.forRows _ (fun r s => (restartPartner_frame rows r s).mono (by decide)) rows s).trans
    (.forRows _ (fun r s => restartOne_frame r s) rows _)

theorem setCounter_frame (r : Row) (c : Condition) (n : Nat) (s : State) : Frame [.wheels] s (setCounter r c n s) :=
  putWheel_frame _ _ s

theorem setImbalance_frame (r : Row) (on : Bool) (s : State) : Frame [.wheels, .evq, .osc] s (setImbalance r on s) :=
  (setCondition_frame _ _ _ s).trans (setCondition_frame _ _ _ _)

theorem judgeOne_frame (r : Row) (low : Bool) (c : Condition) (s : State) :
    Frame [.wheels, .evq, .osc] s (judgeOne r low c s) := by
  unfold judgeOne
  refine .ite (clearIfActive_frame r _ s) (.ite (.refl _ s) (.ite ((setCounter_frame _ _ _ s).mono (by decide)) ?_))
  exact .ite (setImbalance_frame r _ s) (setCondition_frame r c _ s)

theorem judgeAll_frame (r : Row) (low : Bool) (s : State) : Frame [.wheels, .evq, .osc] s (judgeAll r low s) :=
  .foldl _ (fun s c => judgeOne_frame r low c s) _ s

theorem writeMeasurement_frame (r : Row) (t : TelegramRecord) (x : Computed) (s : State) :
    Frame [.wheels, .evq, .osc, .episodes] s (writeMeasurement r t x s) :=
  ((putWheel_frame _ _ s).mono (by decide)).trans
    (.ite (((clearIfActive_frame r _ _).mono (by decide)).trans ((putEpisode_frame _ _ _).mono (by decide))) (.refl _ _))

theorem updateTrend_frame (r : Row) (t : TelegramRecord) (x : Computed) (s : State) :
    Frame [.wheels, .evq, .osc] s (updateTrend r t x s) := by
  unfold updateTrend
  refine .ite (.refl _ s) (.ite ((putWheel_frame _ _ s).mono (by decide)) ?_)
  refine ((putWheel_frame _ _ s).mono (by decide)).trans (.ite ?_ (.refl _ _))
  exact (((raiseEvent_frame _ _ _ _).mono (by decide)).trans ((setCounter_frame _ _ _ _).mono (by decide))).trans
    (clearIfActive_frame r _ _)

theorem noticeChange_frame (old new : Pu) (s : State) : Frame [.osc] s (noticeChange old new s) :=
  .ite (notice_frame _ s) (.refl _ s)

theorem measure_frame (r : Row) (t : TelegramRecord) (s : State) : Frame (.episodes :: wheelFields) s (measure r t s) := by
  unfold measure
  refine Frame.trans ?_ ((noticeChange_frame _ _ _).mono (by decide))
  refine Frame.trans ?_ ((reannounce_frame _ _).mono (by decide))
  refine Frame.trans ?_ ((reannounce_frame _ _).mono (by decide))
  refine Frame.trans ?_ ((judgeAll_frame _ _ _).mono (by decide))
  exact ((writeMeasurement_frame r t _ s).mono (by decide)).trans ((updateTrend_frame _ _ _ _).mono (by decide))

theorem reevaluateOne_frame (r : Row) (c : Condition) (s : State) :
    Frame [.wheels, .evq, .osc] s (reevaluateOne r c s) := by
  unfold reevaluateOne
  refine .ite (clearIfActive_frame r _ s) (.ite (.refl _ s) (.ite (.ite (setImbalance_frame r _ s) (.refl _ s)) ?_))
  exact .ite (.ite (setCondition_frame r c _ s) (.refl _ s)) (.ite (setCondition_frame r c _ s) (.refl _ s))

theorem reevaluateWheel_frame (r : Row) (s : State) : Frame [.wheels, .evq, .osc] s (reevaluateWheel r s) :=
  .foldl _ (fun s c => reevaluateOne_frame r c s) _ s

theorem clearLimitCounters_frame (r : Row) (s : State) : Frame [.wheels] s (clearLimitCounters r s) :=
  .foldl _ (fun s c => setCounter_frame r c 0 s) _ s

theorem reannounceRows_frame (rows : List Row) (s : State) : Frame wheelFields s (forRows reannounce rows s) :=
  .forRows _ (fun r s => (reannounce_frame r s).mono (by decide)) rows s

theorem reevaluate_frame (rows : List Row) (s : State) : Frame wheelFields s (reevaluate rows s) := by
  unfold reevaluate
  refine Frame.trans ?_ (reannounceRows_frame _ _)
  refine Frame.trans ?_ (.forRows _ (fun r s => (clearLimitCounters_frame r s).mono (by decide)) _ _)
  exact (Frame.forRows _ (fun r s => (reevaluateWheel_frame r s).mono (by decide)) _ s).trans
    (.forRows _ (fun r s => (reevaluateOne_frame r .imbalance s).mono (by decide)) _ _)

theorem raiseWheel_frame (r : Row) (s : State) : Frame [.wheels, .evq, .osc] s (raiseWheel r s) :=
  (clearIfActive_frame r _ s).trans (clearIfActive_frame r _ _)

theorem raisePair_frame (r : Row) (s : State) : Frame [.wheels, .evq, .osc] s (raisePair r s) :=
  .ite (setImbalance_frame r _ s) (.refl _ s)

theorem raiseRest_frame (before : State) (r : Row) (s : State) : Frame wheelFields s (raiseRest before r s) := by
  unfold raiseRest
  refine Frame.trans ?_ (retimeRow_frame before r _)
  refine Frame.trans ?_ ((putWheel_frame _ _ _).mono (by decide))
  refine Frame.trans ?_ ((setCounter_frame _ _ _ _).mono (by decide))
  exact ((setCounter_frame _ _ _ s).mono (by decide)).trans ((setCounter_frame _ _ _ _).mono (by decide))

theorem raiseRows_frame (before : State) (rows : List Row) (s : State) : Frame wheelFields s (raiseRows before rows s) := by
  unfold raiseRows
  refine Frame.trans ?_ (reannounceRows_frame _ _)
  refine Frame.trans ?_ (.forRows _ (fun r s => raiseRest_frame before r s) _ _)
  exact (Frame.forRows _ (fun r s => (raiseWheel_frame r s).mono (by decide)) _ s).trans
    (.forRows _ (fun r s => (raisePair_frame r s).mono (by decide)) _ _)

theorem lowerRows_frame (before : State) (rows : List Row) (s : State) : Frame wheelFields s (lowerRows before rows s) :=
  (reevaluate_frame rows s).trans (.forRows _ (fun r s => retimeRow_frame before r s) _ _)

theorem liftAxle_frame (before : State) (a : AxleNo) (s : State) : Frame wheelFields s (liftAxle before a s) :=
  .ite (.refl _ s) (.ite (raiseRows_frame before _ s) (lowerRows_frame before _ s))

theorem liftChange_frame (before s : State) : Frame wheelFields s (liftChange before s) :=
  .ite (.refl _ s) (.foldl _ (fun s a => liftAxle_frame before a s) _ s)

/-! ### Proposals (Proposals.lean) -/

/-- The fields a proposal search can reach. -/
abbrev searchFields : List Field := [.evq, .enc, .episodes]

theorem openProposal_frame (r : Row) (id : SensorId) (s : State) : Frame searchFields s (openProposal r id s) :=
  ((setEnc_frame _ s).mono (by decide)).trans ((raiseEvent_frame _ _ _ _).mono (by decide))

theorem reportAmbiguous_frame (r : Row) (n : Nat) (s : State) : Frame searchFields s (reportAmbiguous r n s) :=
  .ite (.refl _ s) (((putEpisode_frame _ _ s).mono (by decide)).trans ((raiseEvent_frame _ _ _ _).mono (by decide)))

theorem searchRows_frame (rows : List Row) (s : State) : Frame searchFields s (searchRows rows s) := by
  induction rows generalizing s with
  | nil => exact .refl _ s
  | cons r rest ih =>
    unfold searchRows
    refine .ite (ih s) ?_
    split
    · exact ih s
    · exact openProposal_frame _ _ s
    · exact (reportAmbiguous_frame _ _ s).trans (ih _)

theorem search_frame (s : State) : Frame searchFields s (search s) := .ite (searchRows_frame _ s) (.refl _ s)

theorem withdraw_frame (s : State) : Frame searchFields s (withdraw s) := by
  unfold withdraw
  split
  · exact ((setEnc_frame _ s).mono (by decide)).trans ((raiseEvent_frame _ _ _ _).mono (by decide))
  · exact .refl _ s

theorem settleProposal_frame (s : State) : Frame searchFields s (settleProposal s) := by
  unfold settleProposal
  split
  · exact .ite (.refl _ s) ((withdraw_frame s).trans (search_frame _))
  · exact .refl _ s

theorem dueAfterWrite_frame (before s : State) : Frame searchFields s (dueAfterWrite before s) :=
  ((setEpisodes_frame _ s).mono (by decide)).trans (.ite (.refl _ _) (search_frame _))

/-! ### Operating states and sessions (Modes.lean, Sessions.lean) -/

theorem enterWheels_frame (old n : OpState) (s : State) : Frame [.wheels] s (enterWheels old n s) :=
  Frame.trans (t := ite _ (mapWheels _ s) s) (.ite (mapWheels_frame _ s) (.refl _ s)) (mapWheels_frame _ _)

theorem enterVdm_frame (old n : OpState) (s : State) : Frame [.vdm] s (enterVdm old n s) :=
  .ite (setVdm_frame _ s) (.ite (setVdm_frame _ s) (.refl _ s))

theorem enterLink_frame (old n : OpState) (s : State) : Frame [.link] s (enterLink old n s) :=
  (setLink_frame _ s).trans (.ite (queuePartStatus_frame _) (.refl _ _))

/-- The fields a change of the operating state can reach. -/
abbrev modeFields : List Field := [.evq, .osc, .lanes, .wheels, .vdm, .link]

theorem enterState_frame (n : OpState) (s : State) : Frame modeFields s (enterState n s) := by
  unfold enterState
  refine Frame.trans ?_ ((enterLink_frame _ _ _).mono (by decide))
  refine Frame.trans ?_ ((enterVdm_frame _ _ _).mono (by decide))
  refine Frame.trans ?_ ((enterWheels_frame _ _ _).mono (by decide))
  refine Frame.trans ?_ ((setLanes_frame _ _).mono (by decide))
  exact ((raiseEvent_frame _ _ _ s).mono (by decide)).trans ((setOsc_frame _ _).mono (by decide))

theorem sessionClosed_frame (s : State) : Frame modeFields s (sessionClosed s) :=
  .ite (((setOsc_frame _ s).mono (by decide)).trans (.ite (.refl _ _) (enterState_frame _ _))) (.refl _ s)

theorem parkDelayDone_frame (s : State) : Frame modeFields s (parkDelayDone s) :=
  ((setOsc_frame _ s).mono (by decide)).trans (.ite ((setOsc_frame _ _).mono (by decide)) (enterState_frame _ _))

/-- The fields the end of a session can reach. -/
abbrev endFields : List Field := .enc :: .episodes :: modeFields

theorem endSession_frame (how : Ending) (s : State) : Frame endFields s (endSession how s) := by
  unfold endSession
  split
  · exact .refl _ s
  · refine Frame.trans ?_ ((search_frame _).mono (by decide))
    refine Frame.trans ?_ ((sessionClosed_frame _).mono (by decide))
    exact ((setEnc_frame _ s).mono (by decide)).trans ((raiseEvent_frame _ _ _ _).mono (by decide))

theorem sessionMoved_frame (s : State) : Frame endFields s (sessionMoved s) := .ite (endSession_frame _ s) (.refl _ s)

theorem sessionTrailerLost_frame (s : State) : Frame endFields s (sessionTrailerLost s) :=
  .ite (endSession_frame _ s) (.refl _ s)

theorem applyPairs_frame (pairs : List EnrolPair) (s : State) : Frame [.tables] s (applyPairs pairs s) :=
  (Frame.forRows _ (fun r s => writeRowId_frame r none s) _ s).trans
    (.foldl _ (fun s (p : EnrolPair) => writeRowId_frame p.row (some p.id) s) _ _)

/-- The fields a completion can reach. -/
abbrev completionFields : List Field := .tables :: .candidates :: .store :: .saves :: endFields

theorem applyCompletion_frame (i : Nat) (s : State) : Frame completionFields s (applyCompletion i s) := by
  unfold applyCompletion
  refine Frame.trans ?_ ((search_frame _).mono (by decide))
  refine Frame.trans ?_ ((sessionClosed_frame _).mono (by decide))
  refine Frame.trans ?_ ((setEnc_frame _ _).mono (by decide))
  refine Frame.trans ?_ ((raiseEvent_frame _ _ _ _).mono (by decide))
  refine Frame.trans ?_ ((requestSave_frame _).mono (by decide))
  refine Frame.trans ?_ (.ite (.refl _ _) ((markDirty_frame _).mono (by decide)))
  refine Frame.trans ?_ ((setCandidates_frame _ _).mono (by decide))
  exact ((applyPairs_frame _ s).mono (by decide)).trans ((restartRows_frame _ _).mono (by decide))

theorem completeSession_frame (i : Nat) (s : State) : Frame completionFields s (completeSession i s) :=
  .ite (applyCompletion_frame i s) ((endSession_frame _ s).mono (by decide))

theorem advance_frame (i : Nat) (s : State) : Frame completionFields s (advance i s) :=
  .ite ((setEnc_frame _ s).mono (by decide)) (completeSession_frame i s)

theorem acceptAnswer_frame (i : Nat) (r : Row) (id : SensorId) (source : Option Row) (s : State) :
    Frame completionFields s (acceptAnswer i r id source s) :=
  (((setEnc_frame _ s).mono (by decide)).trans ((raiseEvent_frame _ _ _ _).mono (by decide))).trans (advance_frame i _)

theorem takeAnswer_frame (c : AnswerClass) (id : SensorId) (s : State) : Frame completionFields s (takeAnswer c id s) := by
  unfold takeAnswer
  split
  · exact .refl _ s
  · split
    · exact .refl _ s
    · refine .ite ((raiseEvent_frame _ _ _ s).mono (by decide)) ?_
      split
      · exact (raiseEvent_frame _ _ _ s).mono (by decide)
      · exact acceptAnswer_frame _ _ _ _ s
      · exact .ite (acceptAnswer_frame _ _ _ _ s)
          (.ite (acceptAnswer_frame _ _ _ _ s) ((raiseEvent_frame _ _ _ s).mono (by decide)))

theorem takeTool_frame (code : Nat) (s : State) : Frame completionFields s (takeTool code s) := by
  unfold takeTool
  split
  · exact .refl _ s
  · refine .ite (((raiseEvent_frame _ _ _ s).mono (by decide)).trans (advance_frame _ _)) ?_
    refine .ite (.ite ((setEnc_frame _ s).mono (by decide)) ((setEnc_frame _ s).mono (by decide))) ?_
    exact .ite ((endSession_frame _ s).mono (by decide)) (.refl _ s)

/-! ### The trailer and acceptance (Trailer.lean, Acceptance.lean) -/

/-- The fields a change of the trailer state can reach. -/
abbrev trailerFields : List Field := .trailer :: .window :: .recog :: .episodes :: .enc :: wheelFields

theorem identify_frame (k : EntryNo) (s : State) : Frame trailerFields s (identify k s) := by
  unfold identify
  refine Frame.trans ?_ ((raiseEvent_frame _ _ _ _).mono (by decide))
  refine Frame.trans ?_ ((restartRows_frame _ _).mono (by decide))
  exact (((setTrailer_frame _ s).mono (by decide)).trans ((setWindow_frame _ _).mono (by decide))).trans
    ((setRecog_frame _ _).mono (by decide))

theorem unload_frame (next : TrailerState) (s : State) : Frame trailerFields s (unload next s) :=
  ((setTrailer_frame _ s).mono (by decide)).trans ((restartRows_frame _ _).mono (by decide))

theorem connectTrailer_frame (s : State) : Frame trailerFields s (connectTrailer s) :=
  .ite ((((setTrailer_frame _ s).mono (by decide)).trans ((setWindow_frame _ _).mono (by decide))).trans
    ((setRecog_frame _ _).mono (by decide))) (.refl _ s)

theorem checkRecognition_frame (k : EntryNo) (s : State) : Frame trailerFields s (checkRecognition k s) :=
  .ite ((identify_frame k s).trans ((settleProposal_frame _).mono (by decide))) (.refl _ s)

theorem countTelegram_frame (k : EntryNo) (t : SlotNo) (rec : TelegramRecord) (s : State) :
    Frame trailerFields s (countTelegram k t rec s) :=
  ((setRecog_frame _ s).mono (by decide)).trans (checkRecognition_frame k _)

theorem recheckEntry_frame (before : State) (k : EntryNo) (s : State) : Frame trailerFields s (recheckEntry before k s) :=
  .ite (((setRecog_frame _ s).mono (by decide)).trans (checkRecognition_frame k _)) (.refl _ s)

theorem disconnectTrailer_frame (s : State) : Frame (trailerFields ++ endFields) s (disconnectTrailer s) := by
  unfold disconnectTrailer
  refine .ite (.refl _ s) ?_
  refine Frame.trans ?_ ((settleProposal_frame _).mono (by decide))
  refine Frame.trans ?_ ((sessionTrailerLost_frame _).mono (by decide))
  refine Frame.trans ?_ ((raiseEvent_frame _ _ _ _).mono (by decide))
  refine Frame.trans ?_ ((setRecog_frame _ _).mono (by decide))
  refine Frame.trans ?_ ((setWindow_frame _ _).mono (by decide))
  exact .ite ((unload_frame _ s).mono (by decide)) ((setTrailer_frame _ s).mono (by decide))

theorem takeCandidate_frame (t : TelegramRecord) (s : State) :
    Frame (.candidates :: searchFields) s (takeCandidate t s) := by
  unfold takeCandidate
  split
  · exact ((setCandidates_frame _ s).mono (by decide)).trans (.ite ((search_frame _).mono (by decide)) (.refl _ _))
  · exact (((setCandidates_frame _ s).mono (by decide)).trans ((settleProposal_frame _).mono (by decide))).trans
      ((search_frame _).mono (by decide))

theorem handToEnc_frame {c : List Field} (act : State → State) (t : TelegramRecord) (s : State)
    (h : ∀ s, Frame c s (act s)) (hc : Field.enc ∈ c) : Frame c s (handToEnc act t s) :=
  .ite (((setEnc_frame _ s).mono (by simpa using hc)).trans (h _)) (.refl _ s)

theorem takeEnrolled_frame (r : Row) (t : TelegramRecord) (s : State) :
    Frame completionFields s (takeEnrolled r t s) := by
  unfold takeEnrolled
  refine Frame.trans ((putWheel_frame _ _ s).mono (by decide)) (.ite (.refl _ _) ?_)
  refine Frame.trans ?_ ((settleProposal_frame _).mono (by decide))
  exact Frame.trans (t := measure r t _) ((measure_frame r t _).mono (by decide)) (.ite (takeAnswer_frame _ _ _) (.refl _ _))

/-- The fields the acceptance of a telegram record can reach. -/
abbrev acceptFields : List Field := .candidates :: (trailerFields ++ completionFields)

theorem takeForeign_frame (k : EntryNo) (slot : SlotNo) (t : TelegramRecord) (s : State) :
    Frame acceptFields s (takeForeign k slot t s) := by
  unfold takeForeign
  extract_lets a
  have ha : Frame acceptFields s a := .ite ((countTelegram_frame k slot t s).mono (by decide)) (.refl _ s)
  exact ha.trans
    (.ite (handToEnc_frame _ t _ (fun s => (takeAnswer_frame _ _ s).mono (by decide)) (by decide)) (.refl _ _))

theorem takeUnknown_frame (t : TelegramRecord) (s : State) : Frame acceptFields s (takeUnknown t s) :=
  .ite (handToEnc_frame _ t s (fun s => (takeAnswer_frame _ _ s).mono (by decide)) (by decide))
    ((takeCandidate_frame t s).mono (by decide))

theorem acceptRecord_frame (t : TelegramRecord) (s : State) : Frame acceptFields s (acceptRecord t s) := by
  unfold acceptRecord
  refine .ite (.refl _ s) ?_
  split
  · exact handToEnc_frame _ t s (fun s => (takeTool_frame _ s).mono (by decide)) (by decide)
  · exact (takeEnrolled_frame _ t s).mono (by decide)
  · exact takeForeign_frame _ _ t s
  · exact takeUnknown_frame t s

/-! ### Vehicle data (Vehicle.lean) -/

theorem setSpeed_frame (speed : Option Nat) (s : State) : Frame endFields s (setSpeed speed s) :=
  .ite (.refl _ s) ((((setVdm_frame _ s).mono (by decide)).trans ((retime_frame s _).mono (by decide))).trans
    (sessionMoved_frame _))

theorem putUnit_frame (u : UnitName) (v : UnitLoad) (s : State) : Frame [.vdm] s (putUnit u v s) := by
  cases u <;> exact setVdm_frame _ s

theorem applyLoad_frame (u : UnitName) (load : LoadState) (s : State) : Frame (.vdm :: wheelFields) s (applyLoad u load s) :=
  ((putUnit_frame u _ s).mono (by decide)).trans (.ite (.refl _ _) ((reevaluate_frame _ _).mono (by decide)))

theorem settleLoad_frame (u : UnitName) (load : LoadState) (s : State) : Frame (.vdm :: wheelFields) s (settleLoad u load s) := by
  unfold settleLoad
  refine .ite ((putUnit_frame u _ s).mono (by decide)) ?_
  split
  · exact .refl _ s
  · exact .ite (applyLoad_frame u load s) ((putUnit_frame u _ s).mono (by decide))

theorem reportLoad_frame (u : UnitName) (rep : LoadReport) (s : State) :
    Frame (.vdm :: wheelFields) s (reportLoad u rep s) := by
  unfold reportLoad
  extract_lets _ a
  have ha : Frame (.vdm :: wheelFields) s a := (putUnit_frame u _ s).mono (by decide)
  refine ha.trans ?_
  cases rep
  · exact settleLoad_frame u _ _
  · exact settleLoad_frame u _ _
  · exact (putUnit_frame u _ _).mono (by decide)
  · exact applyLoad_frame u _ _

theorem setConnected_frame (code : Nat) (s : State) : Frame (.vdm :: (trailerFields ++ endFields)) s (setConnected code s) :=
  .ite (((setVdm_frame _ s).mono (by decide)).trans ((connectTrailer_frame _).mono (by decide)))
    (.ite (((setVdm_frame _ s).mono (by decide)).trans ((disconnectTrailer_frame _).mono (by decide))) (.refl _ s))

theorem frameSeen_frame (s : State) : Frame [.vdm, .evq] s (frameSeen s) :=
  Frame.trans (t := ite _ (raiseEvent .vehicleDataBack none none s) s)
    (.ite ((raiseEvent_frame _ _ _ s).mono (by decide)) (.refl _ s)) ((setVdm_frame _ _).mono (by decide))

theorem takeVehicleData_frame (data : List Byte) (s : State) :
    Frame (trailerFields ++ endFields) s (takeVehicleData data s) := by
  unfold takeVehicleData
  refine Frame.trans ?_ ((notice_frame _ _).mono (by decide))
  refine Frame.trans ?_ ((setVdm_frame _ _).mono (by decide))
  refine Frame.trans ?_ ((liftChange_frame _ _).mono (by decide))
  refine Frame.trans ?_ ((setVdm_frame _ _).mono (by decide))
  refine Frame.trans ?_ ((setConnected_frame _ _).mono (by decide))
  refine Frame.trans ?_ ((reportLoad_frame _ _ _).mono (by decide))
  refine Frame.trans ?_ ((reportLoad_frame _ _ _).mono (by decide))
  exact ((frameSeen_frame s).mono (by decide)).trans ((setSpeed_frame _ _).mono (by decide))

theorem fixRate_frame (s : State) : Frame [.link] s (fixRate s) := .ite (setLink_frame _ s) (.refl _ s)

theorem vehicleFrame_frame (data : List Byte) (s : State) : Frame (trailerFields ++ endFields) s (vehicleFrame data s) :=
  .ite (.refl _ s) (takeVehicleData_frame data s)

theorem requestArrives_frame (data : List Byte) (s : State) : Frame [.link] s (requestArrives data s) :=
  .ite (setLink_frame _ s) (setLink_frame _ s)

/-- A frame that arrives reaches no more than one that VDM takes. -/
theorem frameArrives_frame (f : BusFrame) (s : State) : Frame (trailerFields ++ endFields) s (frameArrives f s) := by
  have hr : Frame (trailerFields ++ endFields) s (fixRate s) := (fixRate_frame s).mono (by decide)
  unfold frameArrives
  split
  · exact hr.trans (vehicleFrame_frame _ _)
  · exact hr.trans ((requestArrives_frame _ _).mono (by decide))
  · exact hr

end Sys2Proof.Machine
end

