-- ==== Sys2Proof/Laws/Requests.lean ====
section
/-! SUPPORT. The take of a request, said once: what a waiting request of a kind becomes, and what the take leaves alone. -/

namespace Sys2Proof.Machine

/-- A request at the head of the FIFO, of the kind a command is for, is taken and what its owner makes of it is delivered. -/
theorem serve_waiting {s : State} {data : List Byte} (h : Waiting s data) (isFor : List Byte → Bool)
    (act : List Byte → State → Served) (hf : isFor data = true) :
    whileRunning (serve isFor act) s = .next (deliver data (act data (takeOff s))) := by
  obtain ⟨hp, hh, hm⟩ := h
  cases hr : s.link.requests with
  | nil => simp [hr] at hh
  | cons d rest =>
    obtain rfl : d = data := by simpa [hr] using hh
    simp [whileRunning, hp, serve, hr, hm, hf]

/-- A request that the guard lets pass reaches its owner. -/
theorem serveRequest_waitingFor {code : Nat} {s : State} {data : List Byte} (h : WaitingFor code s data)
    (owner : List Byte → State → Served) :
    whileRunning (serveRequest code owner) s = .next (deliver data (owner data (takeOff s))) := by
  obtain ⟨hw, hl, hc, hg⟩ := h
  change whileRunning (serve _ _) s = _
  rw [serve_waiting hw _ _ (by simp [isRequest, hl, hc])]
  simp [judge, hg]

/-- A request that the guard refuses is answered GUARDED and has no other effect. -/
theorem serveRequest_guarded {code : Nat} {s : State} {data : List Byte} (h : Waiting s data) (hl : data.length = 8)
    (hc : natAt data 0 = code) (hg : guardAllows (takeOff s) (classOf data) = false)
    (owner : List Byte → State → Served) :
    whileRunning (serveRequest code owner) s =
      .next (respond (byteAt data 0) (byteAt data 1) .guarded [] (takeOff s)) := by
  change whileRunning (serve _ _) s = _
  rw [serve_waiting h _ _ (by simp [isRequest, hl, hc])]
  simp [judge, hg, refuse, answered, deliver]

/-- With nothing to take, or four answers outstanding, nothing happens. -/
theorem serve_nothing {s : State} (h : s.link.requests = [] ∨ mayTake s = false) (isFor : List Byte → Bool)
    (act : List Byte → State → Served) : whileRunning (serve isFor act) s = .next s := by
  unfold whileRunning serve
  split
  · congr 1
    split
    · rfl
    · rename_i hr
      rcases h with h | h
      · simp [hr] at h
      · simp [h]
  · rfl

@[simp] theorem deliver_answered (data : List Byte) (result : ResultCode) (bytes : List Byte) (s : State) :
    deliver data (answered result bytes s) = respond (byteAt data 0) (byteAt data 1) result bytes s := rfl

@[simp] theorem deliver_refuse (data : List Byte) (result : ResultCode) (s : State) :
    deliver data (refuse result s) = respond (byteAt data 0) (byteAt data 1) result [] s := rfl

@[simp] theorem deliver_unanswered (data : List Byte) (s : State) : deliver data (unanswered s) = s := rfl

/-- The take of a request reaches the link and what a change of the operating state and a notice of activity reach. -/
theorem takeOff_frame (s : State) : Frame modeFields s (takeOff s) := by
  unfold takeOff
  extract_lets _ a
  have ha : Frame modeFields s a := (setLink_frame _ s).mono (by decide)
  refine (ha.trans ?_).trans ((notice_frame _ _).mono (by decide))
  exact .ite (enterState_frame _ _) (.refl _ _)

/-- A byte that is an index below a bound. -/
theorem indexAt_eq {n : Nat} {data : List Byte} {i : Nat} (k : Fin n) (h : natAt data i = k.val) :
    indexAt n data i = some k := by
  unfold indexAt
  rw [dif_pos (by omega)]
  simp [h]

/-- A byte that is no index below a bound. -/
theorem indexAt_none {n : Nat} {data : List Byte} {i : Nat} (h : n ≤ natAt data i) : indexAt n data i = none := by
  unfold indexAt
  rw [dif_neg (by omega)]

end Sys2Proof.Machine
end

