-- ==== Sys2Proof/Laws/Values.lean ====
section
/-! SUPPORT. What the shared operations write: condition sets, events, frames of a class, wheel records, and the IDs of rows. -/

namespace Sys2Proof.Machine

/-! ### Condition sets -/

theorem condBit_getLsbD (c d : Condition) : (condBit c).getLsbD d.code.val = decide (d = c) := by
  cases c <;> cases d <;> decide

@[simp] theorem hasCond_addCond (set : ConditionSet) (c d : Condition) :
    hasCond (addCond set c) d = (hasCond set d || decide (d = c)) := by
  simp [hasCond, addCond, condBit_getLsbD]

@[simp] theorem hasCond_dropCond (set : ConditionSet) (c d : Condition) :
    hasCond (dropCond set c) d = (hasCond set d && !decide (d = c)) := by
  have h := d.code.isLt
  simp only [hasCond, dropCond, BitVec.getLsbD_and, BitVec.getLsbD_not, condBit_getLsbD,
    decide_eq_true (show d.code.val < 16 by omega), Bool.true_and]

@[simp] theorem hasCond_withCond (set : ConditionSet) (c d : Condition) (on : Bool) :
    hasCond (withCond set c on) d = if d = c then on else hasCond set d := by
  cases on <;> by_cases h : d = c <;> simp [withCond, h]

@[simp] theorem hasCond_zero (c : Condition) : hasCond 0 c = false := by simp [hasCond]

@[simp] theorem announcedOf_zero (a : Announce) : announcedOf a 0 = 0 := by simp [announcedOf]

/-! ### Events -/

theorem dropOldestOrdinary_length {l rest : List Event} (h : dropOldestOrdinary l = some rest) :
    l.length = rest.length + 1 := by
  induction l generalizing rest with
  | nil => simp [dropOldestOrdinary] at h
  | cons e l ih =>
    unfold dropOldestOrdinary at h
    split at h
    · obtain ⟨m, hm, rfl⟩ := Option.map_eq_some_iff.1 h
      simp [ih hm]
    · simp_all

/-- An event enters with no more than one record joining, and only while there is room (R152, R153). -/
theorem pushEvent_length_le (e : Event) (q : EventQueue) (h : q.records.length ≤ 64) :
    (pushEvent e q).records.length ≤ 64 := by
  unfold pushEvent eventCapacity
  split
  · simp only [List.length_append, List.length_singleton]
    omega
  · split
    · split
      · rename_i rest hr
        have := dropOldestOrdinary_length hr
        simp only [List.length_append, List.length_singleton]
        omega
      · exact h
    · exact h

/-- The queue holds a record after any event has entered it. -/
theorem pushEvent_ne_nil (e : Event) (q : EventQueue) : (pushEvent e q).records ≠ [] := by
  unfold pushEvent eventCapacity
  split
  · simp
  · have : q.records ≠ [] := by
      intro h
      simp_all
    split
    · split
      · simp
      · exact this
    · exact this

@[simp] theorem pushEvent_taken (e : Event) (q : EventQueue) : (pushEvent e q).taken = q.taken := by
  unfold pushEvent
  split
  · rfl
  · split
    · split <;> rfl
    · rfl

/-! ### Frames of a class (R167) -/

theorem mem_replaceOrJoin_self {α : Type} (same : α → Bool) (x : α) (l : List α) : x ∈ replaceOrJoin same x l := by
  induction l with
  | nil => simp [replaceOrJoin]
  | cons y l ih =>
    unfold replaceOrJoin
    split <;> simp [ih]

theorem mem_of_mem_replaceOrJoin {α : Type} {same : α → Bool} {x y : α} {l : List α} (h : y ∈ replaceOrJoin same x l) :
    y = x ∨ y ∈ l := by
  induction l with
  | nil => simpa [replaceOrJoin] using h
  | cons z l ih =>
    unfold replaceOrJoin at h
    split at h
    · simp only [List.mem_cons] at h ⊢
      tauto
    · rcases List.mem_cons.1 h with rfl | h
      · simp
      · rcases ih h with h | h <;> simp [h]

/-- With frames keyed, the keys stay without a repeat. -/
theorem replaceOrJoin_nodup {α β : Type} [DecidableEq β] (key : α → β) (x : α) (l : List α) (h : (l.map key).Nodup) :
    ((replaceOrJoin (fun y => decide (key y = key x)) x l).map key).Nodup := by
  induction l with
  | nil => simp [replaceOrJoin]
  | cons y l ih =>
    rw [List.map_cons, List.nodup_cons] at h
    unfold replaceOrJoin
    split
    · rename_i e
      simp only [decide_eq_true_eq] at e
      rw [List.map_cons, List.nodup_cons, ← e]
      exact h
    · rename_i e
      rw [List.map_cons, List.nodup_cons]
      refine ⟨?_, ih h.2⟩
      intro hm
      obtain ⟨z, hz, hk⟩ := List.mem_map.1 hm
      rcases mem_of_mem_replaceOrJoin hz with rfl | hz
      · simp [hk] at e
      · exact h.1 (List.mem_map.2 ⟨z, hz, hk⟩)

/-! ### Wheel records -/

/-- A condition that changes: its bit and its counter, in its own row (R93). -/
theorem setCondition_wheel (r q : Row) (c : Condition) (on : Bool) (s : State) :
    (setCondition r c on s).wheel q =
      if q = r then
        { s.wheel r with active := withCond (s.wheel r).active c on, counters := (s.wheel r).counters.set c.code 0 }
      else s.wheel q := by
  have h : (setCondition r c on s).wheel q = (putWheel r { s.wheel r with
      active := withCond (s.wheel r).active c on, counters := (s.wheel r).counters.set c.code 0 } s).wheel q := by
    unfold setCondition
    dsimp only
    split
    · exact (notice_frame _ _).wheel q
    · rfl
  rw [h, putWheel_wheel]

theorem setCounter_wheel (r q : Row) (c : Condition) (n : Nat) (s : State) :
    (setCounter r c n s).wheel q =
      if q = r then { s.wheel r with counters := (s.wheel r).counters.set c.code n } else s.wheel q :=
  putWheel_wheel _ _ _ _

/-- An ALERT frame queued: the record of its row has at most a new repeat deadline (R105). -/
theorem announceAlert_wheel (r : Row) (s : State) :
    ∃ d, ∀ q, (announceAlert r s).wheel q = if q = r then { s.wheel r with repeatAt := d } else s.wheel q := by
  have hq : ∀ q, (queueAlert r s).wheel q = s.wheel q := fun q => (queueAlert_frame r s).wheel q
  by_cases h : (queueAlert r s).osc.state = .offline
  · refine ⟨(s.wheel r).repeatAt, fun q => ?_⟩
    have e : announceAlert r s = queueAlert r s := if_pos h
    rw [e, hq]
    split <;> simp_all
  · let d : Option Millis := if ((queueAlert r s).wheel r).announcedLevel.repeats then
      some ((queueAlert r s).now + (queueAlert r s).setting .alertRepeatS * 1000) else none
    have e : announceAlert r s = putWheel r { (queueAlert r s).wheel r with repeatAt := d } (queueAlert r s) := if_neg h
    refine ⟨d, fun q => ?_⟩
    rw [e, putWheel_wheel, hq, hq]

/-- A row whose announced set is worked out anew: it follows the active set, and no more than the repeat deadline changes beside it
(R103, R105). -/
theorem reannounce_wheel (r : Row) (s : State) :
    ∃ d, ∀ q, (reannounce r s).wheel q =
      if q = r then
        { s.wheel r with announced := announcedOf s.tables.announce (s.wheel r).active, repeatAt := d }
      else s.wheel q := by
  by_cases h : announcedOf s.tables.announce (s.wheel r).active = (s.wheel r).announced
  · refine ⟨(s.wheel r).repeatAt, fun q => ?_⟩
    have e : reannounce r s = s := if_pos h
    rw [e, h]
    split <;> simp_all
  · let set := announcedOf s.tables.announce (s.wheel r).active
    let w : WheelRecord := { s.wheel r with
      announced := set, repeatAt := if (highest set).repeats then (s.wheel r).repeatAt else none }
    have e : reannounce r s =
        if alertDue s.osc.state (highest (s.wheel r).announced) (highest set) then announceAlert r (putWheel r w s)
        else putWheel r w s := if_neg h
    rw [e]
    split
    · obtain ⟨d, hd⟩ := announceAlert_wheel r (putWheel r w s)
      refine ⟨d, fun q => (hd q).trans ?_⟩
      rw [putWheel_wheel, putWheel_wheel]
      split <;> simp_all [w, set]
    · exact ⟨_, fun q => putWheel_wheel r q _ s⟩

/-! ### The sample ring (R69 to R72) -/

/-- The update of a lawful ring is lawful: at most 8 samples, strictly increasing in time, within 3,600 s. -/
theorem ringAdd_legal {ring : List Sample} (h : RingLegal ring) (x : Sample) : RingLegal (ringAdd ring x).ring := by
  obtain ⟨hlen, hord, hspan⟩ := h
  unfold ringAdd
  split
  · exact ⟨hlen, hord, hspan⟩
  · rename_i hb
    extract_lets kept
    split
    · simp [RingLegal]
    · dsimp only
      have hearlier : ∀ y ∈ ring, y.time < x.time := by
        intro y hy
        obtain ⟨init, z, rfl⟩ : ∃ init z, ring = init ++ [z] :=
          ⟨_, _, (List.dropLast_append_getLast (List.ne_nil_of_mem hy)).symm⟩
        have hz : z.time < x.time := by simpa [ringBlocks] using hb
        rcases List.mem_append.1 hy with hy | hy
        · exact lt_trans ((List.pairwise_append.1 hord).2.2 y hy z (by simp)) hz
        · obtain rfl : y = z := by simpa using hy
          exact hz
      generalize hrest : (if kept.length < 8 then kept else kept.drop (kept.length - 7)) = rest
      have hsub : rest.Sublist kept := by
        rw [← hrest]
        split
        · exact .refl _
        · exact List.drop_sublist _ _
      have hrestLen : rest.length ≤ 7 := by
        rw [← hrest]
        split
        · exact Nat.le_of_lt_succ ‹_›
        · rw [List.length_drop]
          omega
      have hkept : ∀ y ∈ rest, y ∈ ring ∧ x.time ≤ y.time + 3600000 := fun y hy => by
        simpa [kept, ringKeeps] using hsub.mem hy
      refine ⟨by simp; omega, ?_, ?_⟩
      · refine List.pairwise_append.2 ⟨hord.sublist (hsub.trans List.filter_sublist), by simp, fun y hy z hz => ?_⟩
        obtain rfl : z = x := by simpa using hz
        exact hearlier y (hkept y hy).1
      · intro a ha b hb'
        simp only [List.mem_append, List.mem_singleton] at ha hb'
        rcases ha with ha | rfl <;> rcases hb' with hb' | rfl
        · exact hspan a (hkept a ha).1 b (hkept b hb').1
        · exact (hkept a ha).2
        · exact (hearlier b (hkept b hb').1).le.trans (Nat.le_add_right _ _)
        · exact Nat.le_add_right _ _

/-! ### The RSSI of a level (R187) -/

theorem convertedLevel_le (level : BitVec 16) : convertedLevel level ≤ 255 := by
  have := level.isLt
  have := (Config.rssiRoundsUp level).toNat_le
  unfold convertedLevel
  split <;> omega

/-- The RSSI is the conversion, but that 0 is taken as 1. -/
theorem sampledRssi_toNat (level : BitVec 16) : (sampledRssi level).toNat = max 1 (convertedLevel level) := by
  have := convertedLevel_le level
  simp [sampledRssi]
  omega

/-! ### Frames received (R163 to R165) -/

theorem frameUse_remote (l : LinkSettings) (f : BusFrame) (h : f.remote = true) : frameUse l f = .ignored := by
  unfold frameUse
  split <;> simp [h]

theorem frameUse_extended (l : LinkSettings) (f : BusFrame) (id : BitVec 29) (h : f.id = .extended id) :
    frameUse l f = .ignored := by
  simp [frameUse, h]

@[simp] theorem frameUse_vehicleId (l : LinkSettings) (data : List Byte) :
    frameUse l (.withId l.vehicleId data) = .vehicleData := by
  simp [frameUse, BusFrame.withId]

/-- The REQUEST identifier carries a request, unless it is the vehicle data identifier too. -/
theorem frameUse_requestId (l : LinkSettings) (data : List Byte) (h : l.requestId ≠ l.vehicleId) :
    frameUse l (.withId l.requestId data) = .request := by
  simp [frameUse, BusFrame.withId, h]

/-- The first frame heard fixes the rate, and nothing but the link changes. -/
theorem fixRate_eq (s : State) : fixRate s = { s with link := heardBy s.link } := by
  unfold fixRate heardBy
  split <;> rfl

/-- All that a frame that arrives can do: LINK has heard it, and VDM, the request FIFO or nobody takes it. -/
theorem frameArrives_cases (f : BusFrame) (s : State) :
    let heard : State := { s with link := heardBy s.link }
    (frameUse s.tables.link f = .vehicleData ∧ frameArrives f s = vehicleFrame f.data heard)
      ∨ (frameUse s.tables.link f = .request ∧ frameArrives f s = requestArrives f.data heard)
      ∨ (frameUse s.tables.link f = .ignored ∧ frameArrives f s = heard) := by
  rw [← fixRate_eq]
  cases h : frameUse s.tables.link f <;> simp [frameArrives, h]

/-! ### The IDs of rows (R7) -/

/-- A row read after a write of a row: truck rows and the slots of the identified entry are the storage (R7, R10). -/
theorem writeRowId_rowId (r q : Row) (id : Option SensorId) (s : State)
    (h : r.val < 20 ∨ ∃ k, s.trailer = .identified k) :
    rowId (writeRowId r id s) q = if q = r then id else rowId s q := by
  obtain ⟨r, hr⟩ := r
  obtain ⟨q, hq⟩ := q
  by_cases h20 : r < 20
  · by_cases hq20 : q < 20
    · by_cases e : q = r <;> simp [rowId, writeRowId, h20, hq20, e, Vector.getElem_set, eq_comm]
    · have : q ≠ r := by omega
      simp [rowId, writeRowId, h20, hq20, this]
  · obtain ⟨k, hk⟩ := h.resolve_left (by simpa using h20)
    by_cases hq20 : q < 20
    · have : q ≠ r := by omega
      simp [rowId, writeRowId, h20, hq20, this, hk, putEntry]
    · have e : r - 20 = q - 20 ↔ q = r := by omega
      by_cases e' : q = r <;>
        simp [rowId, writeRowId, h20, hq20, hk, putEntry, e, e']

end Sys2Proof.Machine
end

