-- ==== Sys2Proof/Tests/Slice0.lean ====
section
/-! SUPPORT. Own tests: the ill-formed commands, the worked figures of the spec, one step of each family on a small state, and for every
statement with hypotheses a state that meets them. -/

namespace Sys2Proof.Tests

open Sys2Proof Sys2Proof.Machine

set_option Elab.async false

/-! ### Small states -/

/-- Bytes written as numbers. -/
def bytes (l : List Nat) : List Byte := l.map (BitVec.ofNat 8)

/-- A request of eight bytes; what is not written is 0. -/
def frame (l : List Nat) : List Byte := pad 8 (bytes l)

/-- The part after reset, moved into an operating state. -/
def inState (o : OpState) : State := { State.reset with osc := { Controller.reset with state := o } }

def active : State := inState .active

/-- The state with one request waiting. -/
def asked (s : State) (l : List Nat) : State := { s with link := { s.link with requests := [frame l] } }

/-- The request may be taken by its row and passes the guard. -/
def asks (s : State) (l : List Nat) : Bool := decide (WaitingFor (l.headD 0) (asked s l) (frame l))

/-- The state in which MGU serves the request. -/
def served (s : State) (l : List Nat) : State := takeOff (asked s l)

/-- The state a command leaves, where it completes. -/
def after (c : Instr) (s : State) : Option State :=
  match exec c s with
  | .next t => some t
  | _ => none

/-- The answer a request is given: its result and data bytes. -/
def answer (c : Instr) (s : State) (l : List Nat) : Option (ResultCode × List Byte) :=
  (after c (asked s l)).bind fun t => t.link.responses.getLast?.map fun f => (f.result, f.data)

/-- The kinds of the events that wait, newest last. -/
def eventKinds (s : State) : List EventKind := s.evq.records.map Event.kind

def atTime (ms : Nat) (s : State) : State := { s with clock := BitVec.ofNat 40 ms }

def withLane (l : LaneNo) (v : LaneState) (s : State) : State :=
  { s with lanes := s.lanes.set l { state := v, flags := .clear } }

def withRow (r : Fin 20) (id : SensorId) (s : State) : State :=
  { s with tables := { s.tables with rows := s.tables.rows.set r (some id) } }

def withWheel (r : Row) (w : WheelRecord) (s : State) : State := { s with wheels := s.wheels.set r w }

/-- The telegram of 2.9, as lane 1 hands it. -/
def telegram : TelegramRecord :=
  { lane := 1, rssi := 143, arrival := 734218, id := 0x2B110013, mode := .rolling, batteryLow := false, fault := false
    sequence := 2, pressure := 2100, temperature := 115 }

def handing (t : TelegramRecord) (s : State) : State := { s with handed := [t] }

/-- Truck axle 3, place 2 of the factory map. -/
def onTruck : State := withWheel 10 (.fresh .awaiting) (withRow 10 0x2B110013 active)

/-- The truck's settle deadline has come for a load. -/
def settling (load : LoadState) (s : State) : State :=
  { s with vdm := { s.vdm with truck := { s.vdm.truck with settle := some (load, 0) } } }

/-- Entry 2 of the roster of 1.6. -/
def entry317 : RosterEntry :=
  { tag := 317
    axles := #v[{ layout := .single, group := 3, liftable := false, nearLane := 2 },
      { layout := .single, group := 3, liftable := false, nearLane := 2 },
      { layout := .dual, group := 3, liftable := false, nearLane := 3 }]
    slots := #v[some 0x2B110011, none, none, some 0x2B110012, some 0x2B110013, none, none, some 0x2B110014,
      some 0x2B110015, none, none, none] }

def withRoster (s : State) : State :=
  { s with tables := { s.tables with roster := s.tables.roster.set 2 entry317 } }

/-- The trailer of 1.6, identified. -/
def coupled : State := { withRoster active with trailer := .identified 2 }

/-- A session at a step of the walk of 6.7. -/
def enrolling (i : Nat) (s : State) : State :=
  { s with enc := { s.enc with walk := [8, 9, 10, 11], session := some i, stepDeadline := some 120000 } }

/-- A telegram of a sensor woken by the tool. -/
def triggered (id : SensorId) : TelegramRecord := { telegram with id := id, mode := .triggered }

/-- A tool action with its code. -/
def tool (code : Nat) : TelegramRecord :=
  { triggered 0xFFFFFF01 with pressure := BitVec.ofNat 12 code }

/-! ### Commands that cannot exist -/

theorem test_vehicle_data_frame_of_nine_bytes_is_ill_formed :
    (Instr.vehicleDataFrame (.withId 0x630 (List.replicate 9 0))).wellFormed = false := by decide

theorem test_request_frame_of_nine_bytes_is_ill_formed :
    (Instr.requestFrame (.withId 0x648 (List.replicate 9 0))).wellFormed = false := by decide

theorem test_frames_of_eight_bytes_are_well_formed :
    (Instr.vehicleDataFrame (.withId 0x630 (List.replicate 8 0))).wellFormed = true
      ∧ (Instr.requestFrame (.withId 0x648 (List.replicate 8 0))).wellFormed = true := by decide

theorem test_no_table_row_has_bits (nbits w : Nat) : decodeTableWord nbits w = none := rfl

/-! ### Figures of the spec -/

/-- 00_scope: truck axle 3, place 2 is row 10, and trailer axle 2, place 3 is row 27. -/
theorem test_row_numbers :
    rowAxle 10 = 2 ∧ rowPlace 10 = 2 ∧ rowAxle 27 = 6 ∧ rowPlace 27 = 3 ∧ partner 8 = 9 ∧ partner 11 = 10 := by decide +kernel

/-- 4.5, worked case 1. -/
theorem test_worked_case_1 :
    (compute 203 20 telegram).pc = 1617 ∧ (compute 203 20 telegram).pg = 1897 := by decide +kernel

/-- 4.5, worked case 2: the largest Pcold, and OVERRANGE. -/
theorem test_worked_case_2 :
    pcold 4093 (kref 60) (kmeas 60 0) = 6112
      ∧ compute 120 60 { telegram with pressure := 4093, temperature := 0 } =
        { pc := 4000, pg := 3973, temperature := some (-50), belowAmbient := false, overrange := true
          tempUnavailable := false, fault := false } := by decide +kernel

/-- 4.5, worked case 3: an exact half is rounded up. -/
theorem test_worked_case_3 :
    (compute 203 20 { telegram with pressure := 1911, temperature := 71 }).pc = 1702 := by decide +kernel

/-- 4.5, worked case 4: a cold flat tyre. -/
theorem test_worked_case_4 :
    compute 203 20 { telegram with pressure := 200, temperature := 60 } =
      { pc := 4, pg := 0, temperature := some 10, belowAmbient := true, overrange := false, tempUnavailable := false
        fault := false } := by decide +kernel

/-- 4.5, worked case 5: no temperature. -/
theorem test_worked_case_5 :
    compute 203 20 { telegram with temperature := 255 } =
      { pc := 1897, pg := 1897, temperature := none, belowAmbient := false, overrange := false, tempUnavailable := true
        fault := false } := by decide +kernel

/-- 4.5, worked case 6: a fault. -/
theorem test_worked_case_6 :
    compute 203 20 { telegram with pressure := 4095 } =
      { pc := 4094, pg := 4094, temperature := some 65, belowAmbient := false, overrange := false, tempUnavailable := false
        fault := true } := by decide +kernel

/-- 4.10: the factory limits, and the clamp of HighWarn. -/
theorem test_factory_limits :
    (let p := ThresholdGroup.factory.unladen; (lowWarnLimit p, lowCritLimit p, highWarnLimit p)) = (1438, 1200, 2081)
      ∧ (let p := ThresholdGroup.factory.laden; (lowWarnLimit p, lowCritLimit p, highWarnLimit p)) = (1618, 1350, 2341)
      ∧ highWarnLimit { target := 3500, lw := 26, lc := 64, hw := 77 } = 4000 := by decide

/-- The ring of 4.7 at a time in seconds. -/
def slowLeak : List Sample :=
  [{ pc := 1640, time := 0 }, { pc := 1636, time := 40000 }, { pc := 1633, time := 80000 }, { pc := 1629, time := 120000 },
    { pc := 1626, time := 160000 }, { pc := 1623, time := 200000 }, { pc := 1620, time := 240000 },
    { pc := 1616, time := 280000 }]

/-- 4.7: the rates after three, four, five and eight samples. -/
theorem test_leak_rates :
    ringRate (slowLeak.take 3) = none ∧ ringRate (slowLeak.take 4) = some 55 ∧ ringRate (slowLeak.take 5) = some 52
      ∧ ringRate slowLeak = some 51 := by decide

/-- 4.7: a ninth sample removes the oldest, and the rate is 49. -/
theorem test_ring_keeps_eight :
    ringRate (ringAdd slowLeak { pc := 1613, time := 320000 }).ring = some 49
      ∧ (ringAdd slowLeak { pc := 1613, time := 320000 }).ring.length = 8 := by decide

/-- 4.7: a rise of more than 20 pu is a refill, one of 20 is not. -/
theorem test_refill :
    ringAdd slowLeak { pc := 1760, time := 900000 } = { ring := [{ pc := 1760, time := 900000 }], refill := true }
      ∧ (ringAdd slowLeak { pc := 1636, time := 900000 }).refill = false := by decide

/-- 4.8: the age test removes the sample 3,650 s older, and the rate is 6. -/
theorem test_ring_ages :
    ringRate (ringAdd [{ pc := 1700, time := 10000000 }, { pc := 1698, time := 10100000 }, { pc := 1697, time := 10200000 },
      { pc := 1695, time := 10280000 }] { pc := 1660, time := 13650000 }).ring = some 6 := by decide

/-- 2.9: the first 32 bits of the telegram of sensor 0x2B110013, and the fields a lane reads from its body. -/
theorem test_telegram_of_2_9 :
    (telegramBody telegram).take 32 =
      [false, false, true, false, true, false, true, true, false, false, false, true, false, false, false, true,
        false, false, false, false, false, false, false, false, false, false, false, true, false, false, true, true]
      ∧ recordOf 1 143 734218 (telegramBody telegram) = telegram ∧ crcGood (telegramBody telegram) = true := by
  decide +kernel

/-- R184: the pressure and the temperature code fill bytes 5 to 7 (0x08, 0x34, 0x73). -/
theorem test_telegram_fields :
    ((telegramBody telegram).drop 32).take 32 =
      [false, false, false, false, false, false, true, false, false, false, false, false, true, false, false, false,
        false, false, true, true, false, true, false, false, false, true, true, true, false, false, true, true] := by
  decide +kernel

/-- The widely published check value of this CRC-16 over the nine ASCII digits 1 to 9 is 0x29B1. -/
theorem test_crc16_check_value :
    crc16 ((bytes [0x31, 0x32, 0x33, 0x34, 0x35, 0x36, 0x37, 0x38, 0x39]).flatMap byteBits) = 0x29B1 := by decide +kernel

/-- 1.6: the threshold of a two-slot entry is 2, and of a five-slot entry 3. -/
theorem test_recognition_threshold :
    threshold entry317 = 3
      ∧ threshold { entry317 with slots := (Vector.replicate 12 none).set 0 (some 0x1A00F001) |>.set 3 (some 0x1A00F004) }
        = 2 := by decide

/-- 1.6: the rows that mirror entry 2, and their usability. -/
theorem test_mirrored_rows :
    rowId coupled 20 = some 0x2B110011 ∧ rowId coupled 28 = some 0x2B110015 ∧ rowUsable coupled 29 = true
      ∧ rowUsable coupled 26 = false ∧ (axleOf coupled 7).layout = .dual := by decide

/-! ### One step of each family -/

/-- 7.12: after STARTING with IGNITION on, the part is ACTIVE and STATE_CHANGE is raised. -/
theorem test_load_complete :
    (after .loadComplete { State.reset with lines := { State.reset.lines with ignition := true } }).map
      (fun t => (t.osc.state, eventKinds t)) = some (.active, [.storeInvalid, .stateChange]) := by decide +kernel

/-- 7.12: IGNITION off starts a park delay of 120 s. -/
theorem test_ignition_off_starts_the_park_delay :
    (after (.ignitionChange false) (atTime 1000 { active with lines := { active.lines with ignition := true } })).map
      (fun t => (t.osc.state, t.osc.parkDelay)) = some (.active, some 121000) := by decide +kernel

/-- 7.12: the park delay moves the part to PARK_WATCH with an activity deadline eight hours later, and only lane 0 listens. -/
theorem test_park_delay_expiry :
    (after .parkDelayExpiry { active with osc := { active.osc with parkDelay := some 0 } }).map
      (fun t => (t.osc.state, t.osc.activity, (t.lane 0).state, (t.lane 1).state)) =
      some (.parkWatch, some 28800000, .freshHunt, .disabled) := by decide +kernel

/-- 7.12: the activity deadline moves the part to DORMANT. -/
theorem test_activity_expiry :
    (after .activityExpiry { inState .parkWatch with osc := { (inState .parkWatch).osc with activity := some 0 } }).map
      (fun t => (t.osc.state, t.vdm.frameDeadline)) = some (.dormant, none) := by decide +kernel

/-- R187: loss of supply, and the release of RESET. -/
theorem test_power_loss_and_reset_release :
    (after .powerLoss active).map State.phase = some .off
      ∧ (after .resetRelease { active with phase := .inReset }).map (fun t => (t.phase, t.osc.state)) =
        some (.running, .starting) := by decide +kernel

/-- 2.10: the 48th steady 1 jams lane 2, and the first 0 clears it. -/
theorem test_lane_jam_and_clear :
    (after (.laneJam 2 true) (withLane 2 (.hunt [] { value := true, length := 47 }) active)).map
        (fun t => ((t.lane 2).state, (t.lane 2).flags.jam, t.evq.records.map Event.value)) =
        some (.jammed true, true, [none, some 2])
      ∧ (after (.laneClear 2 false) (withLane 2 (.jammed true) active)).map
        (fun t => ((t.lane 2).state, eventKinds t)) =
        some (.hunt [false] { value := false, length := 1 }, [.storeInvalid, .laneClear]) := by decide +kernel

/-- 2.9: lane 0 takes a 0 where the stuff bit after five zeros should be 1. -/
theorem test_run_violation :
    (after (.runViolation 0 false) (withLane 0 (.body [] { value := false, length := 5 } 9) active)).map
      (fun t => ((t.lane 0).state, (t.lane 0).flags.runViolation)) = some (.freshHunt, true) := by decide +kernel

/-- 2.9: the stuff bit after data bit 21 is removed, and data bit 22 joins. -/
theorem test_bit_taken :
    (after (.bitTaken 1 true) (withLane 1 (.body [true] { value := false, length := 5 } 9) active)).map
        (fun t => (t.lane 1).state) = some (.body [true] { value := true, length := 1 } 9)
      ∧ (after (.bitTaken 1 false) (withLane 1 (.body [true] { value := true, length := 1 } 9) active)).map
        (fun t => (t.lane 1).state) = some (.body [true, false] { value := false, length := 1 } 9) := by decide +kernel

/-- 2.9: the sync word's last bit begins a body with the RSSI sampled, 143 at 143/255 of the supply level (R187). -/
theorem test_sync_match :
    (after (.syncMatch 1 (syncWord.getD 15 false) 36751) (withLane 1 (.hunt (syncWord.take 15) .empty) active)).map
      (fun t => (t.lane 1).state) = some (.body [] .empty 143) := by decide +kernel

/-- 2.9: after data bit 72 lane 1 hands TAU the record. -/
theorem test_telegram_complete :
    (after (.telegramComplete 1 true)
        (atTime 734218 (withLane 1 (.body ((telegramBody telegram).take 71) { value := false, length := 1 } 143) active))).map
      (fun t => (t.handed, (t.lane 1).flags.crcFail)) =
      some (if (telegramBody telegram)[71]? = some true then ([telegram], false) else ([], true)) := by decide +kernel

/-- 3.4: the copy on lane 3 changes only that lane's RSSI, and the telegram 624 ms later is new. -/
theorem test_duplicates :
    let live : WheelRecord :=
      { WheelRecord.fresh .live with
        lastSequence := some 2, lastAccepted := some 734218, rssi := #v[0, 143, 0, 58], pc := 1600 }
    (after (.telegramRecord 3) (handing { telegram with lane := 3, rssi := 61 } (withWheel 10 live onTruck))).map
        (fun t => ((t.wheel 10).rssi.toList, (t.wheel 10).pc)) = some ([0, 143, 0, 61], 1600)
      ∧ (after (.telegramRecord 1)
          (handing { telegram with rssi := 145, arrival := 734842 } (withWheel 10 live onTruck))).map
        (fun t => ((t.wheel 10).lastAccepted, (t.wheel 10).pc)) = some (some 734842, 1617) := by decide +kernel

/-- 5.8: the second measurement below LowWarn enters LOW_WARN: CONDITION_ON with level WARNING and Pc 1615, and an ALERT. -/
theorem test_low_warn_enters :
    let waiting : WheelRecord :=
      { WheelRecord.fresh .live with pc := 1617, pg := 1897, counters := (Vector.replicate 11 0).set 0 1 }
    (after (.telegramRecord 1) (atTime 1061000
        (handing { telegram with pressure := 2097, arrival := 1061000 } (withWheel 10 waiting onTruck)))).map
      (fun t => (t.evq.records.drop 1, (t.wheel 10).counters[0], t.link.alerts.map AlertFrame.row, (t.wheel 10).repeatAt)) =
      some ([{ kind := .conditionOn, row := some 10, condition := some .lowWarn, level := some .warning, value := some 1615
               time := 1061 }], 0, [10], some 1066000) := by decide +kernel

/-- 5.8: the applied load becomes UNLADEN, and Pc 1615 clears LOW_WARN at once. -/
theorem test_settled_load_clears_low_warn :
    let low : WheelRecord :=
      { WheelRecord.fresh .live with
        pc := 1615, pg := 1895, active := condBit .lowWarn, announced := condBit .lowWarn, repeatAt := some 1121000 }
    let s := withWheel 10 low onTruck
    (after (.settleExpiry .truck) (atTime 1120000
        { s with vdm := { s.vdm with truck := { s.vdm.truck with settle := some (.unladen, 1120000) } } })).map
      (fun t => ((t.wheel 10).active.toNat, (t.wheel 10).repeatAt, t.vdm.truck.applied, eventKinds t)) =
      some (0, none, .unladen, [.storeInvalid, .conditionOff]) := by decide +kernel

/-- R67, R91: with leak_warn 0 an active LEAK is held on a fault measurement and leaves on one that is not. -/
theorem test_leak_is_held_on_a_fault :
    let factory := ThresholdGroup.factory
    let s : State := { onTruck with tables := { onTruck.tables with
      groups := onTruck.tables.groups.set 1 { factory with temp := { factory.temp with leakWarn := 0 } } } }
    let s := withWheel 10 { WheelRecord.fresh .live with active := condBit .leak, announced := condBit .leak } s
    let held (t : TelegramRecord) : Option Bool :=
      (after (.telegramRecord t.lane) (handing t s)).map fun u => hasCond (u.wheel 10).active .leak
    held { telegram with fault := true } = some true ∧ held telegram = some false := by decide +kernel

/-- R100: in PARK_WATCH an inner row that loses LOW_CRIT and its pair's IMBALANCE at one re-evaluation is announced once, by a frame with the
empty set; its partner's change is held unqueued. -/
theorem test_reevaluation_announces_a_row_once :
    let shown (w : WheelRecord) (set : ConditionSet) : WheelRecord := { w with active := set, announced := set }
    let base : WheelRecord := { WheelRecord.fresh .live with pc := 1600, pg := 1600 }
    let watch : State := { onTruck with osc := { onTruck.osc with state := .parkWatch } }
    let s := withWheel 11 (shown base (condBit .imbalance))
      (withWheel 10 (shown base (withCond (condBit .lowCrit) .imbalance true)) watch)
    (after (.settleExpiry .truck) (settling .unladen s)).map
      (fun t => (t.link.alerts.map fun f => (f.row, f.announced), (t.wheel 11).announced.toNat, eventKinds t)) =
      some ([(10, 0)], 0, [.storeInvalid, .conditionOff, .conditionOff, .conditionOff]) := by decide +kernel

/-- Row 10 LIVE with the deadlines of 5.9. -/
def silent : State :=
  withWheel 10 { WheelRecord.fresh .live with staleAt := some 680000, missingAt := some 800000 } onTruck

/-- 5.9: the stale expiry at 680 s, and the missing expiry at 800 s with CONDITION_ON (WARNING, 4095). -/
theorem test_stale_and_missing :
    (after (.staleExpiry 10) (atTime 680000 silent)).map
        (fun t => ((t.wheel 10).status, (t.wheel 10).missingAt)) = some (.stale, some 800000)
      ∧ (after (.missingExpiry 10) (atTime 800000 silent)).map
        (fun t => ((t.wheel 10).status, t.evq.records.drop 1)) =
        some (.missing, [{ kind := .conditionOn, row := some 10, condition := some .missing, level := some .warning
                           value := some 4095, time := 800 }]) := by decide +kernel

/-- 5.10: at a difference of 67 the pair's counter enters IMBALANCE on both rows. -/
theorem test_imbalance_enters_on_both :
    let pair : WheelRecord := { WheelRecord.fresh .live with pc := 1635, pg := 1635 }
    let s := withWheel 9 pair (withWheel 8 { pair with pc := 1700, counters := (Vector.replicate 11 0).set 7 1 }
      (withRow 9 0x3E200102 (withRow 8 0x2B110013 active)))
    (after (.telegramRecord 1) (handing { telegram with pressure := 1905, temperature := 255 } s)).map
      (fun t => ((t.wheel 8).pc, hasCond (t.wheel 8).active .imbalance, hasCond (t.wheel 9).active .imbalance,
        t.link.alerts.map AlertFrame.row)) = some (1702, true, true, [8, 9]) := by decide +kernel

/-- 3.5: the record of the fewest hits heard longest ago makes room, and the new one is last. -/
theorem test_eviction :
    let c (id hits heard : Nat) : Candidate :=
      { id := BitVec.ofNat 32 id, firstHeard := 0, lastHeard := heard, hits := hits, laneMask := 1, bestLane := 0
        bestRssi := 50, movingHits := 0, lastSequence := 0, lastTime := heard }
    let full := (List.range 14).map (fun i => c (1000 + i) 2 300) ++ [c 0x3C0A5521 1 410, c 0x3C0A5530 1 395]
    (after (.telegramRecord 1) (handing { telegram with id := 0x47D10009 } { active with candidates := full })).map
      (fun t => ((t.candidates.drop 14).map fun c => (c.id, c.hits))) =
      some [(0x3C0A5521, 1), (0x47D10009, 1)] := by decide +kernel

/-- 1.6: the third ID of entry 2 identifies the trailer. -/
theorem test_recognition :
    let s := withRoster active
    (after (.telegramRecord 3) (handing { telegram with id := 0x2B110015, lane := 3 }
        { s with trailer := .recognising, recog := s.recog.set 2 { RecogEntry.empty with
          heard := [0x2B110011, 0x2B110013] } })).map
      (fun t => (t.trailer, (t.wheel 28).status, (t.wheel 29).status, eventKinds t)) =
      some (.identified 2, .awaiting, .vacant, [.storeInvalid, .trailerIdentified]) := by decide +kernel

/-- R22: the window ends without a trailer; R55: a candidate ages out. -/
theorem test_window_and_age :
    (after .recognitionWindowExpiry { active with trailer := .recognising, window := some 0 }).map
        (fun t => (t.trailer, eventKinds t)) = some (.unknown, [.storeInvalid, .trailerUnknown])
      ∧ (after (.candidateAgeExpiry 7) (atTime 900000 { active with candidates :=
          [{ id := 7, firstHeard := 0, lastHeard := 0, hits := 1, laneMask := 1, bestLane := 0, bestRssi := 1
             movingHits := 0, lastSequence := 0, lastTime := 0 }] })).map State.candidates = some [] := by decide +kernel

/-- 6.7: at 14 s an ID enrolled in row 9 answers for row 8, with row 9 as its source. -/
theorem test_session_answer :
    let s := enrolling 0 (withRow 9 0x3E200102 active)
    (after (.telegramRecord 1) (atTime 14000 (handing (triggered 0x3E200102)
        { s with enc := { s.enc with allowMove := true } }))).map
      (fun t => (t.enc.session, t.enc.stepDeadline, t.enc.pairs, eventKinds t)) =
      some (some 1, some 134000, [{ row := 8, id := 0x3E200102, source := some 9 }], [.storeInvalid, .enrolStep]) := by
  decide +kernel

/-- 6.7: BACK at step 3 returns to row 10 and drops its pair. -/
theorem test_tool_back :
    let s := enrolling 3 active
    (after (.back 1) (atTime 47000 (handing (tool 2)
        { s with enc := { s.enc with pairs := [{ row := 10, id := 0x3E200104, source := some 11 }] } }))).map
      (fun t => (t.enc.session, t.enc.stepDeadline, t.enc.pairs)) = some (some 2, some 167000, []) := by decide +kernel

/-- R113, R114: SKIP raises ENROL_STEP and advances; ABORT and the step deadline end the session. -/
theorem test_tool_skip_abort_and_deadline :
    (after (.skip 1) (handing (tool 1) (enrolling 0 active))).map (fun t => (t.enc.session, eventKinds t)) =
        some (some 1, [.storeInvalid, .enrolStep])
      ∧ (after (.abort 1) (handing (tool 3) (enrolling 0 active))).map (fun t => (t.enc.session, t.enc.lastEnding)) =
        some (none, .abortedTool)
      ∧ (after .stepDeadlineExpiry (atTime 120000 (enrolling 0 active))).map (fun t => (t.enc.session, t.enc.lastEnding)) =
        some (none, .timedOut) := by decide +kernel

/-- 7.11: a first LADEN while UNLADEN is applied waits 30 s; an UNLADEN report withdraws it. -/
theorem test_vehicle_data_settles :
    let unladen : State := { active with vdm := { active.vdm with truck := { active.vdm.truck with applied := .unladen } } }
    (after (.vehicleDataFrame (.withId 0x630 (bytes [0, 1, 0, 255, 0, 0, 0, 0]))) (atTime 100000 unladen)).map
        (fun t => (t.vdm.truck.reported, t.vdm.truck.applied, t.vdm.truck.settle)) =
        some (.laden, .unladen, some (.laden, 130000))
      ∧ (after (.vehicleDataFrame (.withId 0x630 (bytes [0, 0, 0, 255, 0, 0, 0, 0]))) (atTime 104200 { unladen with
          vdm := { unladen.vdm with truck := { unladen.vdm.truck with settle := some (.laden, 130000) } } })).map
        (fun t => t.vdm.truck.settle) = some none := by decide +kernel

/-- 7.11: at 656.4 the data are lost: the load is reported UNKNOWN and applied LADEN. -/
theorem test_frame_timeout :
    (after .frameTimeoutExpiry (atTime 1000 active)).map
      (fun t => (t.vdm.status, t.vdm.truck.applied, t.vdm.frameDeadline, eventKinds t)) =
      some (.lost, .laden, none, [.storeInvalid, .vehicleDataLost]) := by decide +kernel

/-- 8.5: in a full queue an ordinary event is dropped, and a critical one takes the place of the oldest ordinary one. -/
theorem test_full_event_queue :
    let old : Event := { kind := .laneJam, time := 0 }
    let crit : Event := { kind := .conditionOn, condition := some .lowCrit, time := 31002 }
    let q : EventQueue := { records := crit :: List.replicate 63 old, overflow := false, taken := none }
    pushEvent { old with time := 30100 } q = { q with overflow := true }
      ∧ (pushEvent crit q).records = crit :: (List.replicate 62 old ++ [crit]) := by decide +kernel

/-- 8.10: a crank suspends the save with 250 ms left, its release sets the resume deadline, and the deadline resumes it. -/
theorem test_crank_and_resume :
    let saving (st : SaveState) : State :=
      { active with store := { active.store with state := st, remaining := 250, captured := some .factory } }
    (after .crankAssert (saving .writing)).map (fun t => (t.store.state, t.store.remaining)) = some (.suspended, 250)
      ∧ (after .crankRelease (atTime 1900 (saving .suspended))).map (fun t => (t.store.state, t.store.resumeAt)) =
        some (.resuming, some 2000)
      ∧ (let s := atTime 2110 (saving .resuming)
         (after .resumeExpiry { s with store := { s.store with resumeAt := some 2110 } }).map fun t => t.store.state) =
        some .writing := by decide +kernel

/-- 8.10: the completion raises SAVE_DONE and leaves the store IDLE and valid. -/
theorem test_save_complete :
    (after .saveComplete
        { active with store := { active.store with state := .writing, captured := some .factory } }).map
      (fun t => (t.store.state, t.store.invalid, eventKinds t)) = some (.idle, false, [.storeInvalid, .saveDone]) := by
  decide +kernel

/-- 9.8: publish 1 gives sequence 1 to READY, and SNAPSHOT_OPEN answers it. -/
theorem test_snapshots :
    let s := atTime 1000 active
    let published := { s with link := { s.link with reportDeadline := some 1000 } }
    (after .reportExpiry published).map
        (fun t => (t.link.snapshots.ready.sequence, t.link.snapshots.readyNew, t.link.reportDeadline)) =
        some (1, true, some 2000)
      ∧ ((after .reportExpiry published).bind fun t => answer .snapshotOpen t [0x38, 9]) =
        some (.ok, [0, 1, 0, 0, 1]) := by decide +kernel

/-- 9.9: the search goes from 250 to 500 kbit/s at 2,000 ms, and a frame fixes the rate. -/
theorem test_bit_rate_search :
    (after .searchDeadlineExpiry (atTime 2000 State.reset)).map
        (fun t => (t.link.searchRates[t.link.searchIndex]?, t.link.searchDeadline)) = some (some .k500, some 4000)
      ∧ (after .otherFrameReceived { State.reset with link := { State.reset.link with searchIndex := 1 } }).map
        (fun t => (t.link.state, t.link.rate)) = some (.running, some .k500) := by decide +kernel

/-- A link with one answer in the transmit buffer. -/
def sending (failures : Nat) : State :=
  { active with link := { active.link with
      state := .running, failures := failures
      buffer := some { frame := .response { code := 1, tag := 9, result := .ok, data := [] }, identifier := 0x641
                       data := frame [1, 9] } } }

/-- 9.9: the 32nd failure pauses the link with LINK_FAULT; the frame is the oldest of its class again. -/
theorem test_transmission :
    (after (.transmitDone .failed) (sending 31)).map
        (fun t => (t.link.state, t.link.quietDeadline, t.link.responses.length, eventKinds t)) =
        some (.busQuiet, some 1000, 1, [.storeInvalid, .linkFault])
      ∧ (after (.transmitDone .sent) (sending 31)).map (fun t => (t.link.buffer, t.link.failures)) = some (none, 0) := by
  decide +kernel

/-- R163, R168: an answer leaves under node_base + 1. -/
theorem test_transmit_start :
    (after .transmitStart { active with link := { active.link with
        state := .running, responses := [{ code := 1, tag := 9, result := .ok, data := bytes [0x54] }] } }).map
      (fun t => t.link.buffer.map fun x => (x.identifier, x.data)) =
      some (some (0x641, frame [1, 9, 0, 0x54])) := by decide +kernel

/-- R163, R165: the identifiers of the factory settings, and what LINK passes on by them. -/
theorem test_frame_use :
    (let f := BusFrame.withId 0x648 (frame [1])
     frameUse .factory f = .request ∧ frameUse .factory { f with remote := true } = .ignored
      ∧ frameUse .factory { f with id := .extended 0x648 } = .ignored)
      ∧ frameUse .factory (.withId 0x630 []) = .vehicleData ∧ frameUse .factory (.withId 0x640 []) = .ignored := by decide +kernel

/-- R163: after a SET_LINK, reception follows the new identifiers. -/
theorem test_reception_follows_the_settings :
    let s : State := { active with tables := { active.tables with link := { nodeBase := 0x650, vehicleId := 0x630, preferred := .k500 } } }
    (after (.requestFrame (.withId 0x658 (frame [2]))) s).map (fun t => t.link.requests.length) = some 1
      ∧ (after (.requestFrame (.withId 0x648 (frame [2]))) s).map (fun t => (t.link.requests.length, t.link.state)) =
        some (0, .running) := by decide +kernel

/-- R165, R166: the fifth request is discarded and noted. -/
theorem test_request_fifo :
    (after (.requestFrame (.withId 0x648 (frame [2]))) { active with link := { active.link with
        state := .running, requests := List.replicate 4 (frame [1]) } }).map
      (fun t => (t.link.requests.length, t.link.overrun)) = some (4, true) := by decide +kernel

/-! ### Answers -/

/-- R176: T, W, 3, 2 and revision 1; R175: an unknown code is BAD_FRAME. -/
theorem test_identify_and_bad_frame :
    answer .identify active [0x01, 9] = some (.ok, bytes [0x54, 0x57, 0x33, 0x32, 1])
      ∧ answer .badFrame active [0x99, 9] = some (.badFrame, bytes [0, 0, 0, 0, 0]) := by decide +kernel

/-- R178: READ_SETTING gives the factory 600 ms; R175: SET_SETTING brings 50 up to 100 and says so. -/
theorem test_settings :
    answer .readSetting active [0x08, 9, 0] = some (.ok, bytes [0, 0, 0, 2, 0x58])
      ∧ answer .setSetting active [0x07, 9, 0, 0, 0, 0, 50] = some (.clamped, bytes [0, 0, 0, 0, 100])
      ∧ answer .setSetting active [0x07, 9, 18, 0, 0, 0, 16] = some (.badValue, bytes [0, 0, 0, 0, 0]) := by
  decide +kernel

/-- 1.7: SET_AXLE of axle index 4 to DUAL in OFFLINE loses no ID; in ACTIVE it is WRONG_STATE. -/
theorem test_set_axle :
    answer .setAxle (inState .offline) [0x10, 9, 4, 2, 2, 1, 3] = some (.ok, bytes [0, 0, 0, 0, 0])
      ∧ answer .setAxle active [0x10, 9, 4, 2, 2, 1, 3] = some (.wrongState, bytes [0, 0, 0, 0, 0]) := by decide +kernel

/-- R3: the factory record of axle index 2, and the free-axle value without a trailer. -/
theorem test_read_axle :
    answer .readAxle active [0x11, 9, 2] = some (.ok, bytes [2, 1, 0, 1, 0])
      ∧ answer .readAxle active [0x11, 9, 7] = some (.ok, bytes [0, 0, 0, 0, 0]) := by decide +kernel

/-- R8, R10: a new ID is written, one held elsewhere is IN_USE, and one of the tool block BAD_VALUE. -/
theorem test_write_row :
    answer .writeRow onTruck [0x12, 9, 8, 0, 0, 0, 7] = some (.ok, bytes [0, 0, 0, 0, 0])
      ∧ answer .writeRow onTruck [0x12, 9, 8, 0x2B, 0x11, 0x00, 0x13] = some (.inUse, bytes [0, 0, 0, 0, 0])
      ∧ answer .writeRow onTruck [0x12, 9, 8, 255, 255, 255, 0] = some (.badValue, bytes [0, 0, 0, 0, 0]) := by
  decide +kernel

/-- R11, R12: the ID removed is returned; READ_ROW gives the ID, the usable bit and the status. -/
theorem test_clear_and_read_row :
    answer .clearRow onTruck [0x13, 9, 10] = some (.ok, bytes [0x2B, 0x11, 0x00, 0x13, 0])
      ∧ answer .readRow onTruck [0x14, 9, 10] = some (.ok, bytes [0x2B, 0x11, 0x00, 0x13, 0x81]) := by decide +kernel

/-- R14 to R18, R23: the roster's requests. -/
theorem test_roster :
    answer .rosterWriteTag active [0x15, 9, 0, 0, 0, 101] = some (.ok, bytes [0, 0, 0, 0, 0])
      ∧ answer .rosterWriteAxle coupled [0x15, 9, 2, 3, 1, 3, 0, 3] = some (.ok, bytes [0, 0, 0, 0, 0])
      ∧ answer .rosterWriteSlot coupled [0x15, 9, 2, 17, 0, 0, 0, 7] = some (.badValue, bytes [0, 0, 0, 0, 0])
      ∧ answer .rosterRead coupled [0x16, 9, 2, 0] = some (.ok, bytes [1, 0x3D, 0, 0, 0])
      ∧ answer .trailerSelect active [0x18, 9, 0] = some (.wrongState, bytes [0, 0, 0, 0, 0])
      ∧ answer .rosterClear coupled [0x17, 9, 2] = some (.ok, bytes [0, 0, 0, 0, 0]) := by decide +kernel

/-- 4.10: the derived limits of the factory laden record, 12 bits each (0x652, 0x546, 0x925). -/
theorem test_read_limits :
    answer .readLimits active [0x22, 9, 1, 5] = some (.ok, bytes [0x65, 0x25, 0x46, 0x92, 0x50]) := by decide +kernel

/-- R88, R89: a target above 4000 and an lc below lw are brought into range; R102: announce_min NONE is BAD_VALUE. -/
theorem test_limits_and_announce :
    answer .setLimitsP active [0x20, 9, 0x10, 0x0F, 0xA1, 26, 20, 77] = some (.clamped, bytes [0, 0, 0, 0, 0])
      ∧ answer .setLimitsT active [0x21, 9, 0x2A, 135, 155, 60, 20, 70] = some (.ok, bytes [0, 0, 0, 0, 0])
      ∧ answer .setAnnounce active [0x23, 9, 0, 0, 0] = some (.badValue, bytes [0, 0, 0, 0, 0]) := by decide +kernel

/-- 6.7: ENROL_ORDER of rows 8 to 11 is answered with length 4; ENROL_START needs a known speed. -/
theorem test_enrolment_requests :
    answer .enrolOrder active [0x28, 9, 0, 8, 9, 10, 11, 255] = some (.ok, bytes [4, 0, 0, 0, 0])
      ∧ answer .enrolStart active [0x29, 9, 1] = some (.wrongState, bytes [0, 0, 0, 0, 0])
      ∧ answer .enrolCancel (enrolling 0 active) [0x2A, 9] = some (.ok, bytes [0, 0, 0, 0, 0])
      ∧ answer .enrolStatus (enrolling 1 active) [0x2B, 9, 0] = some (.ok, bytes [1, 1, 9, 0, 0]) := by decide +kernel

/-- R130, R131: without a proposal both requests are NOT_FOUND; R58: an empty list carries its length. -/
theorem test_proposals_and_candidates :
    answer .proposalAccept active [0x2C, 9, 14, 0, 0, 0, 7] = some (.notFound, bytes [0, 0, 0, 0, 0])
      ∧ answer .proposalReject active [0x2D, 9, 14, 0, 0, 0, 7] = some (.notFound, bytes [0, 0, 0, 0, 0])
      ∧ answer .readCandidate active [0x30, 9, 0, 0] = some (.notFound, bytes [0, 0, 0, 0, 0]) := by decide +kernel

/-- 2.10: lane 2 with JAM_SEEN in HUNT; R154: the event after a cold reset is STORE_INVALID (code 22). -/
theorem test_lane_status_and_events :
    (let s := withLane 2 .freshHunt active
     answer .clearLaneStatus { s with lanes := s.lanes.set 2 { state := .freshHunt, flags := { LaneFlags.clear with jam := true } } }
        [0x31, 9, 5]) = some (.ok, bytes [0, 0, 0x18, 0, 0])
      ∧ answer .eventTake active [0x32, 9, 0] = some (.ok, bytes [22, 255, 255, 0, 0]) := by decide +kernel

/-- 10.5: under SERVICE with the line open, WRITE_ROW is GUARDED and READ_ROW is not. -/
theorem test_guard :
    let s : State := { active with tables := { active.tables with guardLevel := .service } }
    answer .writeRow s [0x12, 9, 4, 0, 0, 0, 7] = some (.guarded, bytes [0, 0, 0, 0, 0])
      ∧ answer .readRow s [0x14, 9, 5] = some (.ok, bytes [0, 0, 0, 0, 0]) := by decide +kernel

/-- 10.5: SET_GUARD starts an automatic save; R181: FREEZE sets FROZEN. -/
theorem test_set_guard_and_freeze :
    (after .setGuard (asked active [0x0A, 9, 1])).map (fun t => (t.tables.guardLevel, t.store.state)) =
        some (.service, .writing)
      ∧ (after .freeze (asked active [0x0B, 9])).map (fun t => t.mgu.frozen) = some true := by decide +kernel

/-- R163, R179: SET_LINK needs OFFLINE, and a base that is no multiple of 16 is BAD_VALUE. -/
theorem test_set_link :
    answer .setLink active [0x09, 9, 6, 0x50, 6, 0x30, 2] = some (.wrongState, bytes [0, 0, 0, 0, 0])
      ∧ answer .setLink (inState .offline) [0x09, 9, 6, 0x51, 6, 0x30, 2] = some (.badValue, bytes [0, 0, 0, 0, 0])
      ∧ answer .setLink (inState .offline) [0x09, 9, 6, 0x50, 6, 0x30, 2] = some (.ok, bytes [0, 0, 0, 0, 0]) := by
  decide +kernel

/-- R148, R150, R158, R161: the requests of the operating state and of the store. -/
theorem test_offline_and_saves :
    (after .goOffline (asked active [0x03, 9])).map (fun t => t.osc.state) = some .offline
      ∧ (after .goActive (asked (inState .offline) [0x04, 9])).map (fun t => t.osc.state) = some .parkWatch
      ∧ (after .save (asked active [0x06, 9])).map (fun t => t.store.state) = some .writing
      ∧ (after .restart (asked active [0x05, 9])).map (fun t => (t.osc.state, t.link.responses)) = some (.starting, []) := by
  decide +kernel

/-! ### Every hypothesis can be met

One theorem a statement, named after it: its clauses in order, each at a state and operands that meet the clause's hypotheses together,
on the boundary where a range has one. For a request, `asks s l` decides the statement's `WaitingFor` and the numbers of `l` are the bytes of the
frame, the selectors among them. -/

theorem witness_StepRunsTheFrontCommand :
    ({ active with pending := [.save, .freeze] } : State).pending = .save :: [.freeze] := rfl

theorem witness_EmptyQueueIsOneMillisecond :
    (let s : State := { active with phase := .off }; s.pending = [] ∧ s.phase = .off)
      ∧ (let s : State := { active with phase := .inReset }; s.pending = [] ∧ s.phase = .inReset)
      ∧ active.pending = [] ∧ active.phase = .running := by decide +kernel

theorem witness_EveryCommandCompletes :
    (Instr.requestFrame (.withId 0x648 (frame []))).wellFormed = true ∧ 8 < (bytes [1, 2, 3, 4, 5, 6, 7, 8, 9]).length := by decide +kernel

theorem witness_NothingActsOutsideRunning :
    let s : State := { active with phase := .off }
    s.phase ≠ .running ∧ s.phase = .off ∧ Instr.loadComplete.wellFormed = true
      ∧ Instr.loadComplete ∉ [.coldReset, .powerLoss, .resetRelease, .crankAssert, .crankRelease]
      ∧ ∀ v, Instr.loadComplete ≠ .ignitionChange v ∧ Instr.loadComplete ≠ .serviceChange v := by decide +kernel

/-- A save at a save state. -/
def saving (st : SaveState) : State :=
  { active with store := { active.store with state := st, captured := some .factory } }

/-- A completed image of the factory tables. -/
def stored (s : State) : State := { s with image := imageOf .factory }

theorem blank_no_image (c : Tables) : Image.blank ≠ imageOf c := fun h => by cases h

theorem cutShort_no_image (c : Tables) : Image.cutShort ≠ imageOf c := fun h => by cases h

/-- An image of the factory tables with a wrong CRC. -/
def wrongImage : Image := .written .factory (crc16 (Config.imageBits .factory) + 1)

theorem wrongImage_no_image (c : Tables) : wrongImage ≠ imageOf c := by
  intro h
  injection h with hc hx
  subst hc
  bv_omega

theorem witness_ColdResetLoadsTheTables :
    (saveInFlight State.reset = false ∧ ∀ c, State.reset.image ≠ imageOf c)
      ∧ (saveInFlight (saving .writing) = true ∧ ∀ c, Image.cutShort ≠ imageOf c)
      ∧ (let s : State := { State.reset with image := wrongImage }; saveInFlight s = false ∧ ∀ c, s.image ≠ imageOf c)
      ∧ saveInFlight (stored State.reset) = false ∧ (stored State.reset).image = imageOf .factory :=
  ⟨⟨rfl, blank_no_image⟩, ⟨rfl, cutShort_no_image⟩, ⟨rfl, wrongImage_no_image⟩, rfl, rfl⟩

theorem witness_PowerLossAndResetCutTheSave :
    (saving .writing).phase = .running ∧ ({ active with phase := .inReset } : State).phase ≠ .running := by decide +kernel

theorem witness_ResetReleaseEntersStarting :
    let s : State := { active with phase := .inReset }
    s.phase = .inReset ∧ s.link.state = .searching ∧ (∀ c, s.image ≠ imageOf c)
      ∧ ({ s with link := { s.link with state := .running } } : State).link.state ≠ .searching
      ∧ (stored s).phase = .inReset ∧ (stored s).image = imageOf .factory
      ∧ (∀ c, ({ s with image := .cutShort } : State).image ≠ imageOf c)
      ∧ ∀ c, ({ s with image := wrongImage } : State).image ≠ imageOf c :=
  ⟨rfl, rfl, blank_no_image, by decide, rfl, rfl, cutShort_no_image, wrongImage_no_image⟩

/-- ACTIVE at the moment its park delay ends. -/
def parking : State := atTime 5000 { active with osc := { active.osc with parkDelay := some 5000 } }

theorem witness_StateChangesByLoadAndDeadlines :
    (State.reset.phase = .running ∧ State.reset.osc.state = .starting)
      ∧ (parking.phase = .running ∧ parking.osc.state = .active ∧ parking.osc.parkDelay = some 5000 ∧ 5000 ≤ parking.now
          ∧ sessionOpen parking = false)
      ∧ (let s := enrolling 0 parking
         s.phase = .running ∧ s.osc.state = .active ∧ s.osc.parkDelay = some 5000 ∧ 5000 ≤ s.now ∧ sessionOpen s = true)
      ∧ (let s := atTime 5000 { inState .parkWatch with osc := { (inState .parkWatch).osc with activity := some 5000 } }
         s.phase = .running ∧ s.osc.state = .parkWatch ∧ s.osc.activity = some 5000 ∧ 5000 ≤ s.now) := by decide +kernel

def keyOn (s : State) : State := { s with lines := { s.lines with ignition := true } }

/-- The part with no park delay. -/
def atOnce : State :=
  keyOn { active with tables := { active.tables with settings := Settings.factory.set Setting.parkDelayS.item 0 } }

theorem witness_IgnitionTable :
    active.phase = .running
      ∧ ((inState .parkWatch).lines.ignition = false ∧ (inState .parkWatch).osc.state = .parkWatch)
      ∧ ((inState .offline).lines.ignition = false ∧ (inState .offline).osc.state = .offline)
      ∧ (active.lines.ignition = false ∧ active.osc.state = .active)
      ∧ ((keyOn (inState .dormant)).lines.ignition = true ∧ (keyOn (inState .dormant)).osc.state ≠ .active)
      ∧ ((keyOn active).lines.ignition = true ∧ (keyOn active).osc.state = .active
          ∧ (keyOn active).setting .parkDelayS ≠ 0)
      ∧ (atOnce.lines.ignition = true ∧ atOnce.osc.state = .active ∧ atOnce.setting .parkDelayS = 0
          ∧ sessionOpen atOnce = false)
      ∧ ((enrolling 0 atOnce).lines.ignition = true ∧ (enrolling 0 atOnce).osc.state = .active
          ∧ (enrolling 0 atOnce).setting .parkDelayS = 0 ∧ sessionOpen (enrolling 0 atOnce) = true) := by decide +kernel

def guarded (level : GuardLevel) (s : State) : State := { s with tables := { s.tables with guardLevel := level } }

theorem witness_GuardReadsTheServiceLine :
    ({ active with mgu := { active.mgu with frozen := true } } : State).mgu.frozen = true
      ∧ (active.mgu.frozen = false ∧ active.tables.guardLevel = .openLevel)
      ∧ ((guarded .service active).mgu.frozen = false ∧ (guarded .service active).tables.guardLevel = .service)
      ∧ ((guarded .fleet active).mgu.frozen = false ∧ (guarded .fleet active).tables.guardLevel = .fleet) := by decide +kernel

theorem witness_CrankSuspendsTheSave :
    active.phase = .running ∧ (saving .writing).store.state = .writing ∧ (saving .resuming).store.state = .resuming
      ∧ active.store.state = .idle ∧ (saving .suspended).store.state = .suspended
      ∧ (let s := atTime 100 { saving .resuming with store := { (saving .resuming).store with resumeAt := some 100 } }
         s.phase = .running ∧ s.store.state = .resuming ∧ s.store.resumeAt = some 100 ∧ 100 ≤ s.now) := by decide +kernel

theorem witness_LaneSyncJamClearViolation :
    active.phase = .running
      ∧ (let s := withLane 1 (.hunt (syncWord.take 15) .empty) active
         (s.lane 1).state = .hunt (syncWord.take 15) .empty
          ∧ pushHistory (syncWord.take 15) (syncWord.getD 15 false) = syncWord
          ∧ (0 : BitVec 16).toNat = 257 * 0 ∧ (65535 : BitVec 16).toNat = 257 * 255)
      ∧ (let s := withLane 1 (.hunt [] { value := true, length := 47 }) active
         (s.lane 1).state = .hunt [] { value := true, length := 47 } ∧ pushHistory [] true ≠ syncWord)
      ∧ ((withLane 1 (.jammed (!false)) active).lane 1).state = .jammed (!false)
      ∧ ((withLane 1 (.body [] { value := false, length := 5 } 9) active).lane 1).state =
          .body [] { value := false, length := 5 } 9 := by decide +kernel

theorem witness_BitTakenUpdatesTheLane :
    active.phase = .running
      ∧ (((withLane 1 (.hunt [] { value := true, length := 46 }) active).lane 1).state =
            .hunt [] { value := true, length := 46 }
          ∧ pushHistory [] true ≠ syncWord ∧ (extendRun { value := true, length := 46 } true).length ≠ 48)
      ∧ (let taken := List.replicate 70 true
         ((withLane 1 (.body taken { value := true, length := 4 } 9) active).lane 1).state =
            .body taken { value := true, length := 4 } 9 ∧ 4 < 5 ∧ taken.length < 71)
      ∧ ((withLane 1 (.body [] { value := !true, length := 5 } 9) active).lane 1).state =
          .body [] { value := !true, length := 5 } 9
      ∧ ((withLane 1 (.jammed true) active).lane 1).state = .jammed true := by decide +kernel

/-- A body whose pressure field has an upper bit set, with its CRC. -/
def oddBody : List Bool :=
  (telegramBits telegram).set 40 true ++ bitsOf 8 (crc8 ((telegramBits telegram).set 40 true)).toNat

theorem witness_BadBodiesAreDropped :
    (let taken := List.replicate 71 true
     ((withLane 1 (.body taken { value := true, length := 4 } 9) active).lane 1).state =
        .body taken { value := true, length := 4 } 9
      ∧ taken.length = 71 ∧ (crc8 ((taken ++ [true]).take 64)).toNat ≠ field (taken ++ [true]) 64 8)
      ∧ (let taken := oddBody.take 71
         let bit := oddBody.getD 71 false
         taken.length = 71 ∧ (crc8 ((taken ++ [bit]).take 64)).toNat = field (taken ++ [bit]) 64 8
          ∧ field (taken ++ [bit]) 40 4 ≠ 0)
      ∧ (let body := telegramBody { telegram with id := 0 }
         (crc8 (body.take 64)).toNat = field body 64 8 ∧ field body 0 32 = 0) := by decide +kernel

theorem witness_TelegramsDecodeToWhatWasSent :
    let taken := (telegramBody telegram).take 71
    let s := withLane 1 (.body taken { value := true, length := 1 } 143) active
    s.phase = .running ∧ telegram.id ≠ 0 ∧ (s.lane 1).state = .body taken { value := true, length := 1 } 143
      ∧ (telegramBody telegram)[71]? = some ((telegramBody telegram).getD 71 false) := by decide +kernel

/-- A session at step `i` is legal. -/
theorem session_legal (s : State) (i : Nat) (hs : s.enc.session = some i) (hl : s.enc.walk.length ≤ 32)
    (hc : s.enc.copies.length ≤ 4) (ho : SessionOpenLegal s i) : SessionLegal s := by
  refine ⟨hl, hc, fun h => ?_, fun j h => ?_⟩
  · simp [hs] at h
  · obtain rfl : i = j := Option.some.inj (hs.symm.trans h)
    exact ho

/-- The roster of 1.6 while the trailer is being recognised, and while it is unknown. -/
def coupledAs (t : TrailerState) : State := { withRoster active with trailer := t }

/-- A session at its first step whose duplicate memory holds the record that waits, as heard at the latest moment that counts. -/
def remembering (t : TelegramRecord) (s : State) : State :=
  let s := handing t (enrolling 0 s)
  { s with enc := { s.enc with copies := [{ id := t.id, sequence := t.sequence, arrival := t.arrival - 600 }] } }

/-- The hypotheses that the clauses on the session's duplicate memory share. -/
def heardTwice (t : TelegramRecord) (s : State) : Bool :=
  let s := remembering t s
  decide (t.mode = .triggered ∧ Handed s [] t [] ∧ Listening s ∧ s.enc.session ≠ none
    ∧ ∃ c ∈ s.enc.copies, c.id = t.id ∧ c.sequence = t.sequence ∧ absDiff c.arrival t.arrival ≤ s.setting .duplicateWindowMs)

theorem witness_DiscardedAndDuplicateRecords :
    (let s := handing telegram (inState .dormant)
     s.phase = .running ∧ Handed s [] telegram [] ∧ s.osc.state = .dormant)
      ∧ (let s := handing (tool 1) (inState .parkWatch)
         Handed s [] (tool 1) [] ∧ Listening s ∧ inToolBlock (tool 1).id = true ∧ sessionOpen s = false)
      ∧ (let s := handing { telegram with arrival := 734818 } (withWheel 10 { WheelRecord.fresh .live with
            lastSequence := some 2, lastAccepted := some 734218 } onTruck)
         Listening s ∧ rowHolding s telegram.id = some 10 ∧ (s.wheel 10).lastSequence = some telegram.sequence
          ∧ (s.wheel 10).lastAccepted = some 734218 ∧ absDiff 734218 734818 ≤ s.setting .duplicateWindowMs)
      ∧ (heardTwice (tool 1) active = true ∧ inToolBlock (tool 1).id = true)
      ∧ (heardTwice (triggered 7) active = true ∧ UnknownId active 7)
      ∧ (heardTwice (triggered 0x2B110015) (coupledAs .unknown) = true ∧ inToolBlock 0x2B110015 = false
          ∧ rowHolding (coupledAs .unknown) 0x2B110015 = none ∧ slotsWith (coupledAs .unknown) 0x2B110015 ≠ [])
      ∧ (heardTwice (triggered 0x2B110015) (coupledAs .recognising) = true
          ∧ rowHolding (coupledAs .recognising) 0x2B110015 = none ∧ slotsWith (coupledAs .recognising) 0x2B110015 ≠ []) := by
  decide +kernel

/-- The state with the session and the record that `heardTwice` asks of is lawful. -/
theorem witness_DiscardedAndDuplicateRecords_session :
    SessionLegal (remembering (triggered 0x2B110015) (coupledAs .recognising)) :=
  session_legal _ 0 rfl (by decide) (by decide) (by decide +kernel)

/-- TAU takes the only record handed as a measurement of row 10. -/
def measures (s : State) (t : TelegramRecord) : Bool := decide (Measures (handing t s) [] t [] 10)

/-- Row 10 with a trend ring. -/
def trending (ring : List Sample) : State := withWheel 10 { WheelRecord.fresh .live with ring := ring } onTruck

/-- The axle of row 10 liftable, and raised or not. -/
def lifted (mask : BitVec 8) (s : State) : State :=
  { s with
    tables := { s.tables with axles := s.tables.axles.set 2 { s.tables.axles[2] with liftable := true } }
    vdm := { s.vdm with liftMask := mask } }

/-- The clauses on the ring stand at 1617, the Pc of 2.9's telegram with 4.5's ambient pressure. -/
theorem witness_MeasurementIsWritten :
    (let t := { telegram with pressure := 4093 }; measures onTruck t = true ∧ ¬ FaultKind t)
      ∧ (let t := { telegram with pressure := 4094 }; measures onTruck t = true ∧ FaultKind t)
      ∧ (let t := { telegram with pressure := 4095 }; measures onTruck t = true ∧ FaultKind t)
      ∧ (let t := { telegram with fault := true }; measures onTruck t = true ∧ FaultKind t)
      ∧ (measures (lifted 4 onTruck) telegram = true ∧ raisedRow (lifted 4 onTruck) 10 = true ∧ raisedRow onTruck 10 = false)
      ∧ (let x : Sample := { pc := 1617, time := 734218 }
         (compute onTruck.vdm.ambient (groupOf onTruck 10).temp.tref telegram).pc = x.pc
          ∧ measures (trending [x]) telegram = true
          ∧ refillFound [{ pc := 1596, time := 734217 }] x = true ∧ measures (trending [{ pc := 1596, time := 734217 }]) telegram = true
          ∧ refillFound [{ pc := 1597, time := 734217 }] x = false ∧ refillFound slowLeak x = false)
      ∧ (let s := withWheel 10 (.fresh .missing) (enrolling 0 onTruck)
         measures s telegram = true ∧ (s.wheel 10).status = .missing ∧ sessionOpen s = true)
      ∧ measures { onTruck with osc := (inState .parkWatch).osc } telegram = true := by decide +kernel

/-- A candidate. -/
def candidate (id hits : Nat) : Candidate :=
  { id := BitVec.ofNat 32 id, firstHeard := 0, lastHeard := 0, hits := hits, laneMask := 1, bestLane := 0, bestRssi := 143
    movingHits := 0, lastSequence := 2, lastTime := 733618 }

def fullList : List Candidate := (List.range 16).map fun i => candidate (1000 + i) (1 + i)

theorem witness_UnknownSensorBecomesCandidate :
    (let s := handing telegram { active with candidates := fullList.take 15 }
     Listening s ∧ Handed s [] telegram [] ∧ UnknownId s telegram.id ∧ sessionOpen s = false
      ∧ telegram.id ∉ s.candidates.map Candidate.id ∧ s.candidates.length < 16)
      ∧ (let s := enrolling 0 (handing telegram { active with candidates := fullList })
         Listening s ∧ Handed s [] telegram [] ∧ UnknownId s telegram.id ∧ telegram.mode ≠ .triggered
          ∧ telegram.id ∉ s.candidates.map Candidate.id ∧ 16 ≤ s.candidates.length) := by decide +kernel

theorem witness_CandidateIsUpdatedInPlace :
    let c := candidate 0x2B110013 255
    let s := handing telegram { active with candidates := [candidate 7 1, c, candidate 8 1] }
    Listening s ∧ Handed s [] telegram [] ∧ UnknownId s telegram.id ∧ sessionOpen s = false
      ∧ s.candidates = [candidate 7 1] ++ c :: [candidate 8 1] ∧ c.id = telegram.id ∧ (s.candidates.map Candidate.id).Nodup
      ∧ telegram.rssi.toNat ≤ c.bestRssi.toNat ∧ c.bestRssi.toNat < (144 : Byte).toNat
      ∧ c.lastSequence = telegram.sequence ∧ absDiff c.lastTime telegram.arrival = s.setting .duplicateWindowMs
      ∧ ¬ absDiff c.lastTime (telegram.arrival + 1) ≤ s.setting .duplicateWindowMs := by decide +kernel

/-- A candidate at the moment it ages out, and row 14 MISSING. -/
def ageing : State :=
  atTime 900000 (withWheel 14 (.fresh .missing) { active with candidates := [candidate 7 10] })

/-- The same with a proposal open for row 14 and the candidate. -/
def proposing : State := { ageing with enc := { ageing.enc with proposal := some (14, 7) } }

theorem proposing_legal : ProposalLegal proposing := by
  intro p h
  obtain rfl : (14, 7) = p := Option.some.inj h
  decide +kernel

theorem witness_CandidateAgeAndRecognitionWindow :
    (ageing.phase = .running ∧ candidate 7 10 ∈ ageing.candidates ∧ CandidatesLegal ageing ∧ ProposalLegal ageing
        ∧ (candidate 7 10).lastHeard + ageing.setting .candidateAgeS * 1000 ≤ ageing.now
        ∧ ∀ r, ageing.enc.proposal ≠ some (r, (candidate 7 10).id))
      ∧ (proposing.phase = .running ∧ candidate 7 10 ∈ proposing.candidates ∧ CandidatesLegal proposing
        ∧ ProposalLegal proposing ∧ proposing.enc.proposal = some (14, (candidate 7 10).id))
      ∧ (let s : State := { active with trailer := .recognising, window := some 0 }
         s.phase = .running ∧ s.trailer = .recognising ∧ s.window = some 0 ∧ 0 ≤ s.now) :=
  ⟨⟨rfl, by decide +kernel, by decide +kernel, fun _ h => (by cases h), by decide +kernel, fun _ h => by cases h⟩,
    ⟨rfl, by decide +kernel, by decide +kernel, proposing_legal, rfl⟩, by decide +kernel⟩

/-- The record of slot 8 of entry 2, in a trailer state, with IDs heard and what the slot remembers. -/
def hearing (trailer : TrailerState) (heard : List SensorId) (memory : Option (BitVec 4 × Millis)) : Bool :=
  let t := { telegram with id := 0x2B110015 }
  let s := handing t { withRoster active with
    trailer := trailer
    recog := active.recog.set 2 { heard := heard, sequence := RecogEntry.empty.sequence.set 8 memory } }
  decide (Listening s ∧ Handed s [] t [] ∧ inToolBlock t.id = false ∧ rowHolding s t.id = none ∧ slotsWith s t.id = [(2, 8)]
    ∧ t.mode ≠ .triggered)

theorem witness_RecognitionIdentifiesTheTrailer :
    hearing .recognising [0x2B110011, 0x2B110013] none = true ∧ hearing .unknown [] none = true
      ∧ hearing .recognising [0x2B110015] (some (2, 733618)) = true ∧ absDiff 733618 734218 ≤ active.setting .duplicateWindowMs
      ∧ hearing .recognising [0x2B110011] none = true ∧ threshold entry317 = 3 ∧ entry317.tag ≠ 0 := by decide +kernel

/-- A session at step `i` with the tool's action waiting. -/
def acting (code i : Nat) : State := handing (tool code) (enrolling i active)

abbrev Acts (code i : Nat) : Prop :=
  Listening (acting code i) ∧ Handed (acting code i) [] (tool code) [] ∧ inToolBlock (tool code).id = true
    ∧ (acting code i).enc.session = some i ∧ sessionCopy (acting code i) (tool code) = false
    ∧ (tool code).pressure.toNat = code

theorem witness_ToolActionsAndTheStepDeadline :
    (Acts 1 2 ∧ 2 + 1 < (acting 1 2).enc.walk.length) ∧ (Acts 2 1 ∧ 0 < 1) ∧ Acts 2 0 ∧ Acts 3 3
      ∧ (let s := atTime 120000 (enrolling 3 active)
         s.phase = .running ∧ s.enc.session = some 3 ∧ s.enc.stepDeadline = some 120000 ∧ 120000 ≤ s.now ∧ SessionLegal s) :=
  ⟨by decide +kernel, by decide +kernel, by decide +kernel, by decide +kernel, rfl, rfl, rfl, by decide +kernel,
    session_legal _ 3 rfl (by decide) (by decide) (by decide +kernel)⟩

/-- The hypotheses that the clauses of `AnswersToAStep` share. -/
def answers (s : State) (t : TelegramRecord) (i : Nat) (r : Row) : Bool :=
  decide (Listening s ∧ Handed s [] t [] ∧ t.mode = .triggered ∧ s.enc.session = some i ∧ s.enc.walk[i]? = some r
    ∧ i + 1 < s.enc.walk.length)

/-- A session at step 1 that holds a pair of the ID for its first row. -/
def paired (id : SensorId) (s : State) : State :=
  let s := enrolling 1 s
  { s with enc := { s.enc with pairs := [{ row := 8, id := id, source := none }], allowMove := true } }

theorem witness_AnswersToAStep :
    (let t := triggered 7
     let s := handing t (enrolling 2 active)
     answers s t 2 10 ∧ UnknownId s t.id ∧ sessionCopy s t = false ∧ t.id ∉ s.enc.pairs.map EnrolPair.id)
      ∧ (let t := triggered 7
         let s := handing t (paired 7 active)
         answers s t 1 9 ∧ UnknownId s t.id ∧ sessionCopy s t = false ∧ t.id ∈ s.enc.pairs.map EnrolPair.id)
      ∧ (let t := triggered 0x2B110015
         let s := handing t (enrolling 0 (withRoster active))
         answers s t 0 8 ∧ inToolBlock t.id = false ∧ rowHolding s t.id = none ∧ slotsWith s t.id ≠ []
          ∧ s.trailer ≠ .recognising ∧ sessionCopy s t = false ∧ t.id ∉ s.enc.pairs.map EnrolPair.id)
      ∧ (let t := triggered 7
         let s := handing t (enrolling 0 (withRow 8 7 active))
         answers s t 0 8 ∧ inToolBlock t.id = false ∧ rowHolding s t.id = some 8 ∧ enrolledCopy s 8 t = false)
      ∧ (let t := triggered 9
         let s := handing t (paired 7 (withRow 10 9 active))
         answers s t 1 9 ∧ rowHolding s t.id = some 10 ∧ enrolledCopy s 10 t = false ∧ s.enc.allowMove = true)
      ∧ (let t := triggered 9
         let s := handing t (enrolling 1 (withRow 10 9 active))
         answers s t 1 9 ∧ rowHolding s t.id = some 10 ∧ enrolledCopy s 10 t = false ∧ s.enc.allowMove = false) := by
  decide +kernel

/-- The last step of the walk, rows 10 and 11 enrolled, with pairs made and a record waiting. -/
def lastStep (pairs : List EnrolPair) (t : TelegramRecord) : State :=
  let s := handing t (enrolling 3 (withRow 11 9 (withRow 10 5 active)))
  { s with enc := { s.enc with pairs := pairs, allowMove := true } }

/-- A pair whose source is row 11 and one that is new. -/
def moving11 : List EnrolPair := [{ row := 8, id := 9, source := some 11 }, { row := 9, id := 7, source := none }]

/-- The hypotheses that the clauses of `CompletionAppliesThePairs` share, but `SessionLegal`. -/
def completes (s : State) (t : TelegramRecord) : Bool :=
  decide (Listening s ∧ Handed s [] t [] ∧ s.enc.session = some 3 ∧ s.enc.walk[3]? = some 11 ∧ 3 + 1 = s.enc.walk.length
    ∧ WalkLegal s ∧ (∀ p ∈ s.enc.pairs, PairLegal s p) ∧ sessionCopy s t = false)

theorem witness_CompletionAppliesThePairs :
    (let s := lastStep moving11 (tool 1)
     SessionLegal s ∧ completes s (tool 1) ∧ inToolBlock (tool 1).id = true ∧ (tool 1).pressure.toNat = 1
      ∧ guardAllows s .wheel = true)
      ∧ (let s := guarded .fleet (lastStep moving11 (tool 1))
         SessionLegal s ∧ completes s (tool 1) ∧ guardAllows s .wheel = false)
      ∧ (let t := triggered 6
         let s := lastStep moving11 t
         SessionLegal s ∧ completes s t ∧ UnknownId s t.id ∧ t.id ∉ s.enc.pairs.map EnrolPair.id
          ∧ guardAllows s .wheel = true ∧ guardAllows (guarded .fleet s) .wheel = false)
      ∧ (let t := triggered 9
         let s := lastStep [{ row := 8, id := 7, source := none }] t
         SessionLegal s ∧ completes s t ∧ rowHolding s t.id = some 11 ∧ enrolledCopy s 11 t = false
          ∧ t.id ∉ s.enc.pairs.map EnrolPair.id)
      ∧ (let t := triggered 5
         let s := lastStep moving11 t
         SessionLegal s ∧ completes s t ∧ rowHolding s t.id = some 10 ∧ enrolledCopy s 10 t = false
          ∧ t.id ∉ s.enc.pairs.map EnrolPair.id ∧ s.enc.allowMove = true)
      ∧ (let t := triggered 5
         let s := guarded .fleet (lastStep moving11 t)
         SessionLegal s ∧ completes s t ∧ rowHolding s t.id = some 10 ∧ enrolledCopy s 10 t = false
          ∧ t.id ∉ s.enc.pairs.map EnrolPair.id ∧ s.enc.allowMove = true ∧ guardAllows s .wheel = false) := by
  refine ⟨⟨?_, by decide +kernel⟩, ⟨?_, by decide +kernel⟩, ⟨?_, by decide +kernel⟩, ⟨?_, by decide +kernel⟩,
    ⟨?_, by decide +kernel⟩, ⟨?_, by decide +kernel⟩⟩
  all_goals exact session_legal _ 3 rfl (by decide) (by decide) (by decide +kernel)

/-- Row 14 with a moving missing time. -/
def missing14 (ms : Nat) (s : State) : State :=
  { s with episodes := s.episodes.set 14 { Episode.reset with movingMs := ms } }

/-- Row 14 at the moment it becomes due. -/
def rowDue14 (s : State) : State := missing14 300000 s

/-- A candidate heard best on lane 2, the near lane of the axle of row 14. -/
def rider (id movingHits firstHeard : Nat) : Candidate :=
  { candidate id 20 with movingHits := movingHits, firstHeard := firstHeard, bestLane := 2 }

/-- Candidates beside a due row 14 that was last accepted at 250 s. -/
def riding : State :=
  let s := rowDue14 ageing
  { s with
    wheels := s.wheels.set 14 { s.wheel 14 with lastAccepted := some 250000 }
    candidates := [rider 7 9 250001, rider 8 10 250000, rider 9 10 250001, { rider 10 10 250001 with bestLane := 1 }] }

/-- 6.9, R126: of four candidates the one with ten moving-rolling hits, first heard after row 14 was, on its near lane. -/
theorem test_only_the_rider_is_proposed :
    (after (.rowDue 14) riding).map (fun t => (t.enc.proposal, eventKinds t)) =
      some (some (14, 9), [.storeInvalid, .proposalOpen]) := by decide +kernel

theorem witness_RowDueSearchesForAReplacement :
    (let s := rowDue14 proposing
     s.phase = .running ∧ DueRow s 14 ∧ (s.episode 14).dueTaken = false ∧ ¬ SearchAllowed s)
      ∧ (let s := rowDue14 ageing
         s.phase = .running ∧ DueRow s 14 ∧ (s.episode 14).dueTaken = false ∧ SearchAllowed s)
      ∧ ¬ DueRow (missing14 299999 ageing) 14 ∧ ¬ DueRow (rowDue14 active) 14
      ∧ DueRow riding 14 ∧ SearchAllowed riding ∧ candidatesFor riding 14 = [rider 9 10 250001] := by decide +kernel

theorem witness_StaleAndMissingExpiry :
    (let s := atTime 680000 silent
     s.phase = .running ∧ 680000 ≤ s.now ∧ (s.wheel 10).status = .live ∧ (s.wheel 10).staleAt = some 680000)
      ∧ (let s := atTime 800000 silent
         800000 ≤ s.now ∧ (s.wheel 10).status = .live ∧ (s.wheel 10).missingAt = some 800000
          ∧ s.osc.state = .active) := by decide +kernel

/-- Row 10 with an announced level and a repeat due. -/
def repeating (c : Condition) (s : State) : State :=
  withWheel 10 { WheelRecord.fresh .live with
    active := condBit c, announced := condBit c, repeatAt := some 0 } s

theorem witness_AlertRepeats :
    (let s := repeating .lowWarn active
     s.phase = .running ∧ (s.wheel 10).repeatAt = some 0 ∧ 0 ≤ s.now ∧ s.osc.state = .active
      ∧ (s.wheel 10).announcedLevel = .warning ∧ (10 : Row) ∉ s.link.alerts.map AlertFrame.row)
      ∧ (let s := repeating .lowCrit (inState .parkWatch)
         (s.wheel 10).repeatAt = some 0 ∧ s.osc.state = .parkWatch ∧ (s.wheel 10).announcedLevel = .critical)
      ∧ (let s := repeating .lowWarn (inState .parkWatch)
         (s.wheel 10).repeatAt = some 0 ∧ repeatQualifies s.osc.state (s.wheel 10).announcedLevel = false) := by
  decide +kernel

/-- The state the frame with the vehicle data identifier leaves. -/
def afterFrame (data : List Nat) (s : State) : Option State := after (.vehicleDataFrame (.withId 0x630 (bytes data))) s

/-- A speed, and the coupling. -/
def driving (speed : Nat) (connected : Bool) (s : State) : State :=
  { s with vdm := { s.vdm with speed := some speed, connected := connected } }

/-- Row 10 LIVE since `base`. -/
def live10 (base : Millis) : State := withWheel 10 { WheelRecord.fresh .live with base := some base, pc := 1500, pg := 1500 } onTruck

/-- Row 10 LIVE on a liftable axle with LOW_WARN active. -/
def low10 (mask : BitVec 8) : State :=
  withWheel 10 { WheelRecord.fresh .live with active := condBit .lowWarn, pc := 1500, pg := 1500 } (lifted mask onTruck)

/-- A session that walks a trailer row. -/
def trailerWalk : State :=
  let s := enrolling 0 (driving 3 true coupled)
  { s with enc := { s.enc with walk := [8, 20] } }

theorem witness_VehicleDataFrameIsTaken :
    (active.phase = .running ∧ active.osc.state ≠ .dormant ∧ (bytes [255, 0, 3, 1, 0, 0, 1, 0]).length = 8
        ∧ natAt (bytes [255, 0, 3, 1, 0, 0, 1, 0]) 3 = 1 ∧ active.vdm.connected = false ∧ active.trailer = .none)
      ∧ (let s : State := { active with vdm := { active.vdm with connected := true, status := .lost } }
         s.phase = .running ∧ s.vdm.status = .lost ∧ natAt (bytes [0, 0, 0, 0, 0, 0, 0, 0]) 3 = 0 ∧ s.vdm.connected = true)
      ∧ (let s := driving 3 true coupled
         s.phase = .running ∧ s.osc.state = .active ∧ s.vdm.connected = true ∧ s.trailer = .identified 2)
      ∧ (let s := enrolling 0 (driving 3 false active)
         s.phase = .running ∧ some 4 ≠ s.vdm.speed ∧ s.setting .movingSpeedKmh < 4 ∧ s.enc.session = some 0)
      ∧ (trailerWalk.phase = .running ∧ ¬ trailerWalk.setting .movingSpeedKmh < 3 ∧ trailerWalk.vdm.connected = true
          ∧ trailerWalk.trailer ≠ .none ∧ trailerWalk.enc.session = some 0 ∧ trailerWalk.enc.walk.any isTrailerRow = true)
      ∧ (let s := enrolling 0 (driving 3 true coupled)
         s.enc.walk.any isTrailerRow = false ∧ s.enc.pairs.any (fun p => p.source.any isTrailerRow) = false) := by
  decide +kernel

/-- An open session of the clauses above, and none, are lawful. -/
theorem witness_VehicleDataFrameIsTaken_session :
    SessionLegal active ∧ SessionLegal (low10 4) ∧ SessionLegal (live10 0) ∧ SessionLegal (enrolling 0 (driving 3 false active))
      ∧ SessionLegal trailerWalk ∧ SessionLegal (enrolling 0 (driving 3 true coupled)) := by
  refine ⟨⟨by decide, by decide, fun _ => ⟨rfl, rfl, rfl⟩, fun _ h => by injection h⟩,
    ⟨by decide, by decide, fun _ => ⟨rfl, rfl, rfl⟩, fun _ h => by injection h⟩,
    ⟨by decide, by decide, fun _ => ⟨rfl, rfl, rfl⟩, fun _ h => by injection h⟩, ?_, ?_, ?_⟩
  all_goals exact session_legal _ 0 rfl (by decide) (by decide) (by decide +kernel)

/-- The clauses on rows: the timing set to moving and to parked, a load that changes, an axle lowered and raised. -/
theorem witness_VehicleDataFrameIsTaken_rows :
    (afterFrame [4, 1, 1, 255, 0, 0, 0, 0] (atTime 60000 (live10 0))).map (fun u =>
        decide (usesMoving (live10 0) 10 = false ∧ usesMoving u 10 = true ∧ u.osc.state = .active
          ∧ holdsMissing ((live10 0).wheel 10).status = true)) = some true
      ∧ (let s := driving 4 false (live10 0)
         (afterFrame [3, 1, 1, 255, 0, 0, 0, 0] (atTime 3600000 s)).map (fun u =>
          decide (usesMoving s 10 = true ∧ usesMoving u 10 = false ∧ (s.wheel 10).base = some 0 ∧ missingMs u 10 ≤ u.now)) =
            some true
          ∧ (afterFrame [3, 1, 1, 255, 0, 0, 0, 0] (atTime 1200000 s)).map (fun u =>
            decide (u.now < missingMs u 10 ∧ staleMs u 10 ≤ u.now)) = some true
          ∧ (afterFrame [3, 1, 1, 255, 0, 0, 0, 0] (atTime 1199999 s)).map (fun u => decide (u.now < staleMs u 10)) = some true)
      ∧ (let s : State := { live10 0 with vdm := { active.vdm with truck := { active.vdm.truck with applied := .unladen } } }
         (afterFrame [0, 3, 1, 255, 0, 0, 0, 0] s).map (fun u => decide ((u.wheel 10).status = .live ∧ u.osc.state = .active
          ∧ (unitLoad u (unitOfRow 10)).applied ≠ (unitLoad s (unitOfRow 10)).applied)) = some true)
      ∧ (afterFrame [0, 1, 1, 255, 0, 0, 0, 0] (low10 4)).map (fun u => (raisedRow (low10 4) 10, raisedRow u 10)) =
          some (true, false)
      ∧ (afterFrame [0, 1, 1, 255, 4, 0, 0, 0] (low10 0)).map (fun u => (raisedRow (low10 0) 10, raisedRow u 10,
          hasCond ((low10 0).wheel 10).active .lowWarn)) = some (false, true, true) := by decide +kernel

/-- The clauses on frames not taken. -/
theorem witness_VehicleDataFrameIsTaken_otherwise :
    (let s : State := { inState .dormant with link := { active.link with state := .running } }
     s.phase = .running ∧ s.link.state ≠ .searching ∧ s.osc.state = .dormant ∧ (frame []).length ≤ 8)
      ∧ (bytes [1, 2, 3, 4, 5, 6, 7]).length ≠ 8 := by decide +kernel

theorem witness_FrameTimeoutLosesTheData :
    (let s := atTime 1000 active
     s.phase = .running ∧ s.vdm.frameDeadline = some 1000 ∧ 1000 ≤ s.now ∧ s.vdm.status ≠ .lost)
      ∧ (let s := atTime 1000 { active with vdm := { active.vdm with status := .lost } }
         s.vdm.frameDeadline = some 1000 ∧ 1000 ≤ s.now ∧ s.vdm.status = .lost) := by decide +kernel

theorem witness_SettledLoadIsAppliedAndReevaluated :
    (let s := settling .unladen (withWheel 10 { WheelRecord.fresh .live with pc := 4000, pg := 4000 } onTruck)
     s.phase = .running ∧ (unitLoad s .truck).settle = some (.unladen, 0) ∧ 0 ≤ s.now ∧ unitOfRow 10 = .truck
      ∧ unitOfRow 20 ≠ .truck ∧ .unladen ≠ (unitLoad s .truck).applied ∧ (s.wheel 10).status = .live ∧ s.osc.state = .active
      ∧ (s.wheel 10).pc ≤ 4000 ∧ (s.wheel 10).pg ≤ 4000
      ∧ reevaluated s 10 = true ∧ reevaluated s 9 = false)
      ∧ (let s := settling .laden active
         (unitLoad s .truck).settle = some (.laden, 0) ∧ .laden = (unitLoad s .truck).applied) := by decide +kernel

/-! #### Requests -/

/-- Four answers that wait to be sent. -/
def crowded (s : State) : State :=
  { s with link := { s.link with responses := List.replicate 4 { code := 1, tag := 0, result := .ok, data := [] } } }

/-- PARK_WATCH with REQUEST outside the activity mask. -/
def quietWatch : State :=
  { inState .parkWatch with tables := { Tables.factory with settings := Settings.factory.set Setting.activityMask.item 13 } }

theorem witness_RequestsAreTakenInOrder :
    (Instr.save ∈ requestCommands ∧ active.link.requests = [] ∧ 4 ≤ answersOutstanding (crowded (asked active [6])))
      ∧ (active.osc.state ≠ .parkWatch ∧ active.osc.state ≠ .dormant)
      ∧ (quietWatch.osc.state = .parkWatch ∧ (quietWatch.setting .activityMask).testBit 1 = false)
      ∧ ((inState .parkWatch).osc.state = .parkWatch ∧ ((inState .parkWatch).setting .activityMask).testBit 1 = true)
      ∧ (inState .dormant).osc.state = .dormant
      ∧ (let data := bytes [1, 2, 3, 4, 5, 6, 7]
         Waiting { active with link := { active.link with requests := [data] } } data ∧ data.length ≠ 8)
      ∧ (Waiting (asked active [0x0C]) (frame [0x0C]) ∧ requestClass (natAt (frame [0x0C]) 0) = none) := by decide +kernel

/-- The request is refused by the guard. -/
abbrev refused (s : State) (l : List Nat) : Prop :=
  Waiting (asked s l) (frame l) ∧ (frame l).length = 8
    ∧ guardAllows (served s l) (classOf (frame l)) = false

theorem witness_RefusedEditsChangeNothing :
    (((0x12, Instr.writeRow) ∈ editCommands) ∧ refused (guarded .service active) [0x12])
      ∧ ((0x20, Instr.setLimitsP) ∈ editCommands ∧ refused (guarded .fleet active) [0x20])
      ∧ (refused (guarded .service active) [0x15] ∧ guardAllows (served (guarded .service active) [0x15]) .wheel = false)
      ∧ (enrolling 0 active).enc.session ≠ none
      ∧ (asks (enrolling 0 active) [0x12, 9, 31, 0, 0, 0, 1] ∧ isSensor (idAt (frame [0x12, 9, 31, 0, 0, 0, 1]) 3) = true)
      ∧ asks (enrolling 0 active) [0x13, 9, 31] ∧ asks (enrolling 0 active) [0x15, 9, 3, 27]
      ∧ rosterItem 27 = some (.slot 11) ∧ asks (enrolling 0 active) [0x17, 9, 3]
      ∧ (let s := enrolling 0 active
         let t : State := { s with enc := { s.enc with walk := [8, 20] } }
         asks t [0x18, 9, 3] ∧ (20 : Row) ∈ t.enc.walk) := by decide +kernel

theorem witness_StatusReads :
    asks active [0x01] ∧ asks active [0x02, 9, 0] ∧ asks active [0x02, 9, 1] ∧ asks active [0x02, 9, 2]
      ∧ asks active [0x02, 9, 3] ∧ asks active [0x08, 9, 20] ∧ Setting.activityMask.item.val = 20
      ∧ asks active [0x08, 9, 21] := by decide +kernel

theorem witness_MapReads :
    asks active [0x11, 9, 4] ∧ (asks coupled [0x11, 9, 5] ∧ (served coupled [0x11, 9, 5]).trailer = .identified 2)
      ∧ (asks active [0x11, 9, 7] ∧ ∀ k, (served active [0x11, 9, 7]).trailer ≠ .identified k) ∧ asks active [0x11, 9, 8]
      ∧ asks active [0x14, 9, 31] ∧ asks active [0x14, 9, 32]
      ∧ asks active [0x16, 9, 3, 0] ∧ asks active [0x16, 9, 3, 3] ∧ asks active [0x16, 9, 3, 27]
      ∧ asks active [0x16, 9, 4, 0] ∧ asks active [0x16, 9, 3, 4] ∧ asks active [0x16, 9, 3, 15]
      ∧ asks active [0x16, 9, 3, 28] := by decide +kernel

/-- A session at step 1 of the walk with a pair, and no proposal. -/
def walking : State := paired 7 active

theorem witness_OtherReads :
    (∀ sel ∈ List.range 6, asks active [0x22, 9, 7, sel]) ∧ asks active [0x22, 9, 8, 0] ∧ asks active [0x22, 9, 7, 6]
      ∧ asks active [0x30, 9, 16, 0] ∧ asks active [0x30, 9, 15, 3]
      ∧ (asks ageing [0x30, 9, 1, 2] ∧ (served ageing [0x30, 9, 1, 2]).candidates.length ≤ 1)
      ∧ (∀ sel ∈ List.range 3, asks ageing [0x30, 9, 0, sel])
      ∧ (served ageing [0x30, 9, 0, 2]).candidates[0]? = some (candidate 7 10)
      ∧ (asks active [0x2B, 9, 0] ∧ (served active [0x2B, 9, 0]).enc.session = none)
      ∧ (asks walking [0x2B, 9, 0] ∧ (served walking [0x2B, 9, 0]).enc.session = some 1 ∧ walking.enc.walk[1]? = some 9)
      ∧ asks active [0x2B, 9, 1] ∧ (asks active [0x2B, 9, 2] ∧ (served active [0x2B, 9, 2]).enc.proposal = none)
      ∧ (asks proposing [0x2B, 9, 2] ∧ (served proposing [0x2B, 9, 2]).enc.proposal = some (14, 7))
      ∧ (asks walking [0x2B, 9, 3, 4] ∧ (served walking [0x2B, 9, 3, 4]).enc.walk.length ≤ 4)
      ∧ (asks walking [0x2B, 9, 3, 3] ∧ walking.enc.walk[3]? = some 11 ∧ (11 : Row) ∉ walking.enc.pairs.map EnrolPair.row)
      ∧ (asks walking [0x2B, 9, 3, 0] ∧ walking.enc.walk[0]? = some 8 ∧ ({ row := 8, id := 7, source := none } : EnrolPair)
          ∈ walking.enc.pairs ∧ (walking.enc.pairs.map EnrolPair.row).Nodup)
      ∧ asks active [0x2B, 9, 4] ∧ asks active [0x2B, 9, 3, 32]
      ∧ (∀ sel ∈ List.range 5, asks active [0x39, 9, 31, sel]) ∧ asks active [0x39, 9, 32, 0]
      ∧ asks active [0x39, 9, 31, 5] := by decide +kernel

/-- A setting that a frame carries in its last five bytes. -/
def setting (k : Setting) : Nat := (active.tables.settings)[k.item]

/-- A setting at another value. -/
def withSetting (k : Setting) (v : Nat) (s : State) : State :=
  { s with tables := { s.tables with settings := s.tables.settings.set k.item v } }

theorem witness_SetSettingWrites :
    asks active [0x07, 9, 21, 0, 0, 0, 1]
      ∧ (asks active [0x07, 9, 18, 0, 0, 0, 16] ∧ 15 < natAt4 (frame [0x07, 9, 18, 0, 0, 0, 16]) 3)
      ∧ (asks active [0x07, 9, 8, 0, 0, 0, 2] ∧ setting .persistN = 2)
      ∧ (asks active [0x07, 9, 3, 0, 0, 2, 88] ∧ natAt4 (frame [0x07, 9, 3, 0, 0, 2, 88]) 3 = 600 ∧ setting .staleMovingS = 60
          ∧ setting .missingMovingS = 180)
      ∧ (asks active [0x07, 9, 18, 0, 0, 0, 0] ∧ setting .laneEnableMask = 15)
      ∧ (asks active [0x07, 9, 1, 0, 0, 0, 60] ∧ setting .candidateAgeS = 900)
      ∧ (let s := enrolling 0 { active with vdm := { active.vdm with speed := some 2 } }
         asks s [0x07, 9, 7, 0, 0, 0, 1] ∧ setting .movingSpeedKmh = 3 ∧ (served s [0x07, 9, 7, 0, 0, 0, 1]).enc.session = some 0
          ∧ (served s [0x07, 9, 7, 0, 0, 0, 1]).vdm.speed = some 2)
      ∧ (let s := driving 2 false (live10 0)
         asks s [0x07, 9, 7, 0, 0, 0, 1] ∧ s.osc.state = .active ∧ holdsMissing (s.wheel 10).status = true
          ∧ usesMoving s 10 = false ∧ usesMoving (withSetting .movingSpeedKmh 1 s) 10 = true)
      ∧ (let s := rowDue14 ageing
         asks s [0x07, 9, 11, 0, 0, 1, 43] ∧ ∀ q, DueRow (withSetting .proposalDelayS 299 s) q → DueRow s q)
      ∧ (let s := missing14 299000 proposing
         asks s [0x07, 9, 11, 0, 0, 1, 43] ∧ DueRow (withSetting .proposalDelayS 299 s) 14 ∧ ¬ SearchAllowed s)
      ∧ (let s := missing14 299000 ageing
         asks s [0x07, 9, 11, 0, 0, 1, 43] ∧ DueRow (withSetting .proposalDelayS 299 s) 14 ∧ ¬ DueRow s 14
          ∧ SearchAllowed s) := by decide +kernel

theorem witness_LinkGuardAndFreeze :
    asks active [0x09, 9, 0, 0xFF, 6, 0x30, 2]
      ∧ (asks active [0x09, 9, 7, 0xE0, 7, 0xFF, 3] ∧ (served active [0x09, 9, 7, 0xE0, 7, 0xFF, 3]).osc.state ≠ .offline)
      ∧ (asks (inState .offline) [0x09, 9, 6, 0x40, 6, 0x30, 1]
          ∧ natAt2 (frame [0x09, 9, 6, 0x40, 6, 0x30, 1]) 2 % 16 = 0 ∧ bitRateOf 1 = some .k250
          ∧ (served (inState .offline) [0x09, 9, 6, 0x40, 6, 0x30, 1]).osc.state = .offline)
      ∧ (asks (inState .offline) [0x09, 9, 1, 0, 1, 4, 0] ∧ natAt2 (frame [0x09, 9, 1, 0, 1, 4, 0]) 2 = 0x100
          ∧ natAt2 (frame [0x09, 9, 1, 0, 1, 4, 0]) 4 ∉ [0x100, 0x101, 0x102, 0x103, 0x108])
      ∧ asks active [0x0A, 9, 3] ∧ (asks active [0x0A, 9, 0] ∧ active.tables.guardLevel.code = 0)
      ∧ (asks active [0x0A, 9, 2] ∧ .fleet ≠ active.tables.guardLevel ∧ active.store.state = .idle)
      ∧ asks (saving .writing) [0x0A, 9, 2] ∧ (saving .writing).store.state ≠ .idle
      ∧ (let s : State := { active with mgu := { active.mgu with frozen := true } }
         asks s [0x0B] ∧ (served s [0x0B]).mgu.frozen = true)
      ∧ (asks active [0x0B] ∧ active.mgu.frozen = false ∧ active.enc.session = none)
      ∧ (asks (enrolling 0 active) [0x0B] ∧ (enrolling 0 active).enc.session = some 0) := by decide +kernel

theorem witness_OfflineAndBack :
    (asks State.reset [0x03] ∧ (served State.reset [0x03]).osc.state = .starting)
      ∧ (asks (inState .offline) [0x03] ∧ (served (inState .offline) [0x03]).osc.state = .offline)
      ∧ (let s : State := { saving .writing with osc := { active.osc with deferredOffline := some 5 } }
         asks s [0x03] ∧ (served s [0x03]).osc.state = .active ∧ (served s [0x03]).osc.deferredOffline ≠ none)
      ∧ (asks (enrolling 0 active) [0x03] ∧ (served (enrolling 0 active) [0x03]).enc.session ≠ none)
      ∧ (asks (saving .resuming) [0x03] ∧ (served (saving .resuming) [0x03]).store.state ≠ .idle)
      ∧ (asks (inState .dormant) [0x03] ∧ (served (inState .dormant) [0x03]).osc.state = .parkWatch
          ∧ (served (inState .dormant) [0x03]).store.state = .idle)
      ∧ (asks active [0x04] ∧ (served active [0x04]).osc.state ≠ .offline)
      ∧ (asks (inState .offline) [0x04] ∧ (served (inState .offline) [0x04]).osc.state = .offline) := by decide +kernel

/-- A save at its completion, with what it may find deferred. -/
def completing (again : Bool) (offline restart : Option Byte) (s : State) : State :=
  { s with
    store := { s.store with state := .writing, captured := some .factory, remaining := 0, saveAgain := again }
    osc := { s.osc with deferredOffline := offline }
    mgu := { s.mgu with deferredRestart := restart } }

abbrev AtCompletion (s : State) : Prop :=
  s.phase = .running ∧ s.store.state = .writing ∧ s.store.remaining = 0 ∧ s.store.captured = some .factory

theorem witness_SavesAndRestarts :
    (asks State.reset [0x06] ∧ (served State.reset [0x06]).osc.state = .starting)
      ∧ (asks (saving .suspended) [0x06] ∧ (served (saving .suspended) [0x06]).store.state ≠ .idle)
      ∧ (asks active [0x06] ∧ (served active [0x06]).osc.state ≠ .starting ∧ (served active [0x06]).store.state = .idle)
      ∧ (asks State.reset [0x05] ∧ (served State.reset [0x05]).osc.state = .starting)
      ∧ (let s := completing false none (some 5) active
         asks s [0x05] ∧ (served s [0x05]).store.state ≠ .idle ∧ (served s [0x05]).mgu.deferredRestart ≠ none)
      ∧ (asks (saving .writing) [0x05] ∧ (served (saving .writing) [0x05]).mgu.deferredRestart = none)
      ∧ (asks active [0x05] ∧ (served active [0x05]).store.state = .idle ∧ (served active [0x05]).link.state = .searching)
      ∧ AtCompletion (completing false none none active)
      ∧ (AtCompletion (completing true none none active) ∧ (completing true none none active).store.saveAgain = true)
      ∧ (AtCompletion (completing false (some 5) none (enrolling 0 active))
          ∧ (completing false (some 5) none (enrolling 0 active)).enc.session ≠ none)
      ∧ (AtCompletion (completing false (some 5) none active) ∧ (completing false (some 5) none active).enc.session = none)
      ∧ (AtCompletion (completing true (some 5) (some 6) (enrolling 0 active))
          ∧ (completing true (some 5) (some 6) (enrolling 0 active)).enc.session ≠ none)
      ∧ (AtCompletion (completing true (some 5) none active) ∧ (completing true (some 5) none active).enc.session = none)
      ∧ (AtCompletion (completing false (some 5) (some 6) active)
          ∧ (completing false (some 5) (some 6) active).mgu.deferredRestart ≠ none) := by decide +kernel

theorem witness_SetAxleWrites :
    asks active [0x10, 9, 5, 2, 2, 1, 3] ∧ (asks active [0x10, 9, 4, 3, 2, 1, 3] ∧ AxleFieldsBad (frame [0x10, 9, 4, 3, 2, 1, 3]) 3)
      ∧ (asks active [0x10, 9, 4, 2, 7, 1, 3] ∧ (served active [0x10, 9, 4, 2, 7, 1, 3]).osc.state ≠ .offline
          ∧ AxleFields (frame [0x10, 9, 4, 2, 7, 1, 3]) 3 { layout := .dual, group := 7, liftable := true, nearLane := 3 })
      ∧ (asks (inState .offline) [0x10, 9, 4, 0, 2, 1, 2] ∧ (inState .offline).tables.axles[4] =
          { layout := .absent, group := 2, liftable := true, nearLane := 2 })
      ∧ (let s := withRow 9 7 (inState .offline)
         asks s [0x10, 9, 2, 1, 1, 0, 1] ∧ (served s [0x10, 9, 2, 1, 1, 0, 1]).osc.state = .offline
          ∧ placeUsable s.tables.axles[2].layout 1 = true ∧ placeUsable .single 1 = false ∧ (rowId s 9).isSome = true) := by
  decide +kernel

theorem witness_RowWrites :
    active.enc.session = none ∧ asks active [0x12, 9, 32, 0, 0, 0, 1] ∧ asks active [0x12, 9, 8, 0, 0, 0, 0]
      ∧ asks active [0x12, 9, 8, 255, 255, 255, 0] ∧ asks active [0x12, 9, 20, 0, 0, 0, 1]
      ∧ (asks active [0x12, 9, 1, 0, 0, 0, 1] ∧ rowUsable (served active [0x12, 9, 1, 0, 0, 0, 1]) 1 = false)
      ∧ (asks onTruck [0x12, 9, 8, 0x2B, 0x11, 0, 0x13]
          ∧ HeldElsewhere (served onTruck [0x12, 9, 8, 0x2B, 0x11, 0, 0x13]) 8 0x2B110013)
      ∧ (asks onTruck [0x12, 9, 10, 0x2B, 0x11, 0, 0x13]
          ∧ ¬ HeldElsewhere (served onTruck [0x12, 9, 10, 0x2B, 0x11, 0, 0x13]) 10 0x2B110013
          ∧ rowId onTruck 10 = some 0x2B110013)
      ∧ (asks coupled [0x12, 9, 31, 255, 255, 254, 255] ∧ (served coupled [0x12, 9, 31, 255, 255, 254, 255]).trailer = .identified 2
          ∧ rowUsable coupled 31 = true ∧ ¬ HeldElsewhere coupled 31 0xFFFFFEFF ∧ rowId coupled 31 ≠ some 0xFFFFFEFF)
      ∧ (asks proposing [0x12, 9, 14, 0, 0, 0, 9] ∧ (served proposing [0x12, 9, 14, 0, 0, 0, 9]).enc.proposal = some (14, 7))
      ∧ asks active [0x13, 9, 32] ∧ asks active [0x13, 9, 20] ∧ (asks active [0x13, 9, 19] ∧ rowId active 19 = none)
      ∧ (asks coupled [0x13, 9, 20] ∧ rowId (served coupled [0x13, 9, 20]) 20 = some 0x2B110011) := by decide +kernel

/-- Entry 2 with three IDs. -/
def three : RosterEntry := { entry317 with slots := (entry317.slots.set 4 none).set 7 none }

/-- Entry 2 with three IDs in RECOGNISING, the first of them heard and another. -/
def rechecking (other : SensorId) : State :=
  { active with
    tables := { active.tables with roster := active.tables.roster.set 2 three }
    trailer := .recognising
    recog := active.recog.set 2 { RecogEntry.empty with heard := [0x2B110011, other] } }

theorem witness_RosterWrites :
    coupled.enc.session = none ∧ asks coupled [0x15, 9, 4, 0] ∧ asks coupled [0x15, 9, 0, 28] ∧ rosterItem 28 = none
      ∧ asks coupled [0x15, 9, 0, 0, 0, 0] ∧ (asks coupled [0x15, 9, 0, 0, 1, 0x3D] ∧ coupled.tables.roster[2].tag = 0x13D)
      ∧ asks coupled [0x15, 9, 2, 0, 1, 0x3D] ∧ (asks coupled [0x15, 9, 3, 0, 255, 255]
          ∧ ∀ j : EntryNo, coupled.tables.roster[j].tag ≠ 0xFFFF)
      ∧ (asks coupled [0x15, 9, 2, 3, 0, 8, 0, 0] ∧ AxleFieldsBad (frame [0x15, 9, 2, 3, 0, 8, 0, 0]) 4)
      ∧ (asks coupled [0x15, 9, 0, 1, 0, 0, 0, 0] ∧ coupled.tables.roster[0].tag = 0)
      ∧ (asks coupled [0x15, 9, 2, 3, 2, 3, 0, 3]
          ∧ AxleFields (frame [0x15, 9, 2, 3, 2, 3, 0, 3]) 4 coupled.tables.roster[2].axles[2])
      ∧ (asks coupled [0x15, 9, 2, 3, 0, 0, 0, 0]
          ∧ AxleFields (frame [0x15, 9, 2, 3, 0, 0, 0, 0]) 4 .free ∧ coupled.tables.roster[2].axles[2] ≠ .free)
      ∧ asks coupled [0x15, 9, 2, 16, 255, 255, 255, 0] ∧ asks coupled [0x15, 9, 0, 16, 0, 0, 0, 1]
      ∧ (asks coupled [0x15, 9, 2, 17, 0, 0, 0, 1] ∧ placeUsable coupled.tables.roster[2].axles[slotAxle 1].layout 1 = false)
      ∧ (asks coupled [0x15, 9, 2, 27, 0x2B, 0x11, 0, 0x11] ∧ coupled.tables.roster[2].slots[0] = some 0x2B110011)
      ∧ asks coupled [0x15, 9, 2, 16, 0x2B, 0x11, 0, 0x11] ∧ asks coupled [0x15, 9, 2, 27, 0, 0, 0, 1]
      ∧ asks coupled [0x15, 9, 2, 16, 0, 0, 0, 0]
      ∧ (asks (rechecking 0x2B110012) [0x15, 9, 2, 24, 0, 0, 0, 0] ∧ asks (rechecking 0x2B110012) [0x15, 9, 2, 3, 0, 0, 0, 0]
          ∧ (rechecking 0x2B110012).trailer = .recognising
          ∧ (rechecking 0x2B110012).recog[2].heard.length = min 3 ((three.slots.set 8 none).toList.filter Option.isSome).length)
      ∧ (asks (rechecking 0x2B110015) [0x15, 9, 2, 24, 0, 0, 0, 0]
          ∧ ((rechecking 0x2B110015).recog[2].heard.filter fun id => decide (some id ∈ (three.slots.set 8 none).toList)).length < 2) := by
  decide +kernel

/-- Entry 2 identified, entry 1 a trailer too, and a session over truck rows that, from step 1 on, has moved a sensor from row 20. -/
def movedFromTrailer (i : Nat) : State :=
  let s := enrolling i coupled
  { s with
    tables := { s.tables with roster := s.tables.roster.set 1 { RosterEntry.free with tag := 101 } }
    enc := { s.enc with pairs := if i = 0 then [] else [{ row := 8, id := 0x2B110011, source := some 20 }], allowMove := true } }

/-- R116: a TRAILER_SELECT of a different entry ends a session that has moved a sensor from a trailer row, and only such a one. -/
theorem test_select_beside_a_session :
    (after .trailerSelect (asked (movedFromTrailer 1) [0x18, 9, 1])).map
        (fun t => (t.trailer, t.enc.session, t.enc.pairs, t.enc.lastEnding, t.enc.applied)) =
        some (.identified 1, none, [], .trailerLost, 0)
      ∧ (after .trailerSelect (asked (movedFromTrailer 0) [0x18, 9, 1])).map (fun t => (t.trailer, t.enc.session)) =
        some (.identified 1, some 0) := by decide +kernel

theorem witness_RosterClearAndSelect :
    coupled.enc.session = none ∧ asks active [0x17, 9, 4] ∧ (asks active [0x17, 9, 3] ∧ active.tables.roster[3].tag = 0)
      ∧ (asks coupled [0x17, 9, 2] ∧ (served coupled [0x17, 9, 2]).trailer = .identified 2 ∧ coupled.tables.roster[2].tag ≠ 0)
      ∧ (asks (coupledAs .recognising) [0x17, 9, 2] ∧ (served (coupledAs .recognising) [0x17, 9, 2]).trailer = .recognising)
      ∧ (asks (coupledAs .unknown) [0x17, 9, 2] ∧ (served (coupledAs .unknown) [0x17, 9, 2]).trailer = .unknown)
      ∧ asks active [0x18, 9, 4] ∧ (asks active [0x18, 9, 3] ∧ (served active [0x18, 9, 3]).trailer = .none)
      ∧ (asks (coupledAs .unknown) [0x18, 9, 3] ∧ (coupledAs .unknown).tables.roster[3].tag = 0)
      ∧ asks coupled [0x18, 9, 2] ∧ (asks (coupledAs .recognising) [0x18, 9, 2]
          ∧ (coupledAs .recognising).tables.roster[2].tag ≠ 0)
      ∧ (let s := enrolling 0 (coupledAs .unknown)
         asks s [0x18, 9, 3] ∧ s.enc.session = some 0 ∧ (∀ r ∈ s.enc.walk, r.val < 20) ∧ (served s [0x18, 9, 3]).trailer ≠ .none
          ∧ s.tables.roster[3].tag = 0)
      ∧ (asks (movedFromTrailer 0) [0x18, 9, 2] ∧ (movedFromTrailer 0).trailer = .identified 2)
      ∧ (asks (movedFromTrailer 0) [0x18, 9, 1] ∧ (movedFromTrailer 0).tables.roster[1].tag ≠ 0)
      ∧ asks (movedFromTrailer 1) [0x18, 9, 1] ∧ (∀ r ∈ (movedFromTrailer 1).enc.walk, r.val < 20)
      ∧ (movedFromTrailer 1).enc.pairs = [{ row := 8, id := 0x2B110011, source := some 20 }] := by decide +kernel

/-- The sessions of the clauses on TRAILER_SELECT beside a session are lawful. -/
theorem witness_RosterClearAndSelect_session :
    SessionLegal (asked (enrolling 0 (coupledAs .unknown)) [0x18, 9, 3])
      ∧ SessionLegal (asked (movedFromTrailer 0) [0x18, 9, 1]) ∧ SessionLegal (asked (movedFromTrailer 1) [0x18, 9, 1]) :=
  ⟨session_legal _ 0 rfl (by decide) (by decide) (by decide +kernel),
    session_legal _ 0 rfl (by decide) (by decide) (by decide +kernel),
    session_legal _ 1 rfl (by decide) (by decide) (by decide +kernel)⟩

theorem witness_LimitsAndAnnounceWrites :
    asks active [0x20, 9, 0x80] ∧ asks active [0x20, 9, 0x72]
      ∧ (asks onTruck [0x20, 9, 0x11, 7, 8, 26, 64, 77]
          ∧ (served onTruck [0x20, 9, 0x11, 7, 8, 26, 64, 77]).tables.groups[1].laden =
            { target := 1800, lw := 26, lc := 64, hw := 77 })
      ∧ (let s := withWheel 10 { WheelRecord.fresh .live with pc := 4000, pg := 4000 } onTruck
         asks s [0x20, 9, 0x11, 0x0F, 0xA0, 0, 0, 255] ∧ (axleOf s (rowAxle 10)).group = 1 ∧ (unitLoad s (unitOfRow 10)).applied = .laden
          ∧ (s.wheel 10).status = .live ∧ s.osc.state = .active ∧ (s.wheel 10).pc ≤ 4000 ∧ (axleOf s (rowAxle 0)).group ≠ 1)
      ∧ (asks (inState .offline) [0x20, 9, 0x11, 0, 0, 0, 0, 0]
          ∧ (served (inState .offline) [0x20, 9, 0x11, 0, 0, 0, 0, 0]).osc.state = .offline)
      ∧ asks onTruck [0x21, 9, 0x2A, 135, 155, 60, 20, 70] ∧ asks onTruck [0x21, 9, 0xFF, 255, 49, 255, 255, 111]
      ∧ asks active [0x23, 9, 4, 0, 0] ∧ asks active [0x23, 9, 3, 8, 0] ∧ asks active [0x23, 9, 1, 0, 0]
      ∧ (let s := repeating .lowWarn active
         asks s [0x23, 9, 3, 7, 255] ∧ (served s [0x23, 9, 3, 7, 255]).osc.state = .active
          ∧ (s.wheel 10).announced ≠ announcedOf { minimum := .critical, exclude := 0x7FF } (s.wheel 10).active) := by
  decide +kernel

/-- Standing still with a walk written. -/
def standing (walk : List Row) : State :=
  { active with vdm := { active.vdm with speed := some 3 }, enc := { active.enc with walk := walk } }

theorem witness_EnrolmentRequests :
    (asks active [0x28, 9, 0, 8, 32]
        ∧ ((frame [0x28, 9, 0, 8, 32]).drop 3).map BitVec.toNat = ([8] : List Row).map Fin.val ++ [32, 0, 0, 0])
      ∧ (asks active [0x28, 9, 1, 8, 255]
        ∧ ((frame [0x28, 9, 1, 8, 255]).drop 3).map BitVec.toNat = ([8] : List Row).map Fin.val ++ [255, 0, 0, 0]
        ∧ ¬ 1 ≤ (served active [0x28, 9, 1, 8, 255]).enc.walk.length)
      ∧ (asks (standing [8]) [0x28, 9, 1, 1, 2, 3, 4, 5] ∧ ((frame [0x28, 9, 1, 1, 2, 3, 4, 5]).drop 3).map BitVec.toNat =
          ([1, 2, 3, 4, 5] : List Row).map Fin.val ++ [] ∧ (standing [8]).enc.session = none)
      ∧ (asks (enrolling 0 active) [0x28, 9, 0, 8, 255] ∧ (enrolling 0 active).enc.session ≠ none)
      ∧ asks active [0x29, 9, 2] ∧ (asks active [0x29, 9, 1] ∧ (served active [0x29, 9, 1]).vdm.speed = none)
      ∧ (asks (standing []) [0x29, 9, 1] ∧ (served (standing []) [0x29, 9, 1]).vdm.speed = some 3
          ∧ 3 ≤ (standing []).setting .movingSpeedKmh ∧ (standing []).enc.walk = [])
      ∧ (asks (standing [8, 8]) [0x29, 9, 0] ∧ (8 : Row) ∈ (standing [8, 8]).enc.walk.take 1
          ∧ rowUsable (standing [8, 8]) 8 = true)
      ∧ (asks (standing [8]) [0x29, 9, 0] ∧ (standing [8]).enc.proposal = none ∧ rowUsable (standing [8]) 8 = true)
      ∧ (let s : State := { standing [8] with enc := { (standing [8]).enc with proposal := some (14, 7) } }
         asks s [0x29, 9, 0] ∧ (served s [0x29, 9, 0]).enc.proposal = some (14, 7))
      ∧ (asks active [0x2A] ∧ active.enc.session = none)
      ∧ (asks (enrolling 3 active) [0x2A] ∧ (enrolling 3 active).enc.session = some 3) := by decide +kernel

/-- A proposal on a row that has rejected eight candidates. -/
def rejecting : State :=
  { proposing with
    episodes := proposing.episodes.set 14 { Episode.reset with rejected := [21, 22, 23, 24, 25, 26, 27, 28] } }

theorem witness_ProposalRequests :
    asks proposing [0x2C, 9, 32, 0, 0, 0, 7] ∧ asks proposing [0x2C, 9, 14, 255, 255, 255, 0]
      ∧ (asks proposing [0x2C, 9, 14, 0, 0, 0, 8] ∧ (served proposing [0x2C, 9, 14, 0, 0, 0, 8]).enc.proposal ≠ some (14, 8))
      ∧ (asks proposing [0x2C, 9, 14, 0, 0, 0, 7] ∧ (served proposing [0x2C, 9, 14, 0, 0, 0, 7]).enc.proposal = some (14, 7)
          ∧ (served proposing [0x2C, 9, 14, 0, 0, 0, 7]).store.state = .idle)
      ∧ asks proposing [0x2D, 9, 32, 0, 0, 0, 7] ∧ asks proposing [0x2D, 9, 13, 0, 0, 0, 7]
      ∧ (asks proposing [0x2D, 9, 14, 0, 0, 0, 0] ∧ (served proposing [0x2D, 9, 14, 0, 0, 0, 0]).enc.proposal ≠ some (14, 0))
      ∧ (asks proposing [0x2D, 9, 14, 255, 255, 255, 0]
          ∧ (served proposing [0x2D, 9, 14, 255, 255, 255, 0]).enc.proposal ≠ some (14, 0xFFFFFF00))
      ∧ (asks proposing [0x2D, 9, 14, 0, 0, 0, 7] ∧ (proposing.episode 14).rejected.length < 8)
      ∧ (let s := rejecting
         asks s [0x2D, 9, 14, 0, 0, 0, 7] ∧ (s.episode 14).rejected.length = 8) := by decide +kernel

/-- A queue of events with one taken. -/
def withEvents (n : Nat) (taken : Option Event) : State :=
  { active with evq := { records := List.replicate n { kind := .laneJam, time := 0 }, overflow := false, taken := taken } }

theorem witness_LaneEventAndSnapshotRequests :
    asks active [0x31, 9, 16] ∧ asks active [0x31, 9, 15]
      ∧ (asks (withEvents 64 none) [0x32, 9, 0]
          ∧ (served (withEvents 64 none) [0x32, 9, 0]).evq.records =
            { kind := .laneJam, time := 0 } :: List.replicate 63 { kind := .laneJam, time := 0 })
      ∧ (asks (withEvents 0 none) [0x32, 9, 0] ∧ (served (withEvents 0 none) [0x32, 9, 0]).evq.records = []
          ∧ (withEvents 0 none).evq.overflow = false)
      ∧ (asks active [0x32, 9, 1] ∧ (served active [0x32, 9, 1]).evq.taken = none) ∧ asks active [0x32, 9, 2]
      ∧ (let s := withEvents 1 (some { kind := .refill, time := 3 })
         asks s [0x32, 9, 1] ∧ asks s [0x32, 9, 2] ∧ (served s [0x32, 9, 2]).evq.taken = some { kind := .refill, time := 3 })
      ∧ asks active [0x32, 9, 3]
      ∧ (let s : State := { active with link := { active.link with snapshots := { Snapshots.reset with readyNew := true } } }
         asks s [0x38] ∧ (served s [0x38]).link.snapshots.readyNew = true)
      ∧ (asks active [0x38] ∧ (served active [0x38]).link.snapshots.readyNew = false) := by decide +kernel

theorem witness_FramesReceivedAndSearch :
    active.phase = .running ∧ active.tables.link.vehicleId ≠ active.tables.link.nodeBase + 8 ∧ (frame []).length ≤ 8
      ∧ active.link.requests.length < 4
      ∧ 4 ≤ ({ active with link := { active.link with requests := List.replicate 4 (frame []) } } : State).link.requests.length
      ∧ ((BusFrame.withId 0x648 []).data.length ≤ 8 ∧ ({ BusFrame.withId 0x648 [] with remote := true } : BusFrame).remote = true)
      ∧ (∀ n, (BusFrame.withId 0x649 []).id = .standard n →
          n ≠ active.tables.link.vehicleId ∧ n ≠ active.tables.link.nodeBase + 8)
      ∧ (∀ n, ({ BusFrame.withId 0 [] with id := .extended 0x648 } : BusFrame).id = .standard n →
          n ≠ active.tables.link.vehicleId ∧ n ≠ active.tables.link.nodeBase + 8)
      ∧ ((frame []).length = 8 ∧ active.osc.state ≠ .dormant)
      ∧ (let s := atTime 2000 active
         s.link.state = .searching ∧ s.link.searchDeadline = some 2000 ∧ 2000 ≤ s.now) :=
  ⟨rfl, by decide +kernel, by decide, by decide, by decide, by decide,
    fun n h => by injection h with h; subst h; decide +kernel, fun n h => by injection h, by decide, by decide +kernel⟩

/-- The link RUNNING with queues. -/
def linked (o : OpState) (f : Link → Link) : State :=
  let s := inState o
  { s with link := f { s.link with state := .running } }

theorem witness_TransmissionStartsAndEnds :
    (let s := linked .active fun l => { l with alerts := [alertOf 10 (.fresh .live)] }
     s.phase = .running ∧ s.link.state = .running ∧ s.link.buffer = none ∧ s.link.alerts = alertOf 10 (.fresh .live) :: []
      ∧ s.osc.state = .active)
      ∧ (let s := linked .offline fun l => { l with
            alerts := [alertOf 10 (.fresh .live)], responses := [{ code := 1, tag := 0, result := .ok, data := [] }] }
         s.link.responses = { code := 1, tag := 0, result := .ok, data := [] } :: [] ∧ s.osc.state ≠ .active
          ∧ s.osc.state ≠ .parkWatch ∧ s.osc.state ≠ .starting)
      ∧ (let s := linked .active fun l => { l with statuses := [statusOf 10 (.fresh .live)] }
         s.link.alerts = [] ∧ s.link.responses = [] ∧ s.link.statuses = statusOf 10 (.fresh .live) :: [])
      ∧ (let s := linked .offline fun l => { l with partStatus := some (partStatusOf active) }
         s.link.statuses = [] ∧ s.link.partStatus = some (partStatusOf active) ∧ s.osc.state = .offline)
      ∧ (let s := linked .active id
         s.link.alerts = [] ∧ s.link.responses = [] ∧ s.link.statuses = [] ∧ s.link.partStatus = none)
      ∧ (active.link.state ≠ .running ∧ (sending 0).link.buffer ≠ none)
      ∧ (let s := sending 31
         s.phase = .running ∧ s.link.buffer.isSome = true ∧ 32 ≤ s.link.failures + 1)
      ∧ (sending 30).link.failures + 1 < 32
      ∧ (let s := atTime 1000 (linked .active fun l => { l with state := .busQuiet, quietDeadline := some 1000 })
         s.phase = .running ∧ s.link.state = .busQuiet ∧ s.link.quietDeadline = some 1000 ∧ 1000 ≤ s.now)
      ∧ (let f := alertOf 10 (.fresh .live)
         f.pc < 4096 ∧ f.pg < 4096 ∧ ({ f with pc := 4095 } : AlertFrame).pc < 4096)
      ∧ ((statusOf 10 (.fresh .live)).pc < 4096 ∧ (statusOf 10 (.fresh .live)).pg < 4096)
      ∧ ({ code := 1, tag := 0, result := .ok, data := bytes [1, 2, 3, 4, 5] } : ResponseFrame).data.length = 5
      ∧ (bytes [1, 2, 3, 4, 5]).length ≤ 5 := by
  decide +kernel

theorem witness_ReportsAreQueued :
    (let s := atTime 1000 (linked .active fun l => { l with
        reportDeadline := some 1000, partStatusDeadline := some 1000
        snapshots := { l.snapshots with count := 65535 } })
     s.phase = .running ∧ 1000 ≤ s.now ∧ s.link.reportDeadline = some 1000 ∧ s.link.partStatusDeadline = some 1000
      ∧ s.osc.state = .active ∧ s.link.statuses = [])
      ∧ (let s := atTime 1000 (linked .parkWatch fun l => { l with reportDeadline := some 1000 })
         s.link.reportDeadline = some 1000 ∧ s.osc.state ≠ .active)
      ∧ ((onTruck.wheel 10).status ≠ .vacant) := by decide +kernel

theorem witness_PressureArithmetic :
    (0 < kmeas 60 0) ∧ LimitsLegal { target := 4000, lw := 255, lc := 255, hw := 255 } ∧ RingLegal slowLeak := by
  decide +kernel

theorem witness_ConditionsPersist :
    1 ≤ 8 ∧ ({ qualifies := true, clears := false } : Verdict).qualifies = true
      ∧ ({ qualifies := false, clears := true } : Verdict).clears = true
      ∧ ({ qualifies := false, clears := false } : Verdict).qualifies = false := by decide +kernel

/-- The clause on a measurement: an ordinary row, one of a pair, one that was MISSING, and a refill while LEAK is active. -/
theorem witness_ConditionsPersist_measurement :
    measures onTruck telegram = true
      ∧ (let s := withWheel 10 { WheelRecord.fresh .missing with active := condBit .missing } onTruck
         measures s telegram = true ∧ (s.wheel 10).status = .missing ∧ s.enc.proposal = none)
      ∧ (let s := withWheel 10 { WheelRecord.fresh .live with
            active := condBit .leak, ring := [{ pc := 1596, time := 734217 }] } onTruck
         measures s telegram = true ∧ refills s 10 telegram 1617 = true ∧ (groupOf s 10).temp.leakWarn ≠ 0)
      ∧ (let s : State := { onTruck with tables := { onTruck.tables with
            groups := onTruck.tables.groups.set 1 { ThresholdGroup.factory with
              temp := { ThresholdGroup.factory.temp with leakWarn := 0 } } } }
         let fault := { telegram with fault := true }
         measures s telegram = true ∧ (groupOf s 10).temp.leakWarn = 0 ∧ ¬ FaultKind telegram
          ∧ measures s fault = true ∧ FaultKind fault)
      ∧ (let s : State := { onTruck with tables := { onTruck.tables with
            axles := onTruck.tables.axles.set 2 { onTruck.tables.axles[2] with layout := .dual } } }
         let s := withWheel 11 { WheelRecord.fresh .live with pc := 1000, pg := 1000 } s
         measures s telegram = true ∧ isJudged s 10 telegram none .imbalance = true ∧ ImbalanceLegal s 10) := by decide +kernel

/-- Critical records at the front of a full queue, then one that is not. -/
def crowdedQueue : EventQueue :=
  { records := List.replicate 63 { kind := .conditionOn, condition := some .lowCrit, time := 0 } ++
      [{ kind := .laneJam, time := 0 }]
    overflow := false, taken := none }

theorem witness_EventsEnterTheQueue :
    let crit : Event := { kind := .conditionOn, condition := some .fastLeak, time := 1 }
    (withEvents 63 none).evq.records.length < 64 ∧ crowdedQueue.records.length = 64 ∧ crit.critical = true
      ∧ ({ kind := .laneJam, time := 0 } : Event).critical = false
      ∧ (∀ x ∈ crowdedQueue.records.take 63, x.critical = true)
      ∧ crowdedQueue.records = crowdedQueue.records.take 63 ++ { kind := .laneJam, time := 0 } :: []
      ∧ (∀ x ∈ List.replicate 64 crit, x.critical = true) ∧ (List.replicate 64 crit).length = 64 := by decide +kernel

/-! #### Invariants: the state after reset, a command at its front -/

theorem witness_QueuesAndSavesStayLawful :
    ∃ t, step { State.reset with pending := [.loadComplete] } = .next t ∧ EventsLegal State.reset ∧ LinkLegal State.reset
      ∧ CandidatesLegal State.reset ∧ StoreLegal State.reset :=
  ⟨_, rfl, by decide +kernel, by decide +kernel, by decide +kernel, by decide +kernel⟩

theorem witness_SessionsStayLawful :
    let s : State := { enrolling 3 active with pending := [.stepDeadlineExpiry] }
    SessionLegal s ∧ ∃ t, step s = .next t :=
  ⟨session_legal _ 3 rfl (by decide) (by decide) (by decide +kernel), _, rfl⟩

theorem witness_WheelsStayLawful :
    let s : State := { onTruck with pending := [.missingExpiry 10] }
    WheelsLegal s ∧ ∃ t, step s = .next t := ⟨by decide +kernel, _, rfl⟩

theorem witness_OperatingStateRules :
    let s : State := { State.reset with pending := [.loadComplete] }
    ModeLegal s ∧ ∃ t, step s = .next t := ⟨by decide +kernel, _, rfl⟩

/-- The state after a reset that found one enrolled sensor. -/
def oneSensor : State :=
  { withWheel 10 (.fresh .awaiting) (withRow 10 0x2B110013 State.reset) with pending := [.loadComplete] }

theorem oneSensor_tables (law : Tables → Prop) (h : law oneSensor.tables) : AllTables law oneSensor :=
  ⟨h, fun _ h => (by cases h), fun _ _ h => (by cases h)⟩

theorem oneSensor_safe : Safe oneSensor :=
  ⟨by decide +kernel, by decide +kernel, by decide +kernel,
    ⟨by decide, by decide, fun _ => ⟨rfl, rfl, rfl⟩, fun _ h => (by cases h)⟩, fun _ h => (by cases h),
    by decide +kernel, by decide +kernel, by decide +kernel, oneSensor_tables _ (by decide +kernel),
    oneSensor_tables _ (by decide +kernel), by decide +kernel, fun _ h => (by cases h), by decide +kernel, by decide +kernel⟩

theorem witness_TablesStayInRange : Safe oneSensor ∧ ∃ t, step oneSensor = .next t := ⟨oneSensor_safe, _, rfl⟩

theorem witness_IdentitiesStayUnique : Safe oneSensor ∧ ∃ t, step oneSensor = .next t := ⟨oneSensor_safe, _, rfl⟩

end Sys2Proof.Tests
end

section
/-! The reads of the wheel map: what READ_AXLE, READ_ROW and ROSTER_READ make of a request, and the settlement of O34. -/

namespace Sys2Proof.Machine

/-! ### The commands, once the guard lets their request pass -/

theorem exec_readAxle_waitingFor {s : State} {data : List Byte} (h : WaitingFor 0x11 s data) :
    exec .readAxle s = .next (deliver data (readAxle data (takeOff s))) :=
  serveRequest_waitingFor h readAxle

theorem exec_readRow_waitingFor {s : State} {data : List Byte} (h : WaitingFor 0x14 s data) :
    exec .readRow s = .next (deliver data (readRow data (takeOff s))) :=
  serveRequest_waitingFor h readRow

theorem exec_rosterRead_waitingFor {s : State} {data : List Byte} (h : WaitingFor 0x16 s data) :
    exec .rosterRead s = .next (deliver data (rosterRead data (takeOff s))) :=
  serveRequest_waitingFor h rosterRead

/-! ### The axle table (R2, R3) -/

theorem AxleRecord.bytes_free : AxleRecord.free.bytes = [0, 0, 0, 0] := rfl

/-- Axles 0 to 4 are the truck's own records. -/
theorem axleOf_truck (s : State) (a : Fin 5) : axleOf s (a.castLE (by decide)) = s.tables.axles[a] := by
  simp [axleOf]

/-- Axles 5 to 7 mirror the identified roster entry. -/
theorem axleOf_trailer_identified {s : State} {k : EntryNo} (a : Fin 3) (h : s.trailer = .identified k) :
    axleOf s (a.natAdd 5) = s.tables.roster[k].axles[a] := by
  simp [axleOf, h]

/-- Without an identified entry axles 5 to 7 are free. -/
theorem axleOf_trailer_free {s : State} (a : Fin 3) (h : ∀ k, s.trailer ≠ .identified k) :
    axleOf s (a.natAdd 5) = .free := by
  unfold axleOf
  rw [dif_neg (by simp)]
  split
  case h_1 k hk => exact absurd hk (h k)
  case h_2 => rfl

/-! ### The selectors of a roster item (R186) -/

theorem rosterItem_axle (a : Fin 3) : rosterItem (1 + a.val) = some (.axle a) := by
  have ha : 1 + a.val ≠ 0 ∧ 1 + a.val ≤ 3 := by omega
  simp [rosterItem, ha]

theorem rosterItem_slot (t : SlotNo) : rosterItem (16 + t.val) = some (.slot t) := by
  have ht : 16 + t.val ≠ 0 ∧ ¬ 16 + t.val ≤ 3 ∧ 16 + t.val ≤ 27 := by omega
  simp [rosterItem, ht]

theorem rosterItem_eq_none {sel : Nat} (h : (3 < sel ∧ sel < 16) ∨ 27 < sel) : rosterItem sel = none := by
  unfold rosterItem
  rw [if_neg (by omega), dif_neg (by omega), dif_neg (by omega)]

/-! ### The answers of the three owners -/

theorem readAxle_of_index {data : List Byte} (a : AxleNo) (s : State) (h : natAt data 2 = a.val) :
    readAxle data s = answered .ok (axleOf s a).bytes s := by
  simp only [readAxle, indexAt_eq a h]

theorem readAxle_of_outOfRange {data : List Byte} (s : State) (h : 7 < natAt data 2) :
    readAxle data s = refuse .badValue s := by
  simp only [readAxle, indexAt_none (n := 8) h]

theorem readRow_of_index {data : List Byte} (r : Row) (s : State) (h : natAt data 2 = r.val) :
    readRow data s = answered .ok
      (be32 (idOrZero (rowId s r)).toNat ++ be8 (128 * (rowUsable s r).toNat + (s.wheel r).status.code)) s := by
  simp only [readRow, indexAt_eq r h]

theorem readRow_of_outOfRange {data : List Byte} (s : State) (h : 31 < natAt data 2) :
    readRow data s = refuse .badValue s := by
  simp only [readRow, indexAt_none (n := 32) h]

theorem rosterRead_of_item {data : List Byte} (k : EntryNo) {item : RosterItem} (s : State)
    (hk : natAt data 2 = k.val) (hi : rosterItem (natAt data 3) = some item) :
    rosterRead data s = answered .ok (s.tables.roster[k].itemBytes item) s := by
  simp only [rosterRead, indexAt_eq k hk, hi]

/-- An entry out of range, or a selector that names no item, is refused (R17). -/
theorem rosterRead_of_outOfRange {data : List Byte} (s : State)
    (h : 3 < natAt data 2 ∨ rosterItem (natAt data 3) = none) : rosterRead data s = refuse .badValue s := by
  rcases h with hk | hi
  · simp only [rosterRead, indexAt_none (n := 4) hk]
  · unfold rosterRead
    split
    case h_1 item _ hsome => exact absurd (hi.symm.trans hsome) (by simp)
    case h_2 => rfl

/-! ### The settlement -/

/-- Settles O34: the take reaches the owner, and the owner answers by where its index bytes fall. -/
theorem mapReads : Obligations.MapReads := by
  intro s data b axle
  refine ⟨fun hw => ?readAxle, fun hw => ?readRow, fun hw => ?rosterRead⟩
  case readAxle =>
    rw [exec_readAxle_waitingFor hw]
    refine ⟨fun a ha => ?truck, fun a k ha hk => ?mirrored, fun a ha hn => ?free, fun ha => ?outOfRange⟩
    case truck => rw [readAxle_of_index (a.castLE (by decide)) _ ha, axleOf_truck]; rfl
    case mirrored => rw [readAxle_of_index (a.natAdd 5) _ ha, axleOf_trailer_identified a hk]; rfl
    case free => rw [readAxle_of_index (a.natAdd 5) _ ha, axleOf_trailer_free a hn, AxleRecord.bytes_free]; rfl
    case outOfRange => rw [readAxle_of_outOfRange _ ha, deliver_refuse]
  case readRow =>
    rw [exec_readRow_waitingFor hw]
    refine ⟨fun r hr => ?row, fun hr => ?outOfRange⟩
    case row => rw [readRow_of_index r _ hr]; rfl
    case outOfRange => rw [readRow_of_outOfRange _ hr, deliver_refuse]
  case rosterRead =>
    rw [exec_rosterRead_waitingFor hw]
    refine ⟨fun k hk => ⟨fun hi => ?tag, fun a hi => ?axle, fun t hi => ?slot⟩, fun h => ?outOfRange⟩
    case tag => rw [rosterRead_of_item k (item := .tag) _ hk (by rw [hi]; rfl)]; rfl
    case axle => rw [rosterRead_of_item k _ hk (hi ▸ rosterItem_axle a)]; rfl
    case slot => rw [rosterRead_of_item k _ hk (hi ▸ rosterItem_slot t)]; rfl
    case outOfRange => rw [rosterRead_of_outOfRange _ (h.imp_right rosterItem_eq_none), deliver_refuse]

end Sys2Proof.Machine
end

section
/-! The expiry of a wheel's two freshness deadlines: what a condition that changes does to the queue and the controller, when a changed
announcement reaches the link, what goes with a wheel that goes MISSING, and the settlement of O26. -/

namespace Sys2Proof.Machine

/-! ### A deadline reached -/

theorem due_of_le {s : State} {d : Millis} (h : d ≤ s.now) : due s (some d) = true := by simp [due, h]

/-! ### A condition that changes (R93, R96, R106) -/

/-- The one event of a change: it carries the alarm level after the change and the Pc of the row (R96). -/
theorem setCondition_evq (r : Row) (c : Condition) (on : Bool) (s : State) :
    (setCondition r c on s).evq = pushEvent
      { kind := if on then .conditionOn else .conditionOff, row := some r, condition := some c
        level := some ((setCondition r c on s).wheel r).alarmLevel
        value := some (BitVec.ofNat 32 (s.wheel r).pc), time := s.now / 1000 } s.evq := by
  let changed := putWheel r { s.wheel r with
    active := withCond (s.wheel r).active c on, counters := (s.wheel r).counters.set c.code 0 } s
  have hevq : (setCondition r c on s).evq = (raiseCondition r c on changed).evq := by
    unfold setCondition
    dsimp only
    split
    · exact (notice_frame _ _).evq
    · rfl
  have hrow : (setCondition r c on s).wheel r = changed.wheel r := by
    rw [setCondition_wheel, putWheel_wheel]
  have hpc : (changed.wheel r).pc = (s.wheel r).pc := by rw [putWheel_wheel, if_pos rfl]
  rw [hevq, hrow, ← hpc]
  rfl

/-- Only the entry of a CRITICAL condition is activity (R106). -/
theorem setCondition_osc {c : Condition} (h : c.severity ≠ .critical) (r : Row) (on : Bool) (s : State) :
    (setCondition r c on s).osc = s.osc := by
  unfold setCondition
  dsimp only
  rw [if_neg fun hc => h hc.2]
  rfl

/-! ### A changed announcement (R103, R104) -/

/-- The frame queued shows the record as it stands afterwards: no frame carries the repeat deadline. -/
theorem alertOf_mem_announceAlert (r : Row) (s : State) :
    alertOf r ((announceAlert r s).wheel r) ∈ (announceAlert r s).link.alerts := by
  have hlink : (announceAlert r s).link = (queueAlert r s).link := by
    unfold announceAlert
    dsimp only
    split
    · rfl
    · exact (putWheel_frame _ _ _).link
  obtain ⟨d, hd⟩ := announceAlert_wheel r s
  rw [hd, if_pos rfl, hlink]
  exact mem_replaceOrJoin_self _ _ _

/-- In ACTIVE every change of the announced set reaches the ALERT class (R103). -/
theorem alertOf_mem_reannounce {r : Row} {s : State} (hactive : s.osc.state = .active)
    (hchanged : ((reannounce r s).wheel r).announced ≠ (s.wheel r).announced) :
    alertOf r ((reannounce r s).wheel r) ∈ (reannounce r s).link.alerts := by
  by_cases hsame : announcedOf s.tables.announce (s.wheel r).active = (s.wheel r).announced
  · have hid : reannounce r s = s := if_pos hsame
    exact absurd (by rw [hid]) hchanged
  · have hdue : alertDue s.osc.state (highest (s.wheel r).announced)
        (highest (announcedOf s.tables.announce (s.wheel r).active)) = true := by rw [hactive]; rfl
    have hqueued : reannounce r s = announceAlert r _ := (if_neg hsame).trans (if_pos hdue)
    rw [hqueued]
    exact alertOf_mem_announceAlert r _

/-! ### A wheel that goes MISSING (R85) -/

/-- What R85 makes of a record before its condition MISSING enters: no values, no ring, no deadline, and of the flags SENSOR_FAULT_SEEN alone. -/
def silenced (w : WheelRecord) : WheelRecord :=
  { w with
    status := .missing, staleAt := none, missingAt := none, pc := 4095, pg := 4095, temperature := none
    flags := { MeasFlags.clear with sensorFaultSeen := w.flags.sensorFaultSeen }, ring := [], leakRate := none }

/-- The state in which MISSING has just entered, and the announcement has not followed yet. -/
def withMissing (r : Row) (s : State) : State := setCondition r .missing true (putWheel r (silenced (s.wheel r)) s)

theorem goMissing_eq (r : Row) (s : State) : goMissing r s = reannounce r (withMissing r s) := rfl

theorem withMissing_frame (r : Row) (s : State) : Frame [.wheels, .evq, .osc] s (withMissing r s) :=
  ((putWheel_frame _ _ s).mono (by decide)).trans (setCondition_frame _ _ _ _)

theorem withMissing_wheel (r q : Row) (s : State) :
    (withMissing r s).wheel q =
      if q = r then
        { silenced (s.wheel r) with
          active := addCond (s.wheel r).active .missing
          counters := (s.wheel r).counters.set Condition.missing.code 0 }
      else s.wheel q := by
  simp only [withMissing, setCondition_wheel, putWheel_wheel, if_true]
  split <;> rfl

/-- MISSING is a WARNING, so its entry is no activity. -/
theorem withMissing_osc (r : Row) (s : State) : (withMissing r s).osc = s.osc :=
  (setCondition_osc (by decide) r true _).trans (putWheel_frame _ _ _).osc

theorem withMissing_evq (r : Row) (s : State) :
    (withMissing r s).evq = pushEvent
      { kind := .conditionOn, row := some r, condition := some .missing
        level := some ((withMissing r s).wheel r).alarmLevel, value := some 4095, time := s.now / 1000 } s.evq := by
  have hpc : ((putWheel r (silenced (s.wheel r)) s).wheel r).pc = 4095 := by
    rw [putWheel_wheel, if_pos rfl, silenced]
  have hevq := setCondition_evq r .missing true (putWheel r (silenced (s.wheel r)) s)
  rw [hpc] at hevq
  exact hevq

/-- The record left: silenced, with MISSING active, its counter 0, and the announcement that follows. -/
theorem goMissing_wheel (r : Row) (s : State) :
    ∃ d, ∀ q, (goMissing r s).wheel q =
      if q = r then
        { silenced (s.wheel r) with
          active := addCond (s.wheel r).active .missing
          counters := (s.wheel r).counters.set Condition.missing.code 0
          announced := announcedOf s.tables.announce (addCond (s.wheel r).active .missing), repeatAt := d }
      else s.wheel q := by
  obtain ⟨d, hd⟩ := reannounce_wheel r (withMissing r s)
  refine ⟨d, fun q => ?_⟩
  rw [goMissing_eq, hd, (withMissing_frame r s).tables]
  simp only [withMissing_wheel, if_true]
  split <;> rfl

theorem goMissing_announcedLegal (r : Row) (s : State) : AnnouncedLegal (goMissing r s) r := by
  obtain ⟨d, hd⟩ := goMissing_wheel r s
  unfold AnnouncedLegal
  rw [hd, if_pos rfl, (goMissing_frame r s).tables]

theorem goMissing_osc (r : Row) (s : State) : (goMissing r s).osc = s.osc :=
  (reannounce_frame r _).osc.trans (withMissing_osc r s)

/-- The announcement leaves the active set, and so the level that the event carries, as MISSING made it. -/
theorem goMissing_evq (r : Row) (s : State) :
    (goMissing r s).evq = pushEvent
      { kind := .conditionOn, row := some r, condition := some .missing
        level := some ((goMissing r s).wheel r).alarmLevel, value := some 4095, time := s.now / 1000 } s.evq := by
  have hlevel : ((goMissing r s).wheel r).alarmLevel = ((withMissing r s).wheel r).alarmLevel := by
    obtain ⟨d, hd⟩ := reannounce_wheel r (withMissing r s)
    rw [goMissing_eq, hd, if_pos rfl, WheelRecord.alarmLevel, WheelRecord.alarmLevel]
  rw [hlevel, ← withMissing_evq]
  exact (reannounce_frame r _).evq

/-- In ACTIVE a changed announcement of the silent wheel is queued as the record stands. -/
theorem alertOf_mem_goMissing {r : Row} {s : State} (hactive : s.osc.state = .active)
    (hchanged : ((goMissing r s).wheel r).announced ≠ (s.wheel r).announced) :
    alertOf r ((goMissing r s).wheel r) ∈ (goMissing r s).link.alerts := by
  have hbefore : ((withMissing r s).wheel r).announced = (s.wheel r).announced := by
    rw [withMissing_wheel, if_pos rfl, silenced]
  rw [goMissing_eq, ← hbefore] at hchanged
  rw [goMissing_eq]
  exact alertOf_mem_reannounce (by rw [withMissing_osc, hactive]) hchanged

/-! ### The two expiry commands -/

theorem exec_staleExpiry_of_due {s : State} {r : Row} (hrun : s.phase = .running) (hlive : (s.wheel r).status = .live)
    (hdue : due s (s.wheel r).staleAt = true) : exec (.staleExpiry r) s = .next (goStale r s) := by
  have hgo : staleExpiry r s = goStale r s := if_pos ⟨hlive, hdue⟩
  rw [← hgo]
  exact if_pos hrun

theorem exec_missingExpiry_of_due {s : State} {r : Row} (hrun : s.phase = .running)
    (hholds : holdsMissing (s.wheel r).status = true) (hdue : due s (s.wheel r).missingAt = true) :
    exec (.missingExpiry r) s = .next (goMissing r s) := by
  have hgo : missingExpiry r s = goMissing r s := if_pos ⟨hholds, hdue⟩
  rw [← hgo]
  exact if_pos hrun

/-! ### The settlement -/

/-- Settles O26: each expiry reaches its one operation, and the record, the event and the frame left are those of the lemmas above. -/
theorem staleAndMissingExpiry : Obligations.StaleAndMissingExpiry := by
  intro s r d hrun hd
  refine ⟨fun hlive hstale => ?stale, fun hstatus hmissing => ?missing⟩
  case stale => exact exec_staleExpiry_of_due hrun hlive (hstale ▸ due_of_le hd)
  case missing =>
    have hholds : holdsMissing (s.wheel r).status = true := by
      rcases hstatus with h | h | h <;> rw [h] <;> rfl
    have hframe := goMissing_frame r s
    obtain ⟨repeatAt, hwheel⟩ := goMissing_wheel r s
    have hrow := (hwheel r).trans (if_pos rfl)
    have halert : s.osc.state = .active → ((goMissing r s).wheel r).announced ≠ (s.wheel r).announced →
        ∃ f ∈ (goMissing r s).link.alerts, f.row = r ∧ f.status = .missing
          ∧ f.announced = ((goMissing r s).wheel r).announced ∧ f.pc = 4095 := fun hactive hchanged =>
      ⟨_, alertOf_mem_goMissing hactive hchanged, rfl, by simp only [alertOf, hrow, silenced], rfl,
        by simp only [alertOf, hrow, silenced]⟩
    have hothers : ∀ q, q ≠ r → (goMissing r s).wheel q = s.wheel q := fun q hq => (hwheel q).trans (if_neg hq)
    refine ⟨goMissing r s, exec_missingExpiry_of_due hrun hholds (hmissing ▸ due_of_le hd), ?_, ?_, ?_, ?_, ?_, ?_, ?_, ?_, ?_, ?_,
      ?_, ?_, goMissing_announcedLegal r s, goMissing_evq r s, halert, hothers, hframe.tables, hframe.candidates, hframe.enc,
      goMissing_osc r s, hframe.vdm⟩
    all_goals simp only [hrow, silenced]

end Sys2Proof.Machine
end

section
/-! The three requests that write, open and cancel an enrolment session: how the row fields of ENROL_ORDER read, which entry of the walk
order offends first, what the opening and the ending of a session leave, and the settlement of O45. -/

namespace Sys2Proof.Machine

/-! ### The commands, once the guard lets their request pass -/

theorem exec_enrolOrder_waitingFor {s : State} {data : List Byte} (h : WaitingFor 0x28 s data) :
    exec .enrolOrder s = .next (deliver data (enrolOrder data (takeOff s))) :=
  serveRequest_waitingFor h enrolOrder

theorem exec_enrolStart_waitingFor {s : State} {data : List Byte} (h : WaitingFor 0x29 s data) :
    exec .enrolStart s = .next (deliver data (enrolStart data (takeOff s))) :=
  serveRequest_waitingFor h enrolStart

theorem exec_enrolCancel_waitingFor {s : State} {data : List Byte} (h : WaitingFor 0x2A s data) :
    exec .enrolCancel s = .next (deliver data (enrolCancel data (takeOff s))) :=
  serveRequest_waitingFor h enrolCancel

theorem sessionOpen_iff (s : State) : sessionOpen s = true ↔ s.enc.session ≠ none := Option.isSome_iff_ne_none

/-! ### The row fields of ENROL_ORDER (R108) -/

/-- Fields that name rows are read one by one; what follows them decides the rest. -/
theorem rowFields_of_rows {fields : List Byte} {rows : List Row} {tail : List Nat}
    (h : fields.map BitVec.toNat = rows.map Fin.val ++ tail) :
    ∃ rest : List Byte, rest.map BitVec.toNat = tail ∧ rowFields fields = (rowFields rest).map (rows ++ ·) := by
  induction rows generalizing fields with
  | nil => exact ⟨fields, h, by simp⟩
  | cons r rows ih =>
    obtain ⟨b, fields, rfl, hb, hfields⟩ := List.map_eq_cons_iff.1 h
    obtain ⟨rest, hrest, hread⟩ := ih hfields
    have hrow : b.toNat < 32 := hb ▸ r.isLt
    refine ⟨rest, hrest, ?_⟩
    rw [rowFields, if_neg (by omega), dif_pos hrow, hread, Option.map_map]
    congr 1
    funext l
    simp [hb]

/-- The fields end at the first filler, or with the frame. -/
theorem rowFields_of_filler {fields : List Byte} {rows : List Row} {tail : List Nat}
    (h : fields.map BitVec.toNat = rows.map Fin.val ++ tail) (hend : tail = [] ∨ tail.head? = some 255) :
    rowFields fields = some rows := by
  obtain ⟨rest, rfl, hread⟩ := rowFields_of_rows h
  have hrest : rowFields rest = some [] := by
    cases rest with
    | nil => rfl
    | cons b rest => rw [rowFields, if_pos (by simpa using hend)]
  simp [hread, hrest]

/-- A field before the first filler that is neither a row nor the filler spoils the request. -/
theorem rowFields_of_badField {fields : List Byte} {rows : List Row} {tail : List Nat} {v : Nat}
    (h : fields.map BitVec.toNat = rows.map Fin.val ++ tail) (hv : tail.head? = some v) (hrow : 31 < v) (hfiller : v ≠ 255) :
    rowFields fields = none := by
  obtain ⟨rest, rfl, hread⟩ := rowFields_of_rows h
  have hrest : rowFields rest = none := by
    cases rest with
    | nil => simp at hv
    | cons b rest =>
      obtain rfl : b.toNat = v := by simpa using hv
      rw [rowFields, if_neg hfiller, dif_neg (by omega)]
  simp [hread, hrest]

/-! ### ENROL_ORDER, its checks in order (R108) -/

/-- The rows of an ENROL_ORDER continue the walk order held, within its 32 entries. -/
abbrev OrderFits (start : Nat) (rows : List Row) (s : State) : Prop :=
  start ≤ 31 ∧ start ≤ s.enc.walk.length ∧ start + rows.length ≤ 32

theorem enrolOrder_of_badField {data : List Byte} (s : State) (h : rowFields (data.drop 3) = none) :
    enrolOrder data s = refuse .badValue s := by
  simp only [enrolOrder, h]

theorem enrolOrder_of_rows {data : List Byte} {rows : List Row} (s : State) (h : rowFields (data.drop 3) = some rows) :
    enrolOrder data s =
      if ¬ OrderFits (natAt data 2) rows s then refuse .badValue s
      else if sessionOpen s then refuse .wrongState s
      else answered .ok (be8 (natAt data 2 + rows.length))
        { s with enc := { s.enc with walk := s.enc.walk.take (natAt data 2) ++ rows } } := by
  have hfits : (31 < natAt data 2 ∨ s.enc.walk.length < natAt data 2 ∨ 32 < natAt data 2 + rows.length)
      ↔ ¬ OrderFits (natAt data 2) rows s := by
    unfold OrderFits
    omega
  simp only [enrolOrder, h, hfits]
  rfl

/-! ### The entries of the walk order (R109) -/

theorem rowAbsent_iff (s : State) (r : Row) :
    rowAbsent s r = true ↔ 20 ≤ r.val ∧ ∀ k, s.trailer ≠ .identified k := by
  cases h : s.trailer <;> simp [rowAbsent, isTrailerRow, TrailerState.entry?, h]

theorem offends_iff (s : State) (i : Nat) (r : Row) :
    offends s i r = true ↔
      r ∈ s.enc.walk.take i ∨ (20 ≤ r.val ∧ ∀ k, s.trailer ≠ .identified k) ∨ rowUsable s r = false := by
  rw [← rowAbsent_iff]
  simp [offends, or_assoc]

theorem walkFault_of_empty {s : State} (h : s.enc.walk = []) : walkFault s = some 255 := by
  simp [walkFault, h]

theorem walkFault_of_first {s : State} {i : Nat} {r : Row} (hr : s.enc.walk[i]? = some r) (hbad : offends s i r = true)
    (hfirst : ∀ j q, j < i → s.enc.walk[j]? = some q → ¬ offends s j q = true) : walkFault s = some i := by
  obtain ⟨hi, -⟩ := List.getElem?_eq_some_iff.1 hr
  have hne : s.enc.walk ≠ [] := List.ne_nil_of_length_pos (by omega)
  rw [walkFault, if_neg (by simpa using hne), List.find?_range_eq_some]
  refine ⟨by simpa [hr] using hbad, List.mem_range.2 hi, fun j hj => ?_⟩
  have hq := List.getElem?_eq_getElem (hj.trans hi)
  simpa [hq] using hfirst j _ hj hq

theorem walkFault_of_sound {s : State} (hne : s.enc.walk ≠ [])
    (h : ∀ i r, s.enc.walk[i]? = some r → ¬ offends s i r = true) : walkFault s = none := by
  rw [walkFault, if_neg (by simpa using hne), List.find?_eq_none]
  intro i hi
  have hr := List.getElem?_eq_getElem (List.mem_range.1 hi)
  simpa [hr] using h i _ hr

/-! ### The opening of a session (R110) -/

/-- ENC as the opening of a session leaves it. -/
def openedEnc (allowMove : Bool) (s : State) : Enrolment :=
  { s.enc with
    session := some 0, allowMove := allowMove, pairs := [], copies := [], proposal := none
    stepDeadline := some (s.now + s.setting .stepTimeoutS * 1000) }

theorem openSession_of_noProposal {s : State} (allowMove : Bool) (h : s.enc.proposal = none) :
    openSession allowMove s = { s with enc := openedEnc allowMove s } := by
  have hw : withdraw s = s := by simp only [withdraw, h]
  simp only [openSession, hw, openedEnc, ← h]
  rfl

/-- An open proposal is withdrawn with its event (R129). -/
theorem openSession_of_proposal {s : State} {r : Row} {id : SensorId} (allowMove : Bool) (h : s.enc.proposal = some (r, id)) :
    openSession allowMove s =
      raiseEvent .proposalWithdrawn (some r) (some id.toNat) { s with enc := openedEnc allowMove s } := by
  have hw : withdraw s =
      raiseEvent .proposalWithdrawn (some r) (some id.toNat) (s.setEnc { s.enc with proposal := none }) := by
    simp only [withdraw, h]
  rw [openSession, hw]
  rfl

/-! ### ENROL_START, its checks in order (R109) -/

theorem moving_of_known {s : State} {speed : Nat} (h : s.vdm.speed = some speed) :
    moving s = decide (s.setting .movingSpeedKmh < speed) := by
  simp [moving, h]

theorem enrolStart_of_badMode {data : List Byte} (s : State) (h : 1 < natAt data 2) :
    enrolStart data s = answered .badValue [255] s := if_pos h

theorem enrolStart_of_forbidden {data : List Byte} {s : State} (hmode : natAt data 2 ≤ 1)
    (h : s.osc.state ≠ .active ∨ s.enc.session ≠ none ∨ s.vdm.speed = none ∨ moving s = true) :
    enrolStart data s = refuse .wrongState s := by
  have hforbids : s.osc.state ≠ .active ∨ sessionOpen s = true ∨ speedForbids s = true := by
    simpa [sessionOpen_iff, speedForbids] using h
  rw [enrolStart, if_neg (by omega), if_pos hforbids]

/-- ACTIVE, no session, and a known speed at which the vehicle is not moving: only the walk order is left to check. -/
theorem enrolStart_of_standing {data : List Byte} {s : State} {speed : Nat} (hmode : natAt data 2 ≤ 1)
    (hactive : s.osc.state = .active) (hclosed : s.enc.session = none) (hspeed : s.vdm.speed = some speed)
    (hstands : speed ≤ s.setting .movingSpeedKmh) :
    (∀ i, walkFault s = some i → enrolStart data s = answered .badValue (be8 i) s)
      ∧ (walkFault s = none →
          enrolStart data s =
            answered .ok (be8 s.enc.walk.length) (openSession (decide (natAt data 2 = 1)) s)) := by
  have hallowed : ¬ (s.osc.state ≠ .active ∨ sessionOpen s = true ∨ speedForbids s = true) := by
    simp [hactive, hclosed, sessionOpen, speedForbids, hspeed, moving_of_known hspeed, hstands]
  rw [enrolStart, if_neg (by omega), if_neg hallowed]
  exact ⟨fun i hi => by rw [hi], fun hi => by rw [hi]⟩

/-! ### A change of the operating state, seen by OSC and VDM (R142, R143) -/

theorem enterState_osc_state (n : OpState) (s : State) : (enterState n s).osc.state = n := by
  unfold enterState
  simp only [(enterLink_frame _ _ _).osc, (enterVdm_frame _ _ _).osc, (enterWheels_frame _ _ _).osc]
  rfl

/-- Only DORMANT, entered or left, touches the vehicle data. -/
theorem enterState_vdm {n : OpState} {s : State} (hn : n ≠ .dormant) (hold : s.osc.state ≠ .dormant) :
    (enterState n s).vdm = s.vdm := by
  unfold enterState
  simp only [(enterLink_frame _ _ _).vdm, enterVdm, if_neg hn, if_neg hold, (enterWheels_frame _ _ _).vdm]
  rfl

theorem notice_osc_state (a : Activity) (s : State) : (notice a s).osc.state = s.osc.state := by
  unfold notice
  split <;> rfl

/-- The take of a request wakes a dormant part (R147). -/
theorem takeOff_not_dormant (s : State) : (takeOff s).osc.state ≠ .dormant := by
  unfold takeOff
  rw [notice_osc_state]
  split
  case isTrue => rw [enterState_osc_state]; decide
  case isFalse hawake => exact hawake

/-! ### OSC told that the session is closed (R145) -/

/-- Park pending with IGNITION still off: the move to PARK_WATCH that waited for the session takes place. -/
theorem sessionClosed_of_parking {s : State} (h : s.osc.parkPending = true ∧ s.lines.ignition = false) :
    sessionClosed s = enterState .parkWatch (s.setOsc { s.osc with parkPending := false }) := by
  obtain ⟨hpark, hoff⟩ := h
  simp [sessionClosed, hpark, hoff]

/-- Otherwise no more than park pending itself is cleared. -/
theorem sessionClosed_of_staying {s : State} (h : ¬ (s.osc.parkPending = true ∧ s.lines.ignition = false)) :
    sessionClosed s = s.setOsc { s.osc with parkPending := false } := by
  cases hpark : s.osc.parkPending
  case false =>
    have hosc : { s.osc with parkPending := false } = s.osc := by rw [← hpark]
    rw [hosc, State.setOsc_self]
    simp [sessionClosed, hpark]
  case true =>
    have hon : s.lines.ignition = true := by simpa [hpark] using h
    simp [sessionClosed, hpark, hon]

theorem sessionClosed_vdm {s : State} (hawake : s.osc.state ≠ .dormant) : (sessionClosed s).vdm = s.vdm := by
  by_cases h : s.osc.parkPending = true ∧ s.lines.ignition = false
  · rw [sessionClosed_of_parking h]
    exact enterState_vdm (by decide) hawake
  · rw [sessionClosed_of_staying h]
    rfl

/-! ### A search, seen by ENC (R128) -/

theorem reportAmbiguous_enc (r : Row) (n : Nat) (s : State) : (reportAmbiguous r n s).enc = s.enc := by
  unfold reportAmbiguous
  dsimp only
  split <;> rfl

/-- A search of some rows leaves ENC as it was, but for the proposal it may open. -/
theorem searchRows_enc (rows : List Row) (s : State) : ∃ p, (searchRows rows s).enc = { s.enc with proposal := p } := by
  induction rows generalizing s with
  | nil => exact ⟨s.enc.proposal, rfl⟩
  | cons r rest ih =>
    unfold searchRows
    split
    case isTrue => exact ih s
    case isFalse =>
      split
      · exact ih s
      · exact ⟨_, rfl⟩
      · obtain ⟨p, hp⟩ := ih (reportAmbiguous r (eligible s r).length s)
        exact ⟨p, by rw [hp, reportAmbiguous_enc]⟩

theorem search_enc (s : State) : ∃ p, (search s).enc = { s.enc with proposal := p } := by
  unfold search
  split
  case isTrue => exact searchRows_enc allRows s
  case isFalse => exact ⟨s.enc.proposal, rfl⟩

/-! ### The end of a session (R119) -/

/-- An event raised first is one of those its step raised. -/
theorem raised_of_frame {c : List Field} {kind : EventKind} {row : Option Row} {value : Option Nat} {s t u : State}
    (hevq : t.evq = s.evq) (hclock : t.clock = s.clock) (h : Frame c (raiseEvent kind row value t) u) :
    Raised { kind := kind, row := row, value := value.map (BitVec.ofNat 32), time := s.now / 1000 } s u := by
  obtain ⟨later, hlater⟩ := h.pushes
  refine ⟨[], later, ?_⟩
  rw [hlater, State.now, ← hclock, ← hevq]
  rfl

/-- The state in which ENC has closed the session and said so, and OSC has not been told yet. -/
def withClosedEnc (how : Ending) (i : Nat) (s : State) : State :=
  raiseEvent .enrolEnded (stepRow s i) (some how.code) (s.setEnc (closedEnc s.enc how 0 0))

theorem endSession_eq {how : Ending} {i : Nat} {s : State} (h : s.enc.session = some i) :
    endSession how s = search (sessionClosed (withClosedEnc how i s)) := by
  simp only [endSession, h]
  rfl

/-- Every ending other than COMPLETED, in a part that is not DORMANT: no other session is lawful. -/
theorem endSession_ended {i : Nat} {s : State} (how : Ending) (hopen : s.enc.session = some i)
    (hawake : s.osc.state ≠ .dormant) : Ended how i s (endSession how s) := by
  let closed := withClosedEnc how i s
  have hsearch := search_frame (sessionClosed closed)
  have htold := sessionClosed_frame closed
  have hframe := endSession_frame how s
  obtain ⟨p, henc⟩ := search_enc (sessionClosed closed)
  rw [htold.enc] at henc
  rw [endSession_eq hopen] at hframe ⊢
  have hraised := raised_of_frame (s := s) (t := s.setEnc (closedEnc s.enc how 0 0)) rfl rfl
    ((htold.mono (d := endFields) (by decide)).trans (hsearch.mono (by decide)))
  have hvdm : (search (sessionClosed closed)).vdm = s.vdm := hsearch.vdm.trans (sessionClosed_vdm hawake)
  refine ⟨⟨?_, ?_, ?_, ?_, ?_, ?_, ?_, ?_, hframe.tables, hframe.candidates, hframe.trailer, hframe.store, hvdm, hraised,
    fun hpark => ?parking, fun hstay => ?staying⟩, fun hstay => ?wheels⟩
  case parking => rw [hsearch.osc, sessionClosed_of_parking (s := closed) hpark, enterState_osc_state]
  case staying => rw [hsearch.osc, sessionClosed_of_staying (s := closed) hstay]; rfl
  case wheels => rw [hsearch.wheels, sessionClosed_of_staying (s := closed) hstay]; rfl
  all_goals rw [henc]; rfl

/-! ### ENROL_CANCEL (R118) -/

theorem enrolCancel_of_closed (data : List Byte) {s : State} (h : s.enc.session = none) :
    enrolCancel data s = refuse .wrongState s := by
  simp [enrolCancel, sessionOpen, h]

theorem enrolCancel_of_open (data : List Byte) {s : State} {i : Nat} (h : s.enc.session = some i) :
    enrolCancel data s = answered .ok [] (endSession .cancelled s) := by
  simp [enrolCancel, sessionOpen, h]

/-! ### The settlement -/

/-- Settles O45: each take reaches its owner, whose checks and effects are those of the lemmas above. -/
theorem enrolmentRequests : Obligations.EnrolmentRequests := by
  intro s data b
  refine ⟨fun hw rows tail hfields => ?order, fun hw => ?start, fun hw => ?cancel⟩
  case order =>
    intro start good
    rw [exec_enrolOrder_waitingFor hw]
    refine ⟨fun v hv hrow hfiller => ?badField, fun hend => ?rows⟩
    case badField => rw [enrolOrder_of_badField _ (rowFields_of_badField hfields hv hrow hfiller), deliver_refuse]
    case rows =>
      rw [enrolOrder_of_rows _ (rowFields_of_filler hfields hend)]
      refine ⟨fun hbad => ?_, fun hgood hopen => ?_, fun hgood hclosed => ?_⟩
      · rw [if_pos hbad, deliver_refuse]
      · rw [if_neg (not_not.2 hgood), if_pos ((sessionOpen_iff b).2 hopen), deliver_refuse]
      · rw [if_neg (not_not.2 hgood), if_neg (mt (sessionOpen_iff b).1 (not_not.2 hclosed)), deliver_answered]
        rfl
  case start =>
    rw [exec_enrolStart_waitingFor hw]
    refine ⟨fun hmode => ?badMode, fun hmode h => ?forbidden,
      fun speed hmode hactive hclosed hspeed hstands => ?standing⟩
    case badMode => rw [enrolStart_of_badMode _ hmode, deliver_answered]
    case forbidden => rw [enrolStart_of_forbidden hmode h, deliver_refuse]
    case standing =>
      intro offending
      obtain ⟨hfault, hsound⟩ := enrolStart_of_standing hmode hactive hclosed hspeed hstands
      refine ⟨fun hempty => ?_, fun i r hr hbad hfirst => ?_, fun hne hgood => ?opened⟩
      · rw [hfault 255 (walkFault_of_empty hempty), deliver_answered]
        rfl
      · have hi : walkFault b = some i := walkFault_of_first hr ((offends_iff b i r).2 hbad)
          fun j q hj hq => mt (offends_iff b j q).1 (hfirst j q hj hq)
        rw [hfault i hi, deliver_answered]
        rfl
      case opened =>
        have hnone : walkFault b = none :=
          walkFault_of_sound hne fun i r hr => mt (offends_iff b i r).1 (hgood i r hr)
        rw [hsound hnone, deliver_answered]
        refine ⟨fun hp => ?_, fun r id hp => ?_⟩
        · rw [openSession_of_noProposal _ hp]
          rfl
        · rw [openSession_of_proposal _ hp]
          rfl
  case cancel =>
    rw [exec_enrolCancel_waitingFor hw]
    refine ⟨fun hclosed => ?_, fun i hopen => ⟨endSession .cancelled b, ?_, ?_⟩⟩
    · rw [enrolCancel_of_closed data hclosed, deliver_refuse]
    · rw [enrolCancel_of_open data hopen, deliver_answered]
    · exact endSession_ended .cancelled hopen (takeOff_not_dormant s)

end Sys2Proof.Machine
end

section
/-! The readers that a frame keeps, one step of the queue, the resets, the supply and the lines: the settlements of O1, O2, O4 to O7, O10 and O11. -/

namespace Sys2Proof.Machine

-- One theorem after another: side by side their threads outgrow the memory that the check allows.
set_option Elab.async false

/-- A state is its fields. -/
theorem eq_of_agree {s t : State} (h : ∀ f, Agree s t f) : t = s := by
  cases s
  cases t
  simp only [State.mk.injEq]
  exact ⟨h .clock, h .phase, h .lines, h .image, h .tables, h .lanes, h .handed, h .trailer, h .window, h .recog, h .candidates,
    h .wheels, h .enc, h .episodes, h .vdm, h .osc, h .evq, h .store, h .link, h .mgu, h .saves, h .pending⟩

/-! ### Readers of the tables, the trailer state and the vehicle data -/

namespace Frame

variable {c : List Field} {s t : State}

theorem axleOf (h : Frame c s t) (k : Field.tables ∉ c := by decide) (l : Field.trailer ∉ c := by decide) (a : AxleNo) :
    Machine.axleOf t a = Machine.axleOf s a := by
  simp only [Machine.axleOf, h.tables k, h.trailer l]

theorem rowId (h : Frame c s t) (k : Field.tables ∉ c := by decide) (l : Field.trailer ∉ c := by decide) (r : Row) :
    Machine.rowId t r = Machine.rowId s r := by
  simp only [Machine.rowId, h.tables k, h.trailer l]

theorem rowUsable (h : Frame c s t) (k : Field.tables ∉ c := by decide) (l : Field.trailer ∉ c := by decide) (r : Row) :
    Machine.rowUsable t r = Machine.rowUsable s r := by
  simp only [Machine.rowUsable, h.axleOf k l]

theorem groupOf (h : Frame c s t) (k : Field.tables ∉ c := by decide) (l : Field.trailer ∉ c := by decide) (r : Row) :
    Machine.groupOf t r = Machine.groupOf s r := by
  simp only [Machine.groupOf, h.axleOf k l, h.tables k]

theorem raisedRow (h : Frame c s t) (k : Field.tables ∉ c := by decide) (l : Field.trailer ∉ c := by decide)
    (m : Field.vdm ∉ c := by decide) (r : Row) : Machine.raisedRow t r = Machine.raisedRow s r := by
  simp only [Machine.raisedRow, Machine.raisedAxle, h.axleOf k l, h.vdm m]

theorem limitsOf (h : Frame c s t) (k : Field.tables ∉ c := by decide) (l : Field.trailer ∉ c := by decide)
    (m : Field.vdm ∉ c := by decide) (r : Row) : Machine.limitsOf t r = Machine.limitsOf s r := by
  have hload : ∀ u, unitLoad t u = unitLoad s u := fun u => by cases u <;> simp only [unitLoad, h.vdm m]
  simp only [Machine.limitsOf, h.groupOf k l, hload]

theorem moving (h : Frame c s t) (k : Field.tables ∉ c := by decide) (m : Field.vdm ∉ c := by decide) :
    Machine.moving t = Machine.moving s := by
  simp only [Machine.moving, h.setting _ k, h.vdm m]

theorem usesMoving (h : Frame c s t) (k : Field.tables ∉ c := by decide) (l : Field.trailer ∉ c := by decide)
    (m : Field.vdm ∉ c := by decide) (r : Row) : Machine.usesMoving t r = Machine.usesMoving s r := by
  simp only [Machine.usesMoving, h.moving k m, h.raisedRow k l m]

theorem staleMs (h : Frame c s t) (k : Field.tables ∉ c := by decide) (l : Field.trailer ∉ c := by decide)
    (m : Field.vdm ∉ c := by decide) (r : Row) : Machine.staleMs t r = Machine.staleMs s r := by
  simp only [Machine.staleMs, h.usesMoving k l m, h.setting _ k]

theorem missingMs (h : Frame c s t) (k : Field.tables ∉ c := by decide) (l : Field.trailer ∉ c := by decide)
    (m : Field.vdm ∉ c := by decide) (r : Row) : Machine.missingMs t r = Machine.missingMs s r := by
  simp only [Machine.missingMs, h.usesMoving k l m, h.setting _ k]

theorem episode (h : Frame c s t) (r : Row) (k : Field.episodes ∉ c := by decide) : t.episode r = s.episode r := by
  simp only [State.episode, h.episodes k]

theorem lane (h : Frame c s t) (l : LaneNo) (k : Field.lanes ∉ c := by decide) : t.lane l = s.lane l := by
  simp only [State.lane, h.lanes k]

end Frame

/-! ### The queue of commands -/

/-- Settles O1. -/
theorem stepRunsTheFrontCommand : Obligations.StepRunsTheFrontCommand := by
  intro s c rest h
  simp only [step, h]
  rfl

theorem spendWriteTime_eq (s : State) : spendWriteTime s = { s with
    store := if s.store.state = .writing then { s.store with remaining := s.store.remaining - 1 } else s.store } := by
  unfold spendWriteTime
  split <;> rfl

/-- The moving missing times grow row by row, under conditions that are the part's own (R125). -/
theorem growEpisodes_eq (s : State) : growEpisodes s = { s with
    episodes := Vector.ofFn fun r : Row =>
      if s.osc.state = .active ∧ moving s = true ∧ sessionOpen s = false ∧ (s.wheel r).status = .missing then
        { s.episode r with movingMs := (s.episode r).movingMs + 1 }
      else s.episode r } := by
  unfold growEpisodes
  split
  case isTrue h =>
    obtain ⟨hactive, hmoving, hclosed⟩ := h
    simp only [Bool.not_eq_true'] at hclosed
    simp only [hactive, hmoving, hclosed, true_and]
    rfl
  case isFalse h =>
    have hrows : ∀ r : Row, ¬ (s.osc.state = .active ∧ moving s = true ∧ sessionOpen s = false
        ∧ (s.wheel r).status = .missing) := fun r ⟨hactive, hmoving, hclosed, _⟩ =>
      h ⟨hactive, hmoving, by simp [hclosed]⟩
    simp only [if_neg (hrows _)]
    have hself : (Vector.ofFn fun r : Row => s.episode r) = s.episodes := by
      ext i hi
      simp [State.episode]
    rw [hself]

/-- Settles O2: the clock, the moving missing times and the write time, each by its own condition. -/
theorem emptyQueueIsOneMillisecond : Obligations.EmptyQueueIsOneMillisecond := by
  intro s hempty
  have hstep : step s = .next (tick s) := by simp only [step, hempty]
  refine ⟨fun hp => ?_, fun hp => ?_, fun hp => ?_⟩
  · rw [hstep, show tick s = s by simp only [tick, hp]]
  · rw [hstep, show tick s = advanceClock s by simp only [tick, hp]]
    rfl
  · rw [hstep, show tick s = spendWriteTime (growEpisodes (advanceClock s)) by simp only [tick, hp], spendWriteTime_eq,
      growEpisodes_eq]
    rfl

/-! ### Outside running -/

theorem whileRunning_running {s : State} (h : s.phase = .running) (f : State → State) : whileRunning f s = .next (f s) :=
  if_pos h

theorem whileRunning_stopped {s : State} (h : s.phase ≠ .running) (f : State → State) : whileRunning f s = .next s :=
  if_neg h

/-- A frame that is no longer than a data field can be is taken by what the link does with it. -/
theorem receiveFrame_of_length {f : BusFrame} (h : f.data.length ≤ 8) (s : State) :
    receiveFrame f s = whileRunning (frameArrives f) s := if_neg (Nat.not_lt.2 h)

/-- Settles O4: every command but the resets and the lines runs under `whileRunning`. -/
theorem nothingActsOutsideRunning : Obligations.NothingActsOutsideRunning := by
  intro s hs
  refine ⟨fun c hform hother hlines => ?commands, fun hoff => ?release, fun v => if_neg hs, fun v => rfl, if_neg hs,
    if_neg hs⟩
  case release => exact if_neg (by simp [hoff])
  case commands =>
    have hstopped : ∀ f, whileRunning f s = .next s := whileRunning_stopped hs
    cases c
    case ignitionChange v => exact absurd rfl (hlines v).1
    case serviceChange v => exact absurd rfl (hlines v).2
    case coldReset | powerLoss | resetRelease | crankAssert | crankRelease => simp at hother
    case vehicleDataFrame f | requestFrame f =>
      exact (receiveFrame_of_length (of_decide_eq_true hform) s).trans (hstopped _)
    all_goals exact hstopped _

/-! ### The lines -/

/-- Settles O10: the line is one field, and the guard's table is read off level by level. -/
theorem guardReadsTheServiceLine : Obligations.GuardReadsTheServiceLine := by
  refine ⟨fun s v => rfl, fun s => ⟨rfl, fun hfrozen => ?_, fun hfree => ⟨fun h => ?_, fun h => ?_, fun h => ?_⟩⟩⟩
  · simp [guardAllows, hfrozen]
  all_goals simp [guardAllows, hfree, h]

/-- Settles O11: each of the four states of a save, as the two edges of CRANK and the resume deadline meet it. -/
theorem crankSuspendsTheSave : Obligations.CrankSuspendsTheSave := by
  intro s hrun
  have hassert : exec .crankAssert s = .next (crankAssert s) := if_pos hrun
  have hrelease : exec .crankRelease s = .next (crankRelease s) := if_pos hrun
  have hexpiry : exec .resumeExpiry s = .next (resumeExpiry s) := if_pos hrun
  rw [hassert, hrelease, hexpiry]
  refine ⟨?suspend, ?stay, fun h => ?release, fun h => ?noRelease, fun d h hd hdue => ?resume⟩
  case suspend => rintro (h | h) <;> simp [crankAssert, h] <;> rfl
  case stay => rintro (h | h) <;> simp [crankAssert, h] <;> rfl
  case release =>
    simp [crankRelease, h]
    rfl
  case noRelease =>
    cases hstate : s.store.state
    case suspended => exact absurd hstate h
    all_goals
      simp [crankRelease, hstate]
      rfl
  case resume =>
    have hgo : s.store.state = .resuming ∧ due s s.store.resumeAt = true := ⟨h, hd ▸ due_of_le hdue⟩
    rw [resumeExpiry, if_pos hgo]
    rfl

/-! ### The loss of power and the RESET line asserted -/

theorem cutSave_eq (s : State) :
    cutSave s = { s with image := if saveInFlight s = true then .cutShort else s.image } := by
  unfold cutSave
  split <;> rfl

/-- What no reset and no loss of power leaves: lanes, trailer, candidates, wheel records, sessions, vehicle data, controller, events,
saves, and the queues and deadlines of the link. -/
def cleared (s : State) : State :=
  { s with
    lanes := Vector.replicate 4 .reset, handed := [], trailer := .none, window := none, recog := noRecog, candidates := []
    wheels := Vector.replicate 32 (.fresh .vacant), enc := .reset, episodes := Vector.replicate 32 .reset
    vdm := .reset none, osc := .reset, store := .reset, evq := { records := [], overflow := false, taken := none }
    link := .cleared s.link.state s.link.rate [] none, mgu := { s.mgu with deferredRestart := none } }

theorem clearVolatile_eq (s : State) : clearVolatile s = cleared s :=
  eq_of_agree fun f => by cases f <;> simp [Agree, clearVolatile, cleared]

/-- Settles O6: both cut a save in flight and clear what is volatile, and differ in the phase they leave. -/
theorem powerLossAndResetCutTheSave : Obligations.PowerLossAndResetCutTheSave := by
  intro s bare
  have hclear : clearVolatile (cutSave s) = bare := by
    rw [cutSave_eq, clearVolatile_eq]
    rfl
  have hloss : exec .powerLoss s = .next ((clearVolatile (cutSave s)).setPhase .off) := rfl
  refine ⟨hclear ▸ hloss, fun hrun => ?_, fun hstopped => if_neg hstopped⟩
  have hassert : exec .resetAssert s = .next ((clearVolatile (cutSave s)).setPhase .inReset) := if_pos hrun
  exact hclear ▸ hassert

/-! ### The load of the tables (R155, R156) -/

/-- A valid image is the image of its content. -/
theorem loadTables_of_valid {s : State} {c : Tables} (h : s.image = imageOf c) :
    loadTables s = (s.setTables c).setStore { s.store with dirty := false, invalid := false } := by
  unfold loadTables
  rw [h, imageOf]
  exact if_pos rfl

/-- Every other image, blank, cut short or of a wrong CRC, gives the factory tables. -/
theorem loadTables_of_invalid {s : State} (h : ∀ c, s.image ≠ imageOf c) :
    loadTables s = raiseEvent .storeInvalid none none
      ((s.setTables .factory).setStore { s.store with dirty := true, invalid := true }) := by
  unfold loadTables
  split
  case h_1 content crc himage =>
    refine if_neg fun hcrc => h content ?_
    rw [himage, imageOf, hcrc]
  case h_2 | h_3 => rfl

/-- The record of a row right after a load, when no trailer is identified: truck rows alone hold an ID. -/
theorem resetWheel_of_noTrailer {s : State} (h : s.trailer = .none) (r : Row) :
    resetWheel s r = .fresh (if h : r.val < 20 then (if s.tables.rows[r.val].isSome then .awaiting else .vacant) else .vacant) := by
  unfold resetWheel rowId
  split <;> simp [h]

/-! ### The entry to STARTING -/

/-- The part as RESET_RELEASE finds its tables. -/
def warmCleared (s : State) : State := { cleared s with phase := .running }

/-- What follows the load: the records of the rows, the frame timeout and the link (R78, R133, R164). -/
def startingFrom (before : Link) (t : State) : State :=
  ((t.setWheels (Vector.ofFn fun r => resetWheel t r)).setVdm
    (.reset (some (t.now + t.setting .vehicleDataTimeoutMs)))).setLink (resetLink before t)

theorem startingFrom_frame (before : Link) (t : State) : Frame [.wheels, .vdm, .link] t (startingFrom before t) :=
  (((setWheels_frame _ t).mono (by decide)).trans ((setVdm_frame _ _).mono (by decide))).trans
    ((setLink_frame _ _).mono (by decide))

theorem resetLink_congr {c : List Field} {s t : State} (before : Link) (h : Frame c s t) (k : Field.tables ∉ c := by decide)
    (l : Field.clock ∉ c := by decide) : resetLink before t = resetLink before s := by
  simp only [resetLink, searchFrom, h.tables k, h.now l]

theorem enterStarting_eq (before : Link) (s : State) :
    enterStarting before s = startingFrom before (loadTables (warmCleared s)) := by
  have hcleared : (clearVolatile s).setPhase .running = warmCleared s := by
    rw [clearVolatile_eq]
    rfl
  simp only [enterStarting, hcleared]
  generalize loadTables (warmCleared s) = t
  rw [resetLink_congr (s := t) before
    (((setWheels_frame _ t).mono (d := [.wheels, .vdm]) (by decide)).trans ((setVdm_frame _ _).mono (by decide)))]
  simp only [startingFrom, State.setWheels_now, State.setWheels_setting]

/-! ### COLD_RESET -/

/-- The rows of the factory tables hold no ID. -/
theorem resetWheels_of_factory {s : State} (ht : s.trailer = .none) (hf : s.tables = .factory) :
    (Vector.ofFn fun r => resetWheel s r) = Vector.replicate 32 (.fresh .vacant) := by
  ext i hi
  simp [resetWheel_of_noTrailer ht, hf, Tables.factory]

/-- The part as COLD_RESET finds its tables: nothing volatile left, the clock at 0, and the image a save in flight leaves. -/
def coldCleared (s : State) : State :=
  { State.reset with
    lines := s.lines, saves := s.saves, pending := s.pending, tables := s.tables
    image := if saveInFlight s = true then .cutShort else s.image
    vdm := .reset none, evq := { records := [], overflow := false, taken := none }, store := .reset
    link := .cleared s.link.state s.link.rate [] none }

theorem coldReset_eq (s : State) :
    coldReset s = startingFrom { s.link with state := .searching } (loadTables (coldCleared s)) := by
  have hcleared : warmCleared (((cutSave s).setClock 0).setMgu { ((cutSave s).setClock 0).mgu with frozen := false })
      = coldCleared s := by
    rw [cutSave_eq]
    exact eq_of_agree fun f => by cases f <;> rfl
  have hlink : ((cutSave s).setClock 0).link = s.link := (cutSave_frame s).link
  simp only [coldReset, enterStarting_eq, hcleared, hlink]

/-- Settles O5: with a valid image the load is its content, and the rows follow the IDs loaded; with any other the part is as
`State.reset`, whose image is blank. -/
theorem coldResetLoadsTheTables : Obligations.ColdResetLoadsTheTables := by
  intro s image
  have hexec : exec .coldReset s = .next _ := congrArg Host.Outcome.next (coldReset_eq s)
  have himage : (coldCleared s).image = image := rfl
  refine ⟨fun hinvalid => ?invalid, fun c hvalid => ?valid⟩
  case invalid =>
    rw [hexec, loadTables_of_invalid fun c hc => hinvalid c (himage.symm.trans hc), startingFrom, resetWheels_of_factory rfl rfl]
    refine congrArg Host.Outcome.next (eq_of_agree fun f => ?_)
    cases f
    case evq => simp [Agree, raiseEvent, coldCleared, State.now, State.reset, pushEvent, eventCapacity]
    all_goals rfl
  case valid =>
    rw [hexec, loadTables_of_valid (himage.trans hvalid), startingFrom]
    have htrailer : (((coldCleared s).setTables c).setStore { (coldCleared s).store with dirty := false, invalid := false }).trailer
        = .none := rfl
    simp only [resetWheel_of_noTrailer htrailer]
    refine congrArg Host.Outcome.next (eq_of_agree fun f => ?_)
    cases f
    case vdm => simp [Agree, coldCleared, State.now, State.reset]
    case link => simp [Agree, coldCleared, State.now, State.reset, resetLink, searchFrom]
    all_goals rfl

/-! ### RESET_RELEASE -/

/-- The load touches the tables, the flags of the store and the event queue alone. -/
theorem loadTables_frame (s : State) : Frame [.tables, .store, .evq] s (loadTables s) := by
  by_cases h : ∃ c, s.image = imageOf c
  · obtain ⟨c, hc⟩ := h
    rw [loadTables_of_valid hc]
    exact ((setTables_frame _ _).mono (by decide)).trans ((setStore_frame _ _).mono (by decide))
  · rw [loadTables_of_invalid (not_exists.1 h)]
    exact (((setTables_frame _ _).mono (by decide)).trans ((setStore_frame _ _).mono (by decide))).trans
      ((raiseEvent_frame _ _ _ _).mono (by decide))

/-- The state a reset of the line or a RESTART leaves, by what the image holds. -/
structure Restarting (before : Link) (s t : State) : Prop where
  phase : t.phase = .running
  osc : t.osc = .reset
  clock : t.clock = s.clock
  lines : t.lines = s.lines
  image : t.image = s.image
  mgu : t.mgu = { s.mgu with deferredRestart := none }
  enc : t.enc = .reset
  candidates : t.candidates = []
  trailer : t.trailer = .none
  wheels : ∀ r, t.wheel r = .fresh (if (rowId t r).isSome then .awaiting else .vacant)
  vdm : t.vdm = .reset (some (s.now + t.setting .vehicleDataTimeoutMs))
  link : t.link = resetLink before t
  loaded : ∀ c, s.image = imageOf c → t.tables = c ∧ t.store = .reset ∧ t.evq.records = []
  notLoaded : (∀ c, s.image ≠ imageOf c) →
    t.tables = .factory ∧ t.store = { Store.reset with dirty := true, invalid := true }
    ∧ t.evq.records = [{ kind := .storeInvalid, time := s.now / 1000 }]

theorem enterStarting_restarting (before : Link) (s : State) : Restarting before s (enterStarting before s) := by
  have hframe := loadTables_frame (warmCleared s)
  have hvalid : ∀ c, s.image = imageOf c → (loadTables (warmCleared s)).tables = c
      ∧ (loadTables (warmCleared s)).store = .reset ∧ (loadTables (warmCleared s)).evq.records = [] := fun c hc => by
    rw [loadTables_of_valid (s := warmCleared s) hc]
    exact ⟨rfl, rfl, rfl⟩
  have hinvalid : (∀ c, s.image ≠ imageOf c) → (loadTables (warmCleared s)).tables = .factory
      ∧ (loadTables (warmCleared s)).store = { Store.reset with dirty := true, invalid := true }
      ∧ (loadTables (warmCleared s)).evq.records = [{ kind := .storeInvalid, time := s.now / 1000 }] := fun hc => by
    rw [loadTables_of_invalid (s := warmCleared s) hc]
    exact ⟨rfl, rfl, rfl⟩
  rw [enterStarting_eq]
  generalize loadTables (warmCleared s) = t at hframe hvalid hinvalid
  have hstart := startingFrom_frame before t
  refine ⟨hstart.phase.trans hframe.phase, hstart.osc.trans hframe.osc, hstart.clock.trans hframe.clock,
    hstart.lines.trans hframe.lines, hstart.image.trans hframe.image, hstart.mgu.trans hframe.mgu, hstart.enc.trans hframe.enc,
    hstart.candidates.trans hframe.candidates, hstart.trailer.trans hframe.trailer, fun r => ?wheels, ?vdm,
    (resetLink_congr before hstart).symm, ?valid, ?invalid⟩
  case wheels =>
    rw [hstart.rowId]
    simp [startingFrom, resetWheel]
  case vdm =>
    rw [hstart.setting, ← show t.now = s.now from hframe.now]
    rfl
  case valid => rwa [hstart.tables, hstart.store, hstart.evq]
  case invalid => rwa [hstart.tables, hstart.store, hstart.evq]

/-- Settles O7: the entry to STARTING, with the link as it was at the release. -/
theorem resetReleaseEntersStarting : Obligations.ResetReleaseEntersStarting := by
  intro s hreset
  have h := enterStarting_restarting s.link s
  refine ⟨enterStarting s.link s, if_pos hreset, h.phase, h.osc, h.clock, h.lines, h.image, h.mgu, h.enc, h.candidates, h.trailer,
    h.wheels, h.vdm, fun hfixed => ?_, fun hsearching => ?_, h.loaded, h.notLoaded⟩
  · rw [h.link, resetLink, if_neg hfixed]
    exact ⟨rfl, rfl⟩
  · rw [h.link, resetLink, if_pos hsearching]
    refine ⟨rfl, ?_, rfl, rfl⟩
    rw [show s.now = (enterStarting s.link s).now from congrArg BitVec.toNat h.clock.symm]
    rfl

end Sys2Proof.Machine
end

section
/-! A change of the operating state, whole (R142, R143): the settlements of O8 and O9. -/

namespace Sys2Proof.Machine

set_option Elab.async false

/-! ### The parts of a change of the operating state -/

theorem Lane.enable_flags (on : Bool) (l : Lane) : (l.enable on).flags = l.flags := by
  unfold Lane.enable
  split <;> rfl

theorem Lane.enable_state (on : Bool) (l : Lane) :
    (l.enable on).state = if on = false then .disabled else if l.state = .disabled then .freshHunt else l.state := by
  unfold Lane.enable
  split <;> simp_all

theorem relane_lane (s : State) (l : LaneNo) : (relane s).lane l = (s.lane l).enable (laneEnabled s s.osc.state l) := by
  simp [relane]

theorem alertRepeats_iff (n : OpState) (v : Severity) :
    repeatQualifies n v = true ↔ (n = .active ∧ (v = .warning ∨ v = .critical)) ∨ (n = .parkWatch ∧ v = .critical) := by
  cases n <;> cases v <;> decide

/-- The record of a row after a change: a LIVE wheel wakes STALE, and the deadlines are those of the new state (R82, R86, R105). -/
theorem enterWheels_wheel (old n : OpState) (s : State) (r : Row) :
    (enterWheels old n s).wheel r = settleWheel s n r (if old = .dormant then wakeWheel (s.wheel r) else s.wheel r) := by
  have hsettle : ∀ f w, settleWheel (mapWheels f s) n r w = settleWheel s n r w := fun f w => by
    have h := mapWheels_frame f s
    simp only [settleWheel, withDeadlines, h.staleMs, h.missingMs, h.now, h.setting]
  unfold enterWheels
  split <;> simp only [mapWheels_wheel, hsettle]

/-- The vehicle data lose their timers on the way into DORMANT and get a timeout on the way out (R142). -/
theorem enterVdm_vdm (old n : OpState) (s : State) :
    (enterVdm old n s).vdm =
      if n = .dormant then { s.vdm with
        speed := none, frameDeadline := none
        truck := { s.vdm.truck with settle := none }, trailer := { s.vdm.trailer with settle := none } }
      else if old = .dormant then { s.vdm with frameDeadline := some (s.now + s.setting .vehicleDataTimeoutMs) }
      else s.vdm := by
  unfold enterVdm
  split
  · rfl
  · split <;> rfl

theorem sendsPartStatus_iff (n : OpState) : sendsPartStatus n = true ↔ n = .active ∨ n = .offline := by
  simp [sendsPartStatus]

theorem reports_iff (n : OpState) : reports n = true ↔ n = .active ∨ n = .parkWatch := by simp [reports]

/-- The link after a change: STATUS frames go with ACTIVE, PART_STATUS is queued anew where it is sent (R143, R169 to R171). -/
theorem enterLink_link (old n : OpState) (s : State) :
    (enterLink old n s).link = { s.link with
      statuses := if old = .active then [] else s.link.statuses
      partStatus := if n = .active ∨ n = .offline then some (partStatusOf s) else none
      reportDeadline :=
        if n = .active ∨ n = .parkWatch then
          some (s.link.reportDeadline.getD (s.now + s.setting .reportPeriodS * 1000))
        else none
      partStatusDeadline :=
        if n = .active ∨ n = .offline then some (s.now + s.setting .partStatusPeriodS * 1000) else none } := by
  simp only [enterLink, sendsPartStatus_iff, reports_iff]
  split <;> rfl

/-- PART_STATUS reads nothing that the transmit queues hold. -/
theorem partStatusOf_congr {s t : State} (h : Frame [.link] s t) (hoverrun : t.link.overrun = s.link.overrun) :
    partStatusOf t = partStatusOf s := by
  have hjam : jamMask t = jamMask s := by simp only [jamMask, h.lane]
  have hlevels : wheelsAt t = wheelsAt s := by
    funext v
    simp only [wheelsAt, h.wheel]
  simp only [partStatusOf, saveInFlight, hjam, hlevels, h.osc, h.trailer, h.vdm, h.store, h.evq, hoverrun]

/-! ### The change as a whole -/

/-- The part when the wheels are told of the change. -/
def modeChanged (n : OpState) (s : State) : State := relane (enterOsc n (raiseEvent .stateChange none (some n.code) s))

theorem enterState_eq (n : OpState) (s : State) : enterState n s =
    enterLink s.osc.state n (enterVdm s.osc.state n (enterWheels s.osc.state n (modeChanged n s))) := rfl

theorem modeChanged_frame (n : OpState) (s : State) : Frame [.evq, .osc, .lanes] s (modeChanged n s) :=
  (((raiseEvent_frame _ _ _ s).mono (by decide)).trans ((setOsc_frame _ _).mono (by decide))).trans
    ((setLanes_frame _ _).mono (by decide))

/-- What one wheel keeps and gets, in the words of the rule. -/
theorem settleWheel_eq (n : OpState) (s : State) (r : Row) (w : WheelRecord) :
    settleWheel s n r w = { w with
      base := if n = .active ∧ holdsMissing w.status = true then some s.now else w.base
      staleAt := if n = .active ∧ w.status = .live then some (s.now + staleMs s r) else none
      missingAt := if n = .active ∧ holdsMissing w.status = true then some (s.now + missingMs s r) else none
      repeatAt :=
        if (n = .active ∧ (w.announcedLevel = .warning ∨ w.announcedLevel = .critical)) ∨ (n = .parkWatch ∧ w.announcedLevel = .critical)
        then some (s.now + s.setting .alertRepeatS * 1000) else none } := by
  unfold settleWheel
  by_cases h : n = .active ∧ holdsMissing w.status = true
  · obtain ⟨rfl, hw⟩ := h
    simp [hw, withDeadlines, WheelRecord.announcedLevel, alertRepeats_iff]
  · have hlive : ¬ (n = .active ∧ w.status = .live) := fun hl => h ⟨hl.1, by rw [hl.2]; rfl⟩
    simp only [if_neg h, if_neg hlive, WheelRecord.announcedLevel, alertRepeats_iff]
    rfl

theorem enterState_entered (n : OpState) (s : State) : Entered n s (enterState n s) := by
  have hframe := enterState_frame n s
  have hmode := modeChanged_frame n s
  rw [enterState_eq] at hframe ⊢
  have hwheels := enterWheels_frame s.osc.state n (modeChanged n s)
  have hvdm := enterVdm_frame s.osc.state n (enterWheels s.osc.state n (modeChanged n s))
  have hlink := enterLink_frame s.osc.state n (enterVdm s.osc.state n (enterWheels s.osc.state n (modeChanged n s)))
  refine ⟨?osc, ?evq, fun l => ?lane, fun r => ?wheel, ?link, ?vdm, ?same⟩
  case osc => rw [hlink.osc, hvdm.osc, hwheels.osc]; rfl
  case evq => rw [hlink.evq, hvdm.evq, hwheels.evq]; rfl
  case lane =>
    have hlane : (enterLink s.osc.state n (enterVdm s.osc.state n (enterWheels s.osc.state n (modeChanged n s)))).lane l
        = (s.lane l).enable (laneEnabled s n l) := by
      rw [State.lane, hlink.lanes, hvdm.lanes, hwheels.lanes]
      exact relane_lane _ l
    unfold LaneEntered
    rw [hlane]
    exact ⟨Lane.enable_flags _ _, Lane.enable_state _ _⟩
  case wheel =>
    dsimp only [WheelEntered]
    rw [hlink.wheel, hvdm.wheel, enterWheels_wheel, settleWheel_eq, hmode.wheel, hmode.now, hmode.setting, hmode.staleMs,
      hmode.missingMs]
    have hwake : (if s.osc.state = .dormant then wakeWheel (s.wheel r) else s.wheel r) = { s.wheel r with
        status := if s.osc.state = .dormant ∧ (s.wheel r).status = .live then .stale else (s.wheel r).status
        staleAt := if s.osc.state = .dormant ∧ (s.wheel r).status = .live then none else (s.wheel r).staleAt } := by
      unfold wakeWheel
      split_ifs <;> simp_all
    rw [hwake]
    rfl
  case link =>
    unfold LinkEntered
    rw [partStatusOf_congr hlink (by rw [enterLink_link]), enterLink_link, hvdm.link, hwheels.link, hmode.link, hvdm.now,
      hwheels.now, hmode.now, hvdm.setting, hvdm.setting, hwheels.setting, hwheels.setting, hmode.setting, hmode.setting]
  case vdm =>
    unfold DataEntered
    rw [hlink.vdm, enterVdm_vdm, hwheels.vdm, hwheels.now, hwheels.setting, hmode.vdm, hmode.now, hmode.setting]
  case same =>
    exact ⟨hframe.clock, hframe.phase, hframe.lines, hframe.image, hframe.tables, hframe.handed, hframe.trailer, hframe.window,
      hframe.recog, hframe.candidates, hframe.enc, hframe.episodes, hframe.store, hframe.mgu, hframe.saves, hframe.pending⟩

/-! ### The park delay -/

theorem parkDelayDone_of_open {s : State} (h : sessionOpen s = true) :
    parkDelayDone s = { s with osc := { s.osc with parkDelay := none, parkPending := true } } := if_pos h

/-- With no session open the part goes to PARK_WATCH; the delay that ran is overwritten by the change itself. -/
theorem parkDelayDone_entered {s : State} (h : sessionOpen s = false) : Entered .parkWatch s (parkDelayDone s) := by
  have hgo : parkDelayDone s = enterState .parkWatch (s.setOsc { s.osc with parkDelay := none }) :=
    if_neg (by simpa [sessionOpen] using h)
  rw [hgo]
  exact enterState_entered .parkWatch (s.setOsc { s.osc with parkDelay := none })

/-! ### The settlements -/

/-- Settles O8: the load, the park delay and the activity deadline each reach one change of the operating state. -/
theorem stateChangesByLoadAndDeadlines : Obligations.StateChangesByLoadAndDeadlines := by
  refine ⟨fun s hrun hstate => ?load, fun s d hrun hstate hd hdue hclosed => ?park, fun s d hrun hstate hd hdue hopen => ?pending,
    fun s d hrun hstate hd hdue => ?activity⟩
  case load =>
    refine ⟨enterState (stateByIgnition s) s, ?_, enterState_entered _ s⟩
    exact (whileRunning_running hrun _).trans (congrArg _ (if_pos hstate))
  case activity =>
    refine ⟨enterState .dormant s, ?_, enterState_entered _ s⟩
    exact (whileRunning_running hrun _).trans (congrArg _ (if_pos ⟨hstate, hd ▸ due_of_le hdue⟩))
  all_goals
    have hexec : exec .parkDelayExpiry s = .next (parkDelayDone s) :=
      (whileRunning_running hrun _).trans (congrArg _ (if_pos ⟨hstate, hd ▸ due_of_le hdue⟩))
  case park => exact ⟨_, hexec, parkDelayDone_entered hclosed⟩
  case pending => rw [hexec, parkDelayDone_of_open hopen]

/-- The state with the IGNITION line at its new level. -/
def withIgnition (on : Bool) (s : State) : State := { s with lines := { s.lines with ignition := on } }

theorem ignitionTo_of_change (s : State) (o : OpState) (on : Bool) : s.osc.state = o → s.lines.ignition ≠ on → ignitionTo on s =
    match o, on with
    | .active, false =>
      if s.setting .parkDelayS = 0 then parkDelayDone (withIgnition on s)
      else (withIgnition on s).setOsc { s.osc with parkDelay := some (s.now + s.setting .parkDelayS * 1000) }
    | .active, true => (withIgnition on s).setOsc { s.osc with parkDelay := none, parkPending := false }
    | .parkWatch, true | .dormant, true => enterState .active (withIgnition on s)
    | _, _ => withIgnition on s := by
  rintro rfl h
  exact if_neg h

/-- Settles O9: the cells of the table, by the level that comes and the state it meets. -/
theorem ignitionTable : Obligations.IgnitionTable := by
  intro s hrun
  have hexec : ∀ v, exec (.ignitionChange v) s = .next (ignitionTo v s) := fun v => if_pos hrun
  simp only [hexec]
  have hon := fun {o} (h : s.lines.ignition = false) (ho : s.osc.state = o) => ignitionTo_of_change s o true ho (by simp [h])
  have hoff := fun {o} (h : s.lines.ignition = true) (ho : s.osc.state = o) => ignitionTo_of_change s o false ho (by simp [h])
  refine ⟨fun h hs => ⟨enterState .active (withIgnition true s), ?_, enterState_entered .active _⟩, fun h hs => ?_, fun h hs => ?_,
    fun h hs => ?_, fun h hs hdelay => ?_, fun h hs hdelay hclosed => ?_, fun h hs hdelay hopen => ?_⟩
  · rcases hs with hs | hs <;> rw [hon h hs]
  · rcases hs with hs | hs <;> rw [hon h hs] <;> rfl
  · rw [hon h hs]
    rfl
  · cases hstate : s.osc.state
    case active => exact absurd hstate hs
    all_goals
      rw [hoff h hstate]
      rfl
  · rw [hoff h hs]
    exact congrArg Host.Outcome.next (if_neg hdelay)
  · refine ⟨parkDelayDone (withIgnition false s), ?_, parkDelayDone_entered (s := withIgnition false s) hclosed⟩
    rw [hoff h hs]
    exact congrArg Host.Outcome.next (if_pos hdelay)
  · rw [hoff h hs]
    exact congrArg Host.Outcome.next ((if_pos hdelay).trans (parkDelayDone_of_open (s := withIgnition false s) hopen))

end Sys2Proof.Machine
end

section
/-! What the lanes make of each kind of bit, and the telegram a body carries: the settlements of O12 to O15. -/

namespace Sys2Proof.Machine

set_option Elab.async false

/-! ### Bits that are not taken into a body -/

/-- Settles O12: the effect of the bit decides the one step that acts, and the level is between two results of the conversion. -/
theorem laneSyncJamClearViolation : Obligations.LaneSyncJamClearViolation := by
  intro s l bit hrun
  have hexec : ∀ f, whileRunning f s = .next (f s) := whileRunning_running hrun
  refine ⟨fun history run level hstate hsync => ⟨sampledRssi level, ?sync, ?rssi, ?exact⟩, fun history hstate hno => ?jam,
    fun hstate => ?clear, fun taken rssi hstate => ?violation⟩
  case sync =>
    have heffect : bitEffect (s.lane l).state bit = .sync := by simp [hstate, bitEffect, hsync]
    refine (hexec _).trans ?_
    simp only [syncMatch, heffect]
    rfl
  case rssi =>
    rw [sampledRssi_toNat, convertedLevel]
    have := (Config.rssiRoundsUp level).toNat_le
    split <;> omega
  case exact =>
    intro n hn
    rw [sampledRssi_toNat, convertedLevel, hn, if_pos (by simp)]
    simp
  case jam =>
    have heffect : bitEffect (s.lane l).state bit = .jam := by simp [hstate, bitEffect, hno, extendRun]
    refine (hexec _).trans ?_
    simp only [laneJam, heffect]
    rfl
  case clear =>
    have heffect : bitEffect (s.lane l).state bit = .clears := by cases bit <;> simp [hstate, bitEffect]
    refine (hexec _).trans ?_
    simp only [laneClear, heffect]
    rfl
  case violation =>
    have heffect : bitEffect (s.lane l).state bit = .violation := by simp [hstate, bitEffect]
    refine (hexec _).trans ?_
    simp only [runViolation, heffect]
    rfl

/-! ### BIT_TAKEN -/

theorem bitTaken_of_moves {s : State} {l : LaneNo} {bit : Bool} {state : LaneState} (hrun : s.phase = .running)
    (h : bitEffect (s.lane l).state bit = .moves state) :
    exec (.bitTaken l bit) s = .next { s with lanes := s.lanes.set l { state := state, flags := (s.lane l).flags } } := by
  refine (whileRunning_running hrun _).trans ?_
  simp only [bitTaken, h]
  rfl

/-- Settles O13: the state the bit moves its lane to. -/
theorem bitTakenUpdatesTheLane : Obligations.BitTakenUpdatesTheLane := by
  intro s l bit hrun
  refine ⟨fun history run hstate hno hshort => ?hunt, fun taken run rssi hstate hrunLen hlen => ?body,
    fun taken rssi hstate => ?stuff, fun hstate => ?jammed⟩
  case hunt => exact bitTaken_of_moves hrun (by simp [hstate, bitEffect, hno, hshort])
  case body =>
    have hne : run.length ≠ 5 ∧ taken.length ≠ 71 := ⟨by omega, by omega⟩
    rw [bitTaken_of_moves hrun (by rw [hstate, bitEffect, if_neg hne.1, if_neg hne.2])]
    have hext : extendRun run bit = if run.length ≠ 0 ∧ run.value = bit then { value := bit, length := run.length + 1 }
        else { value := bit, length := 1 } := by
      unfold extendRun
      split
      case isTrue h => rw [← h.2]
      case isFalse => rfl
    rw [hext]
  case stuff => exact bitTaken_of_moves hrun (by cases bit <;> simp [hstate, bitEffect])
  case jammed =>
    rw [bitTaken_of_moves hrun (state := .jammed bit) (by simp [hstate, bitEffect])]
    have hself : s.lanes.set l { state := .jammed bit, flags := (s.lane l).flags } = s.lanes := by
      rw [← hstate]
      exact Vector.set_getElem_self _
    rw [hself]

/-! ### TELEGRAM_COMPLETE -/

theorem telegramComplete_of_body {s : State} {l : LaneNo} {bit : Bool} {taken : List Bool} {run : BitRun} {rssi : Byte}
    (hrun : s.phase = .running) (hstate : (s.lane l).state = .body taken run rssi) (hstuff : run.length ≠ 5)
    (hlen : taken.length = 71) :
    exec (.telegramComplete l bit) s = .next (finishBody l (taken ++ [bit]) rssi s) := by
  have heffect : bitEffect (s.lane l).state bit = .completes (taken ++ [bit]) rssi := by simp [hstate, bitEffect, hstuff, hlen]
  refine (whileRunning_running hrun _).trans ?_
  simp only [telegramComplete, heffect]

theorem crcGood_iff (body : List Bool) : crcGood body = true ↔ (crc8 (body.take 64)).toNat = field body 64 8 := by
  simp [crcGood]

theorem malformedBody_iff (body : List Bool) :
    malformedBody body = true ↔ field body 0 32 = 0 ∨ field body 40 4 ≠ 0 := by
  simp [malformedBody]

/-- A body with its CRC and form right is handed on, and the lane hunts afresh. -/
theorem finishBody_of_good {body : List Bool} (hcrc : crcGood body = true) (hform : malformedBody body = false) (l : LaneNo)
    (rssi : Byte) (s : State) :
    finishBody l body rssi s = { s with
      lanes := s.lanes.set l { state := .freshHunt, flags := (s.lane l).flags }
      handed := s.handed ++ [recordOf l rssi s.now body] } := by
  simp only [finishBody, hcrc, hform]
  rfl

/-- Settles O14: the CRC is the first check and the form the second. -/
theorem badBodiesAreDropped : Obligations.BadBodiesAreDropped := by
  intro s l bit taken run rssi hrun hstate hstuff hlen
  rw [telegramComplete_of_body hrun hstate hstuff hlen]
  refine ⟨fun hcrc => ?_, fun hcrc hform => ?_⟩
  · have hbad : crcGood (taken ++ [bit]) = false := by simpa [crcGood] using hcrc
    simp only [finishBody, hbad]
    rfl
  · have hgood := (crcGood_iff _).2 hcrc
    have hbad := (malformedBody_iff _).2 hform
    simp only [finishBody, hgood, hbad]
    rfl

/-! ### The layout of a telegram read back (R184) -/

theorem bitsNat_append (l : List Bool) (b : Bool) : bitsNat (l ++ [b]) = 2 * bitsNat l + b.toNat := by
  simp [bitsNat]

theorem bitsOf_length (n v : Nat) : (bitsOf n v).length = n := by simp [bitsOf]

theorem bitsOf_succ (n v : Nat) : bitsOf (n + 1) v = bitsOf n (v / 2) ++ [v.testBit 0] := by
  refine List.ext_getElem (by simp [bitsOf]) fun i hi hi' => ?_
  have hi : i < n + 1 := by simpa [bitsOf] using hi
  rcases Nat.lt_succ_iff_lt_or_eq.1 hi with h | rfl
  · rw [List.getElem_append_left (by simpa [bitsOf] using h)]
    have hsub : n + 1 - 1 - i = (n - 1 - i) + 1 := by omega
    simp only [bitsOf, List.getElem_map, List.getElem_range, hsub, Nat.testBit_succ]
  · rw [List.getElem_append_right (by simp [bitsOf])]
    simp [bitsOf]

/-- The bits of a number, most significant first, read back as the number. -/
theorem bitsNat_bitsOf {n v : Nat} (h : v < 2 ^ n) : bitsNat (bitsOf n v) = v := by
  induction n generalizing v with
  | zero => simp_all [bitsOf, bitsNat]
  | succ n ih =>
    rw [bitsOf_succ, bitsNat_append, ih (by rw [pow_succ] at h; omega), Nat.testBit_zero]
    have := Nat.mod_two_eq_zero_or_one v
    rcases this with h | h <;> simp [h] <;> omega

/-- A layout: the width and the value of each field, in order. -/
def layoutBits (fields : List (Nat × Nat)) : List Bool := fields.flatMap fun f => bitsOf f.1 f.2

theorem layoutBits_length (fields : List (Nat × Nat)) : (layoutBits fields).length = (fields.map Prod.fst).sum := by
  simp [layoutBits, List.length_flatMap, bitsOf_length]

/-- A field of a layout is read where the widths of the fields before it end. -/
theorem field_layoutBits {fields : List (Nat × Nat)} {k n v : Nat} (h : fields[k]? = some (n, v)) (hv : v < 2 ^ n) :
    field (layoutBits fields) ((fields.take k).map Prod.fst).sum n = v := by
  obtain ⟨hk, hget⟩ := List.getElem?_eq_some_iff.1 h
  have hsplit : layoutBits fields = layoutBits (fields.take k) ++ (bitsOf n v ++ layoutBits (fields.drop (k + 1))) := by
    conv_lhs => rw [← List.take_append_drop k fields, List.drop_eq_getElem_cons hk, hget]
    simp [layoutBits]
  rw [hsplit, ← layoutBits_length]
  simp [field, bitsOf_length, bitsNat_bitsOf hv]

/-- The fields of a telegram body: the record, the four bits that are 0, and the CRC. -/
def telegramFields (t : TelegramRecord) : List (Nat × Nat) :=
  [(32, t.id.toNat), (2, t.mode.code), (1, t.batteryLow.toNat), (1, t.fault.toNat), (4, t.sequence.toNat), (4, 0),
    (12, t.pressure.toNat), (8, t.temperature.toNat), (8, (crc8 (telegramBits t)).toNat)]

theorem bitsOf_one (b : Bool) : bitsOf 1 b.toNat = [b] := by cases b <;> rfl

theorem telegramBody_eq (t : TelegramRecord) : telegramBody t = layoutBits (telegramFields t) := by
  simp only [telegramBody, telegramBits, layoutBits, telegramFields, List.flatMap_cons, List.flatMap_nil, bitsOf_one,
    List.append_assoc, List.cons_append, List.nil_append, List.append_nil]

theorem telegramBits_length (t : TelegramRecord) : (telegramBits t).length = 64 := by
  simp [telegramBits, bitsOf_length]

theorem telegramBody_length (t : TelegramRecord) : (telegramBody t).length = 72 := by
  simp [telegramBody, telegramBits_length, bitsOf_length]

/-- The field `k` of a telegram body. -/
theorem field_telegramBody {t : TelegramRecord} {n v : Nat} (k : Nat) (h : (telegramFields t)[k]? = some (n, v)) (hv : v < 2 ^ n) :
    field (telegramBody t) (((telegramFields t).take k).map Prod.fst).sum n = v := by
  rw [telegramBody_eq]
  exact field_layoutBits h hv

theorem Mode.code_lt (m : Mode) : m.code < 2 ^ 2 := by cases m <;> decide

theorem Mode.ofCode_code (m : Mode) : Mode.ofCode m.code = m := by cases m <;> rfl

theorem decide_toNat_eq_one (b : Bool) : decide (b.toNat = 1) = b := by cases b <;> rfl

/-- The record read from a body is the record laid out in it (R184). -/
theorem recordOf_telegramBody (lane : LaneNo) (rssi : Byte) (arrival : Millis) (t : TelegramRecord) :
    recordOf lane rssi arrival (telegramBody t) = { t with lane := lane, rssi := rssi, arrival := arrival } := by
  have hid : field (telegramBody t) 0 32 = t.id.toNat := field_telegramBody 0 rfl t.id.isLt
  have hmode : field (telegramBody t) 32 2 = t.mode.code := field_telegramBody 1 rfl t.mode.code_lt
  have hbattery : field (telegramBody t) 34 1 = t.batteryLow.toNat := field_telegramBody 2 rfl t.batteryLow.toNat_lt
  have hfault : field (telegramBody t) 35 1 = t.fault.toNat := field_telegramBody 3 rfl t.fault.toNat_lt
  have hsequence : field (telegramBody t) 36 4 = t.sequence.toNat := field_telegramBody 4 rfl t.sequence.isLt
  have hpressure : field (telegramBody t) 44 12 = t.pressure.toNat := field_telegramBody 6 rfl t.pressure.isLt
  have htemperature : field (telegramBody t) 56 8 = t.temperature.toNat := field_telegramBody 7 rfl t.temperature.isLt
  simp only [recordOf, hid, hmode, hbattery, hfault, hsequence, hpressure, htemperature, Mode.ofCode_code, decide_toNat_eq_one,
    BitVec.ofNat_toNat, BitVec.setWidth_eq]

theorem crcGood_telegramBody (t : TelegramRecord) : crcGood (telegramBody t) = true := by
  have htake : (telegramBody t).take 64 = telegramBits t := by
    rw [telegramBody, ← telegramBits_length t, List.take_left]
  rw [crcGood_iff, htake]
  exact (field_telegramBody 8 rfl (crc8 (telegramBits t)).isLt).symm

theorem malformedBody_telegramBody {t : TelegramRecord} (h : t.id ≠ 0) : malformedBody (telegramBody t) = false := by
  have hid : field (telegramBody t) 0 32 = t.id.toNat := field_telegramBody 0 rfl t.id.isLt
  have hzero : field (telegramBody t) 40 4 = 0 := field_telegramBody 5 rfl (by decide)
  rw [← Bool.not_eq_true, malformedBody_iff, hid, hzero]
  simpa [BitVec.toNat_eq] using h

/-- Settles O15: the 72 bits are the body laid out, whose CRC and form are right and which is read back field by field. -/
theorem telegramsDecodeToWhatWasSent : Obligations.TelegramsDecodeToWhatWasSent := by
  intro s l run rssi bit sent hrun hid hstuff hstate hlast
  have hlen := telegramBody_length sent
  obtain ⟨_, hbit⟩ := List.getElem?_eq_some_iff.1 hlast
  have hbody : (telegramBody sent).take 71 ++ [bit] = telegramBody sent := by
    rw [← hbit, List.take_concat_get', List.take_of_length_le (by omega)]
  rw [telegramComplete_of_body hrun hstate hstuff (by simp [hlen]), hbody,
    finishBody_of_good (crcGood_telegramBody sent) (malformedBody_telegramBody hid), recordOf_telegramBody]

end Sys2Proof.Machine
end

section
/-! Events, pressures and limits, the ALERT repeat and the reports: the settlements of O27, O50, O51 and O53. -/

namespace Sys2Proof.Machine

set_option Elab.async false

/-! ### The full queue (R153) -/

/-- The oldest record that is not critical is the one that goes. -/
theorem dropOldestOrdinary_of_split {front back : List Event} {old : Event} (hfront : ∀ x ∈ front, x.critical = true)
    (hold : old.critical = false) : dropOldestOrdinary (front ++ old :: back) = some (front ++ back) := by
  induction front with
  | nil => simp [dropOldestOrdinary, hold]
  | cons e front ih =>
    obtain ⟨he, hrest⟩ := List.forall_mem_cons.1 hfront
    simp [dropOldestOrdinary, he, ih hrest]

theorem dropOldestOrdinary_of_critical {l : List Event} (h : ∀ x ∈ l, x.critical = true) : dropOldestOrdinary l = none := by
  induction l with
  | nil => rfl
  | cons e l ih =>
    obtain ⟨he, hrest⟩ := List.forall_mem_cons.1 h
    simp [dropOldestOrdinary, he, ih hrest]

/-- Settles O53: room, or the record that gives way, or none. -/
theorem eventsEnterTheQueue : Obligations.EventsEnterTheQueue := by
  intro e q
  refine ⟨fun hroom => if_pos hroom, fun hfull => ?full⟩
  case full =>
    have hno : ¬ q.records.length < eventCapacity := by simp [hfull, eventCapacity]
    refine ⟨fun he => ?_, fun he hall => ?_, fun front old back hq hfront hold he => ?_⟩ <;> rw [pushEvent, if_neg hno]
    · simp [he]
    · simp [he, dropOldestOrdinary_of_critical hall]
    · rw [if_pos he, hq, dropOldestOrdinary_of_split hfront hold]

/-! ### Pressures and limits -/

theorem pcold_rounds (pabs kr : Nat) {km : Nat} (h : 0 < km) :
    2 * km * pcold pabs kr km ≤ 2 * (pabs * kr) + km ∧ 2 * (pabs * kr) + km < 2 * km * (pcold pabs kr km + 1) := by
  have hdiv := Nat.div_add_mod (pabs * kr + km / 2) km
  have hmod := Nat.mod_lt (pabs * kr + km / 2) h
  simp only [pcold, Nat.mul_assoc, Nat.mul_add]
  omega

theorem clampGauge_eq (p : Int) : ((clampGauge p : Nat) : Int) = max 0 (min 4000 p) := by
  unfold clampGauge
  split
  · omega
  · split <;> omega

/-- The limits lie in their order, since each is the target less or more a share of it. -/
theorem limits_ordered {p : PressureLimits} (h : LimitsLegal p) :
    lowCritLimit p ≤ lowWarnLimit p ∧ lowWarnLimit p ≤ p.target ∧ p.target ≤ highWarnLimit p ∧ highWarnLimit p ≤ 4000 := by
  obtain ⟨htarget, horder, -, -⟩ := h
  have hshare : p.target * p.lw / 256 ≤ p.target * p.lc / 256 := Nat.div_le_div_right (Nat.mul_le_mul_left _ horder)
  exact ⟨Nat.sub_le_sub_left hshare _, Nat.sub_le _ _, le_min htarget (Nat.le_add_right _ _), Nat.min_le_left _ _⟩

/-- Settles O51. -/
theorem pressureArithmetic : Obligations.PressureArithmetic := by
  refine ⟨fun pabs kr _ h => pcold_rounds pabs kr h, clampGauge_eq, fun _ h => ?_, fun _ x h => ringAdd_legal h x⟩
  obtain ⟨hcrit, hwarn, hhigh, hmax⟩ := limits_ordered h
  exact ⟨hcrit, hwarn, hhigh, hmax, rfl, rfl, rfl⟩

/-! ### A frame that replaces the row's own or joins its class (R167) -/

theorem mem_replaceOrJoin_of_mem {α : Type} {same : α → Bool} {x y : α} {l : List α} (hy : y ∈ l) (h : same y = false) :
    y ∈ replaceOrJoin same x l := by
  induction l with
  | nil => simp at hy
  | cons z l ih =>
    unfold replaceOrJoin
    rcases List.mem_cons.1 hy with rfl | hy
    · simp [h]
    · split
      · exact List.mem_cons_of_mem _ hy
      · exact List.mem_cons_of_mem _ (ih hy)

theorem replaceOrJoin_of_none {α : Type} {same : α → Bool} {x : α} {l : List α} (h : ∀ y ∈ l, same y = false) :
    replaceOrJoin same x l = l ++ [x] := by
  induction l with
  | nil => rfl
  | cons y l ih =>
    obtain ⟨hy, hrest⟩ := List.forall_mem_cons.1 h
    simp [replaceOrJoin, hy, ih hrest]

theorem replaceOrJoin_length {α : Type} {same : α → Bool} {x : α} {l : List α} (h : ∃ y ∈ l, same y = true) :
    (replaceOrJoin same x l).length = l.length := by
  induction l with
  | nil => simp at h
  | cons y l ih =>
    unfold replaceOrJoin
    split
    · rfl
    · rename_i hy
      obtain ⟨z, hz, hsame⟩ := h
      rcases List.mem_cons.1 hz with rfl | hz
      · exact absurd hsame hy
      · simp [ih ⟨z, hz, hsame⟩]

/-! ### ALERT_REPEAT_EXPIRY -/

theorem announceAlert_of_online {r : Row} {s : State} (h : s.osc.state ≠ .offline) :
    announceAlert r s = putWheel r { s.wheel r with
      repeatAt := if (s.wheel r).announcedLevel.repeats then some (s.now + s.setting .alertRepeatS * 1000) else none }
      (queueAlert r s) := if_neg h

theorem severity_repeats_iff (v : Severity) : v.repeats = true ↔ v = .warning ∨ v = .critical := by
  cases v <;> decide

/-- Settles O27: the level at the deadline decides between a frame with a new deadline and none. -/
theorem alertRepeats : Obligations.AlertRepeats := by
  intro s r d hrun hd hdue
  have hdue : due s (s.wheel r).repeatAt = true := hd ▸ due_of_le hdue
  have hexec : exec (.alertRepeatExpiry r) s = .next (alertRepeatExpiry r s) := whileRunning_running hrun _
  have hexpiry : alertRepeatExpiry r s =
      if repeatQualifies s.osc.state (s.wheel r).announcedLevel then announceAlert r s
      else putWheel r { s.wheel r with repeatAt := none } s := if_pos hdue
  rw [hexec, hexpiry]
  refine ⟨fun hlevel => ?repeats, fun hno => ?ends⟩
  case ends =>
    rw [hno]
    rfl
  case repeats =>
    have honline : s.osc.state ≠ .offline := by rcases hlevel with ⟨h, -⟩ | ⟨h, -⟩ <;> simp [h]
    have hrepeats : (s.wheel r).announcedLevel.repeats = true := by
      rw [severity_repeats_iff]
      rcases hlevel with ⟨-, h⟩ | ⟨-, h⟩
      · exact h
      · exact .inr h
    have hrow : ∀ f : AlertFrame, decide (f.row = r) = false ↔ f.row ≠ r := fun f => by simp
    refine ⟨replaceOrJoin (fun f => decide (f.row = r)) (alertOf r (s.wheel r)) s.link.alerts, ?_, mem_replaceOrJoin_self _ _ _,
      fun f hf => mem_of_mem_replaceOrJoin hf, fun f hf hne => mem_replaceOrJoin_of_mem hf ((hrow f).2 hne), fun hmem => ?_,
      fun hno => ?_⟩
    · rw [(alertRepeats_iff _ _).2 hlevel, if_pos rfl, announceAlert_of_online honline, hrepeats]
      rfl
    · obtain ⟨f, hf, hfr⟩ := List.mem_map.1 hmem
      exact replaceOrJoin_length ⟨f, hf, by simp [hfr]⟩
    · exact replaceOrJoin_of_none fun f hf => (hrow f).2 fun h => hno (List.mem_map.2 ⟨f, hf, h⟩)

/-! ### Reports (R170 to R172) -/

theorem putLink_forRows_queueStatus (rows : List Row) (s : State) :
    forRows (fun r s => if (s.wheel r).status = .vacant then s else queueStatus r s) rows s = { s with link := { s.link with
      statuses := (rows.filter fun r => decide ((s.wheel r).status ≠ .vacant)).foldl
        (fun l r => replaceOrJoin (fun f => decide (f.row = r)) (statusOf r (s.wheel r)) l) s.link.statuses } } := by
  induction rows generalizing s with
  | nil => rfl
  | cons r rows ih =>
    by_cases h : (s.wheel r).status = .vacant
    · have hstep : forRows (fun r s => if (s.wheel r).status = .vacant then s else queueStatus r s) (r :: rows) s
          = forRows (fun r s => if (s.wheel r).status = .vacant then s else queueStatus r s) rows s := by simp [forRows, h]
      rw [hstep, ih]
      simp [h]
    · have hstep : forRows (fun r s => if (s.wheel r).status = .vacant then s else queueStatus r s) (r :: rows) s
          = forRows (fun r s => if (s.wheel r).status = .vacant then s else queueStatus r s) rows (queueStatus r s) := by
        simp [forRows, h]
      rw [hstep, ih]
      simp only [List.filter_cons, h, ne_eq, not_false_eq_true, decide_true, if_true, List.foldl_cons]
      rfl

/-- The STATUS frames after a report: each row's own replaces the unsent one or joins. -/
def reportedStatuses (s : State) (rows : List Row) (l : List StatusFrame) : List StatusFrame :=
  rows.foldl (fun l r => replaceOrJoin (fun f => decide (f.row = r)) (statusOf r (s.wheel r)) l) l

theorem reportedStatuses_cons (s : State) (r : Row) (rows : List Row) (l : List StatusFrame) :
    reportedStatuses s (r :: rows) l =
      reportedStatuses s rows (replaceOrJoin (fun f => decide (f.row = r)) (statusOf r (s.wheel r)) l) := rfl

theorem mem_reportedStatuses {s : State} {rows : List Row} {l : List StatusFrame} {f : StatusFrame}
    (h : f ∈ reportedStatuses s rows l) : f ∈ l ∨ f.row ∈ rows ∧ f = statusOf f.row (s.wheel f.row) := by
  induction rows generalizing l with
  | nil => exact .inl h
  | cons r rows ih =>
    rcases ih h with h | ⟨hr, hf⟩
    · rcases mem_of_mem_replaceOrJoin h with rfl | h
      · exact .inr ⟨List.mem_cons_self, rfl⟩
      · exact .inl h
    · exact .inr ⟨List.mem_cons_of_mem _ hr, hf⟩

/-- A frame of the present content is replaced by no other row's. -/
theorem mem_reportedStatuses_of_mem {s : State} {rows : List Row} {l : List StatusFrame} {r : Row}
    (h : statusOf r (s.wheel r) ∈ l) : statusOf r (s.wheel r) ∈ reportedStatuses s rows l := by
  induction rows generalizing l with
  | nil => exact h
  | cons q rows ih =>
    refine ih ?_
    by_cases hq : r = q
    · subst hq
      exact mem_replaceOrJoin_self _ _ _
    · exact mem_replaceOrJoin_of_mem h (decide_eq_false hq)

theorem statusOf_mem_reportedStatuses {s : State} {rows : List Row} {l : List StatusFrame} {r : Row} (h : r ∈ rows) :
    statusOf r (s.wheel r) ∈ reportedStatuses s rows l := by
  induction rows generalizing l with
  | nil => simp at h
  | cons q rows ih =>
    rcases List.mem_cons.1 h with rfl | h
    · rw [reportedStatuses_cons]
      exact mem_reportedStatuses_of_mem (mem_replaceOrJoin_self _ _ _)
    · exact ih h

/-- Rows in order, with no frame of theirs waiting, are queued in order. -/
theorem reportedStatuses_of_new {s : State} {rows : List Row} {l : List StatusFrame} (hrows : rows.Nodup)
    (hnew : ∀ f ∈ l, f.row ∉ rows) : reportedStatuses s rows l = l ++ rows.map fun r => statusOf r (s.wheel r) := by
  induction rows generalizing l with
  | nil => simp [reportedStatuses]
  | cons r rows ih =>
    obtain ⟨hr, hrows⟩ := List.nodup_cons.1 hrows
    have hjoin : replaceOrJoin (fun f => decide (f.row = r)) (statusOf r (s.wheel r)) l = l ++ [statusOf r (s.wheel r)] :=
      replaceOrJoin_of_none fun f hf => decide_eq_false fun h => hnew f hf (h ▸ List.mem_cons_self)
    rw [reportedStatuses_cons, hjoin, ih hrows]
    · simp
    · intro f hf
      rcases List.mem_append.1 hf with hf | hf
      · exact fun h => hnew f hf (List.mem_cons_of_mem _ h)
      · rw [List.mem_singleton.1 hf]
        exact hr

/-- Settles O50: the picture published, and in ACTIVE one STATUS frame a row that is not VACANT. -/
theorem reportsAreQueued : Obligations.ReportsAreQueued := by
  intro s d hrun hdue
  refine ⟨fun hd => ?report, fun hd => ?partStatus⟩
  case partStatus =>
    have hexec : exec .partStatusExpiry s = .next (partStatusExpiry s) := whileRunning_running hrun _
    rw [hexec, partStatusExpiry, if_pos (hd ▸ due_of_le hdue)]
    rfl
  case report =>
    intro n picture
    have hexec : exec .reportExpiry s = .next (reportExpiry s) := whileRunning_running hrun _
    let rows := allRows.filter fun r => decide ((s.wheel r).status ≠ .vacant)
    have hpicture : (publish s).link.snapshots =
        { fill := s.link.snapshots.ready, ready := picture, held := s.link.snapshots.held, readyNew := true, count := n } := by
      have hseconds : ∀ o : Option Millis, seconds16 (o.map fun t => (s.now - t) / 1000) = (match o with
          | some t => min ((s.now - t) / 1000) 65535
          | none => 65535) := fun o => by cases o <;> rfl
      simp only [publish, snapRow, hseconds]
      rfl
    rw [hexec, reportExpiry, if_pos (hd ▸ due_of_le hdue)]
    refine ⟨if s.osc.state = .active then reportedStatuses s rows s.link.statuses else s.link.statuses, ?_, fun h => if_neg h,
      fun h => ⟨fun r hr => ?_, fun f hf => ?_, fun hempty => ?_⟩⟩
    · rw [← hpicture]
      have hosc : (publish s).osc = s.osc := rfl
      simp only [hosc]
      split
      · rw [queueStatuses, putLink_forRows_queueStatus]
        rfl
      · rfl
    · rw [if_pos h]
      exact statusOf_mem_reportedStatuses (by simp [rows, allRows, hr])
    · rw [if_pos h] at hf
      exact (mem_reportedStatuses hf).imp_right fun ⟨hr, hf⟩ => ⟨of_decide_eq_true (List.mem_filter.1 hr).2, hf⟩
    · have hrows : rows.Nodup := (List.nodup_finRange 32).filter _
      rw [if_pos h, hempty, reportedStatuses_of_new hrows (by simp)]
      rfl

end Sys2Proof.Machine
end

section
/-! Transmission: which frame is picked, how its attempt ends and what its bytes are; the settlement of O49. -/

namespace Sys2Proof.Machine

set_option Elab.async false

/-! ### The frame picked (R167, R169) -/

theorem find?_filterMap_four {α : Type} (p : α → Bool) (a b c d : Option α) :
    (([a, b, c, d].filterMap id).find? p) = (a.filter p).or ((b.filter p).or ((c.filter p).or (d.filter p))) := by
  cases a <;> cases b <;> cases c <;> cases d <;>
    simp only [List.filterMap_cons, List.filterMap_nil, id, List.find?_cons, List.find?_nil, Option.filter_none,
      Option.filter_some, Option.none_or] <;> (repeat' split) <;> simp_all

/-- The head of a class, where the class is sent in the present state. -/
def sentHead (o : OpState) {α : Type} (make : α → TxFrame) (l : Option α) : Option TxFrame := (l.map make).filter (classSent o)

theorem nextFrame_eq (s : State) : nextFrame s =
    (sentHead s.osc.state .alert s.link.alerts.head?).or ((sentHead s.osc.state .response s.link.responses.head?).or
      ((sentHead s.osc.state .status s.link.statuses.head?).or (sentHead s.osc.state .partStatus s.link.partStatus))) :=
  find?_filterMap_four _ _ _ _ _

theorem sentHead_none {α : Type} {make : α → TxFrame} {l : Option α} {o : OpState}
    (h : l = none ∨ ∀ x, classSent o (make x) = false) : sentHead o make l = none := by
  rcases h with rfl | h
  · rfl
  · cases l <;> simp [sentHead, h]

theorem sentHead_some {α : Type} {make : α → TxFrame} {x : α} {o : OpState} (h : classSent o (make x) = true) :
    sentHead o make (some x) = some (make x) := by
  simp [sentHead, h]

theorem transmitStart_of_free {s : State} (hrun : s.phase = .running) (hlink : s.link.state = .running)
    (hbuffer : s.link.buffer = none) : exec .transmitStart s = .next (match nextFrame s with
      | none => s
      | some f => { s with link := { unqueue f s.link with
          buffer := some { frame := f, identifier := f.identifier s.tables.link.nodeBase, data := f.data } } }) := by
  have hgo : s.link.state = .running ∧ s.link.buffer.isNone = true := ⟨hlink, by rw [hbuffer]; rfl⟩
  refine (whileRunning_running hrun _).trans (congrArg Host.Outcome.next ?_)
  rw [transmitStart, if_pos hgo]
  cases nextFrame s <;> rfl

/-! ### The end of an attempt (R168) -/

theorem any_row_iff {α : Type} (row : α → Row) (l : List α) (r : Row) :
    (l.any fun x => decide (row x = r)) = true ↔ r ∈ l.map row := by
  simp [List.any_eq_true, List.mem_map]

theorem requeue_returned (o : OpState) (f : TxFrame) (l : Link) : Returned o f l (requeue o f { l with buffer := none }) := by
  cases f with
  | alert a =>
    simp only [Returned, requeue, any_row_iff]
    split <;> rfl
  | response r => rfl
  | status a =>
    simp only [Returned, requeue, Bool.or_eq_true, any_row_iff, Bool.not_eq_true', classSent]
    by_cases ho : o = .active <;> by_cases hr : a.row ∈ l.statuses.map StatusFrame.row <;> simp [ho, hr]
  | partStatus p =>
    have hsent : sendsPartStatus o = false ↔ ¬ (o = .active ∨ o = .offline) := by
      rw [← sendsPartStatus_iff, Bool.not_eq_true]
    simp only [Returned, requeue, Bool.or_eq_true, Bool.not_eq_true', classSent, hsent]
    by_cases ho : o = .active ∨ o = .offline
    · cases l.partStatus <;> simp [ho]
    · simp [ho]

/-- The count of failures has no part in the return of a frame. -/
theorem requeue_failures (o : OpState) (f : TxFrame) (l : Link) (n : Nat) :
    requeue o f { l with failures := n } = { requeue o f l with failures := n } := by
  cases f <;> simp only [requeue] <;> split <;> rfl

/-! ### The bytes of a frame (R183, R185, R186) -/

theorem ofNat8_eq {a b : Nat} (h : a % 256 = b % 256) : BitVec.ofNat 8 a = BitVec.ofNat 8 b := by
  apply BitVec.eq_of_toNat_eq
  simpa using h

theorem packPair_eq {pc pg : Nat} (hpg : pg < 4096) :
    packPair pc pg = [pc / 16, pc % 16 * 16 + pg / 256, pg % 256].map (BitVec.ofNat 8) := by
  have h0 : (pc * 4096 + pg) / 65536 = pc / 16 := by omega
  have h1 : (pc * 4096 + pg) / 256 % 256 = (pc % 16 * 16 + pg / 256) % 256 := by omega
  have h2 : (pc * 4096 + pg) % 256 = pg % 256 % 256 := by omega
  simp only [packPair, be24, be16, h0, ofNat8_eq h1, ofNat8_eq h2, List.map_cons, List.map_nil]

theorem tempCode_eq (t : Option Int) : tempCode t = BitVec.ofNat 8 (temperatureByte t) := by
  cases t with
  | none => rfl
  | some t =>
    apply BitVec.eq_of_toNat_eq
    simp only [tempCode, temperatureByte, BitVec.toNat_ofInt, BitVec.toNat_ofNat]
    omega

theorem pad_of_le {n : Nat} {data : List Byte} (h : data.length ≤ n) :
    pad n data = data ++ List.replicate (n - data.length) 0 := by
  simp [pad, List.take_append, List.take_of_length_le h, List.take_replicate]

theorem pad_of_eq {n : Nat} {data : List Byte} (h : data.length = n) : pad n data = data := by
  simp [pad_of_le h.le, h]

theorem alert_data (f : AlertFrame) (hpg : f.pg < 4096) : (TxFrame.alert f).data =
    [f.row.val, f.status.code * 16 + (highest f.announced).code, f.announced.toNat / 256, f.announced.toNat % 256,
      f.pc / 16, f.pc % 16 * 16 + f.pg / 256, f.pg % 256, temperatureByte f.temperature].map (BitVec.ofNat 8) := by
  have hlow : BitVec.ofNat 8 f.announced.toNat = BitVec.ofNat 8 (f.announced.toNat % 256) := ofNat8_eq (by omega)
  simp only [TxFrame.data, packPair_eq hpg, tempCode_eq, statusLevel, be8, be16, hlow]
  rfl

theorem status_data (f : StatusFrame) (hpg : f.pg < 4096) : (TxFrame.status f).data =
    [f.row.val, f.status.code * 16 + f.level.code, f.pc / 16, f.pc % 16 * 16 + f.pg / 256, f.pg % 256,
      temperatureByte f.temperature,
      f.flags.belowAmbient.toNat + 2 * f.flags.overrange.toNat + 4 * f.flags.tempUnavailable.toNat
        + 8 * f.flags.sensorFaultSeen.toNat, 0].map (BitVec.ofNat 8) := by
  simp only [TxFrame.data, packPair_eq hpg, tempCode_eq, statusLevel, be8]
  rfl

theorem response_data {f : ResponseFrame} (h : f.data.length = 5) :
    (TxFrame.response f).data = f.code :: f.tag :: BitVec.ofNat 8 f.result.code :: f.data :=
  pad_of_eq (by simp [h])

theorem partStatus_data (p : PartStatus) : (TxFrame.partStatus p).data =
    [p.trailer.code * 16 + p.opState.code, (p.trailer.entry?.map Fin.val).getD 255,
      p.dataLost.toNat + 2 * p.storeInvalid.toNat + 4 * p.dirty.toNat + 8 * p.saveInFlight.toNat
        + 16 * p.eventsWaiting.toNat + 32 * p.eventOverflow.toNat + 64 * p.requestOverrun.toNat,
      p.jamMask.toNat, p.wheelsNone, p.wheelsAdvisory, p.wheelsWarning, p.wheelsCritical].map (BitVec.ofNat 8) := by
  cases h : p.trailer.entry? <;> simp only [TxFrame.data, PartStatus.head, PartStatus.counts, h] <;> rfl

/-! ### The settlement -/

/-- Settles O49: the classes in their order, the three ends of an attempt, and the bytes of each class. -/
theorem transmissionStartsAndEnds : Obligations.TransmissionStartsAndEnds := by
  refine ⟨fun s hrun => ?start, fun s x hrun hx => ?done, fun s d hrun hquiet hd hdue => ?quiet,
    fun f _ hpg => alert_data f hpg, fun f _ hpg => status_data f hpg, fun f h => response_data h,
    fun code tag result bytes s h => ?respond, partStatus_data⟩
  case start =>
    intro o noAlert noResponse noStatus noPartStatus base
    refine ⟨fun hlink hbuffer => ?free, fun hbusy => ?busy⟩
    case busy =>
      refine (whileRunning_running hrun _).trans (congrArg Host.Outcome.next (if_neg fun h => ?_))
      rcases hbusy with hb | hb
      · exact hb h.1
      · exact hb (Option.isNone_iff_eq_none.1 h.2)
    case free =>
      rw [transmitStart_of_free hrun hlink hbuffer, nextFrame_eq]
      have hA : noAlert → sentHead o .alert s.link.alerts.head? = none := fun h => sentHead_none <| h.imp
        (fun h => by rw [h]; rfl) fun h _ => by simp [classSent, h.1, h.2]
      have hR : noResponse → sentHead o .response s.link.responses.head? = none := fun h => sentHead_none <| h.imp
        (fun h => by rw [h]; rfl) fun h _ => by simp [classSent, h]
      have hS : noStatus → sentHead o .status s.link.statuses.head? = none := fun h => sentHead_none <| h.imp
        (fun h => by rw [h]; rfl) fun h _ => by simp [classSent, h]
      have hP : noPartStatus → sentHead o .partStatus s.link.partStatus = none := fun h => sentHead_none <| h.imp_right
        fun h _ => by simp [classSent, sendsPartStatus, h.1, h.2]
      refine ⟨fun f rest hf ho => ?_, fun f rest ha hf ho => ?_, fun f rest ha hr hf ho => ?_, fun f ha hr hs hf ho => ?_,
        fun ha hr hs hp => ?_⟩
      · rw [hf, List.head?_cons, sentHead_some (by simpa [classSent] using ho), Option.some_or]
        simp only [unqueue, hf]
        rfl
      · rw [hA ha, Option.none_or, hf, List.head?_cons, sentHead_some (by simpa [classSent] using ho), Option.some_or]
        simp only [unqueue, hf]
        rfl
      · rw [hA ha, hR hr, Option.none_or, Option.none_or, hf, List.head?_cons, sentHead_some (by simpa [classSent] using ho),
          Option.some_or]
        simp only [unqueue, hf]
        rfl
      · rw [hA ha, hR hr, hS hs, Option.none_or, Option.none_or, Option.none_or, hf,
          sentHead_some (by simpa [classSent, sendsPartStatus] using ho)]
        rfl
      · rw [hA ha, hR hr, hS hs, hP hp]
        rfl
  case done =>
    have hexec : ∀ how, exec (.transmitDone how) s = .next (transmitDone how s) := fun how => whileRunning_running hrun _
    let l := requeue s.osc.state x.frame { s.link with buffer := none }
    have hfailed : requeue s.osc.state x.frame { s.link with buffer := none, failures := s.link.failures + 1 }
        = { l with failures := s.link.failures + 1 } :=
      requeue_failures _ _ { s.link with buffer := none } _
    refine ⟨?_, l, requeue_returned _ _ _, ?_, fun hfew => ?_, fun hmany => ?_⟩ <;> rw [hexec, transmitDone, hx] <;> dsimp only
    · cases x.frame <;> rfl
    · rfl
    · rw [hfailed]
      exact congrArg Host.Outcome.next (if_pos hfew)
    · rw [hfailed]
      exact congrArg Host.Outcome.next (if_neg (Nat.not_lt.2 hmany))
  case quiet =>
    refine (whileRunning_running hrun _).trans (congrArg Host.Outcome.next ?_)
    rw [quietExpiry, if_pos ⟨hquiet, hd ▸ due_of_le hdue⟩]
    rfl
  case respond =>
    rw [respond, pad_of_le h]
    rfl

end Sys2Proof.Machine
end

section
/-! The requests that read, the take of a request and what the guard refuses: the settlements of O31 to O33, O35 and O47. -/

namespace Sys2Proof.Machine

set_option Elab.async false

/-! ### The take of a request (R146, R147, R166, R174) -/

/-- Every request command is a take of the oldest frame, when it is one of its kind. -/
theorem exec_request_eq_serve {c : Instr} (h : c ∈ requestCommands) :
    ∃ isFor act, ∀ s, exec c s = whileRunning (serve isFor act) s := by
  simp only [requestCommands, List.mem_cons, List.not_mem_nil, or_false] at h
  rcases h with rfl | rfl | rfl | rfl | rfl | rfl | rfl | rfl | rfl | rfl | rfl | rfl | rfl | rfl | rfl | rfl | rfl | rfl | rfl
    | rfl | rfl | rfl | rfl | rfl | rfl | rfl | rfl | rfl | rfl | rfl | rfl | rfl | rfl | rfl | rfl | rfl | rfl | rfl
  all_goals exact ⟨_, _, fun s => rfl⟩

theorem mayTake_of_four {s : State} (h : 4 ≤ answersOutstanding s) : mayTake s = false := by simp [mayTake, h]

/-- Settles O31. -/
theorem requestsAreTakenInOrder : Obligations.RequestsAreTakenInOrder := by
  refine ⟨fun c s hc h => ?nothing, fun s => ?take, fun s data hw hbad => ?badFrame⟩
  case nothing =>
    obtain ⟨isFor, act, hserve⟩ := exec_request_eq_serve hc
    rw [hserve]
    exact serve_nothing (h.imp_right mayTake_of_four) _ _
  case take =>
    intro taken
    have htake : takeOff s = notice .request (if s.osc.state = .dormant then enterState .parkWatch taken else taken) := rfl
    have hnotice : ∀ t : State, notice .request t =
        if t.osc.state = .parkWatch ∧ (t.setting .activityMask).testBit 1 = true then
          { t with osc := { t.osc with activity := some (t.now + t.setting .dormantDelayS * 1000) } }
        else t := fun t => rfl
    refine ⟨fun hpark hdormant => ?_, fun hpark hmask => ?_, fun hpark hmask => ?_, fun hdormant => ?_⟩
    · rw [htake, if_neg hdormant, hnotice, if_neg fun h => hpark h.1]
    · rw [htake, if_neg (by simp [hpark]), hnotice, if_neg fun h => by
        have : (s.setting .activityMask).testBit 1 = true := h.2
        simp [hmask] at this]
    · rw [htake, if_neg (by simp [hpark]), hnotice, if_pos ⟨hpark, hmask⟩]
      rfl
    · rw [htake, if_pos hdormant]
      have hentered := enterState_entered .parkWatch taken
      rw [hnotice]
      split
      case isFalse => exact hentered
      case isTrue =>
        obtain ⟨hosc, hevq, hlanes, hwheels, hlink, hdata, hsame⟩ := hentered
        refine ⟨?_, hevq, hlanes, hwheels, ?_, hdata, hsame⟩
        · have hnow := (enterState_frame .parkWatch taken).now
          have hdelay := (enterState_frame .parkWatch taken).setting .dormantDelayS
          simp only [hnow, hdelay]
          rw [hosc]
          rfl
        · exact hlink
  case badFrame =>
    have hfor : isBadFrame data = true := by
      rcases hbad with h | h <;> simp [isBadFrame, h]
    exact serve_waiting hw isBadFrame badFrame hfor

/-! ### What the guard refuses, and what an open session refuses -/

theorem classOf_eq {data : List Byte} {code : Nat} {c : EditClass} (h : natAt data 0 = code) (hc : requestClass code = some c) :
    classOf data = c := by
  rw [classOf, h, hc]
  rfl

/-- A ROSTER_WRITE reaches the command of its item. -/
theorem rosterWrite_waiting {s : State} {data : List Byte} (hw : Waiting s data) (hlen : data.length = 8)
    (hcode : natAt data 0 = 0x15) : ∃ owner : List Byte → State → Served,
      (∀ t, ∃ act, owner data t = rosterWrite data act t) ∧
      exec (rosterCommand (rosterItem (natAt data 3))) s = .next (deliver data (judge owner data (takeOff s))) := by
  have hreq : isRequest 0x15 data = true := by simp [isRequest, hlen, hcode]
  have hfor : ∀ kind, isRosterWrite kind data = kind (rosterItem (natAt data 3)) := fun kind => by
    rw [isRosterWrite, hreq, Bool.true_and]
  cases hitem : rosterItem (natAt data 3) with
  | none => exact ⟨rosterWriteTag, fun t => ⟨_, rfl⟩, serve_waiting hw _ _ (by rw [hfor, hitem]; rfl)⟩
  | some item =>
    cases item with
    | tag => exact ⟨rosterWriteTag, fun t => ⟨_, rfl⟩, serve_waiting hw _ _ (by rw [hfor, hitem]; rfl)⟩
    | axle a => exact ⟨rosterWriteAxle, fun t => ⟨_, rfl⟩, serve_waiting hw _ _ (by rw [hfor, hitem]; rfl)⟩
    | slot t => exact ⟨rosterWriteSlot, fun t => ⟨_, rfl⟩, serve_waiting hw _ _ (by rw [hfor, hitem]; rfl)⟩

theorem sessionOpen_takeOff (s : State) : sessionOpen (takeOff s) = sessionOpen s := by
  simp only [sessionOpen, (takeOff_frame s).enc]

/-- The row a byte names. -/
theorem indexAt_of_lt {n : Nat} {data : List Byte} {i : Nat} (h : natAt data i < n) :
    indexAt n data i = some ⟨natAt data i, h⟩ := indexAt_eq ⟨natAt data i, h⟩ rfl

/-- Settles O32: the guard's refusal is the take's own, and every owner asks for an open session before it edits. -/
theorem refusedEditsChangeNothing : Obligations.RefusedEditsChangeNothing := by
  refine ⟨fun p s data hp hw hlen hcode hguard => ?guarded, fun s data hw hlen hcode hguard => ?roster,
    fun s data hopen => ?session⟩
  case guarded =>
    simp only [editCommands, List.mem_cons, List.not_mem_nil, or_false] at hp
    rcases hp with rfl | rfl | rfl | rfl | rfl | rfl | rfl | rfl | rfl | rfl | rfl | rfl
    all_goals exact serveRequest_guarded hw hlen hcode hguard _
  case roster =>
    obtain ⟨owner, -, hexec⟩ := rosterWrite_waiting hw hlen hcode
    have hclass : classOf data = .wheel := classOf_eq hcode rfl
    rw [hexec, judge, hclass, hguard]
    rfl
  case session =>
    have hopen : sessionOpen (takeOff s) = true := by rw [sessionOpen_takeOff, sessionOpen_iff]; exact hopen
    refine ⟨fun hw hr hid => ?_, fun hw hr => ?_, fun item hw hk hitem => ?_, fun hw hk => ?_, fun r hr htrailer hw hk => ?_⟩
    · refine (serveRequest_waitingFor hw writeRow).trans ?_
      simp [writeRow, indexAt_of_lt hr, hid, hopen]
    · refine (serveRequest_waitingFor hw clearRow).trans ?_
      simp [clearRow, indexAt_of_lt hr, hopen]
    · obtain ⟨hwait, hlen, hcode, hguard⟩ := hw
      obtain ⟨owner, howner, hexec⟩ := rosterWrite_waiting hwait hlen hcode
      obtain ⟨act, hact⟩ := howner (takeOff s)
      rw [← hitem, hexec, judge, if_pos hguard, hact]
      simp [rosterWrite, indexAt_of_lt hk, hitem, hopen]
    · refine (serveRequest_waitingFor hw rosterClear).trans ?_
      simp [rosterClear, indexAt_of_lt hk, hopen]
    · have hwalks : sessionWalksTrailer (takeOff s) = true := by
        rw [sessionWalksTrailer, hopen, (takeOff_frame s).enc, Bool.true_and, List.any_eq_true]
        exact ⟨r, hr, by simpa [isTrailerRow] using htrailer⟩
      refine (serveRequest_waitingFor hw trailerSelect).trans ?_
      simp [trailerSelect, indexAt_of_lt hk, hwalks]

/-! ### Settings by their items (R178) -/

theorem settingOf_item (k : Setting) : settingOf k.item.val = some k := by cases k <;> rfl

theorem settingOf_of_gt {n : Nat} (h : 20 < n) : settingOf n = none := by
  obtain ⟨m, rfl⟩ := Nat.exists_eq_add_of_le' (Nat.succ_le_of_lt h)
  rfl

/-! ### IDENTIFY, READ_PART_STATUS and READ_SETTING -/

/-- Settles O33. -/
theorem statusReads : Obligations.StatusReads := by
  intro s data b p
  have hevents : (!b.evq.records.isEmpty) = decide (b.evq.records ≠ []) := by cases b.evq.records <;> rfl
  have hp : partStatusOf b = p := by
    simp only [partStatusOf, hevents]
    rfl
  refine ⟨fun hw => ?identify, fun hw => ?partStatus, fun hw => ?setting⟩
  case identify => exact serveRequest_waitingFor hw identifyPart
  case partStatus =>
    have hexec : exec .readPartStatus s = .next (deliver data (readPartStatus data b)) := serveRequest_waitingFor hw _
    rw [hexec, readPartStatus]
    refine ⟨fun h => ?_, fun h => ?_, fun h => ?_, fun h => ?_⟩
    · rw [h, hp]
      cases htrailer : p.trailer <;> simp only [PartStatus.head, htrailer] <;> rfl
    · rw [h, hp]
      rfl
    · rw [h]
      rfl
    · obtain ⟨m, hm⟩ := Nat.exists_eq_add_of_le' (Nat.succ_le_of_lt h)
      rw [hm]
      rfl
  case setting =>
    have hexec : exec .readSetting s = .next (deliver data (readSetting data b)) := serveRequest_waitingFor hw _
    rw [hexec, readSetting]
    refine ⟨fun k hk => ?_, fun h => ?_⟩
    · rw [hk, settingOf_item]
      rfl
    · rw [settingOf_of_gt h]
      rfl

/-! ### READ_LIMITS, READ_CANDIDATE, ENROL_STATUS and SNAPSHOT_READ -/

theorem vector_toList_four {α : Type} (v : Vector α 4) : v.toList = [v[0], v[1], v[2], v[3]] := by
  refine List.ext_getElem (by simp) fun i hi _ => ?_
  have : i < 4 := by simpa using hi
  interval_cases i <;> simp

/-- With rows that stand once, the pair of a row is found. -/
theorem find?_pair_of_nodup {pairs : List EnrolPair} {p : EnrolPair} (hp : p ∈ pairs) (hnodup : (pairs.map EnrolPair.row).Nodup) :
    pairs.find? (fun q => decide (q.row = p.row)) = some p := by
  induction pairs with
  | nil => simp at hp
  | cons q pairs ih =>
    obtain ⟨hq, hrest⟩ := List.nodup_cons.1 hnodup
    rcases List.mem_cons.1 hp with rfl | hp
    · simp
    · have hne : q.row ≠ p.row := fun h => hq (h ▸ List.mem_map_of_mem hp)
      simp [hne, ih hp hrest]

theorem find?_pair_of_absent {pairs : List EnrolPair} {r : Row} (h : r ∉ pairs.map EnrolPair.row) :
    pairs.find? (fun q => decide (q.row = r)) = none := by
  rw [List.find?_eq_none]
  intro q hq
  simpa using fun hr : q.row = r => h (hr ▸ List.mem_map_of_mem hq)

theorem readLimits_of_selected {data : List Byte} {s : State} {bytes : List Byte} (g : GroupNo) (h : natAt data 2 = g.val)
    (hsel : s.tables.groups[g].selected (natAt data 3) = some bytes) : readLimits data s = answered .ok bytes s := by
  simp only [readLimits, indexAt_eq g h, hsel]

theorem readLimits_of_badSelector {data : List Byte} {s : State} (g : GroupNo) (h : natAt data 2 = g.val)
    (hsel : s.tables.groups[g].selected (natAt data 3) = none) : readLimits data s = refuse .badValue s := by
  simp only [readLimits, indexAt_eq g h, hsel]

theorem selected_of_gt (g : ThresholdGroup) {n : Nat} (h : 5 < n) : g.selected n = none := by
  obtain ⟨m, rfl⟩ := Nat.exists_eq_add_of_le' (Nat.succ_le_of_lt h)
  rfl

theorem snapPart_of_gt (x : SnapRow) {n : Nat} (h : 4 < n) : snapPart x n = none := by
  obtain ⟨m, rfl⟩ := Nat.exists_eq_add_of_le' (Nat.succ_le_of_lt h)
  rfl

theorem snapshotRead_of_part {data : List Byte} {s : State} {bytes : List Byte} (r : Row) (h : natAt data 2 = r.val)
    (hsel : snapPart s.link.snapshots.held.rows[r] (natAt data 3) = some bytes) :
    snapshotRead data s = answered .ok bytes s := by
  simp only [snapshotRead, indexAt_eq r h, hsel]

theorem snapshotRead_of_badSelector {data : List Byte} {s : State} (r : Row) (h : natAt data 2 = r.val)
    (hsel : snapPart s.link.snapshots.held.rows[r] (natAt data 3) = none) : snapshotRead data s = refuse .badValue s := by
  simp only [snapshotRead, indexAt_eq r h, hsel]

/-- Settles O35: each owner by its selectors. -/
theorem otherReads : Obligations.OtherReads := by
  intro s data b sel
  refine ⟨fun hw => ?limits, fun hw => ?candidate, fun hw => ?enrol, fun hw => ?snapshot⟩
  case limits =>
    have hexec : exec .readLimits s = .next (deliver data (readLimits data b)) := serveRequest_waitingFor hw _
    rw [hexec]
    refine ⟨fun g hg => ?_, fun hbad => ?_⟩
    · have hread := fun {bytes} => readLimits_of_selected (data := data) (s := b) (bytes := bytes) g hg
      refine ⟨fun h => ?_, fun h => ?_, fun h => ?_, fun h => ?_, fun h => ?_, fun h => ?_⟩
      all_goals
        rw [hread (by rw [show natAt data 3 = _ from h]; rfl)]
        rfl
    · by_cases hg : natAt data 2 < 8
      · rw [readLimits_of_badSelector ⟨_, hg⟩ rfl (selected_of_gt _ (by omega))]
        rfl
      · simp only [readLimits, indexAt_none (n := 8) (Nat.not_lt.1 hg)]
        rfl
  case candidate =>
    have hexec : exec .readCandidate s = .next (deliver data (readCandidate data b)) := serveRequest_waitingFor hw _
    rw [hexec, readCandidate]
    refine ⟨fun hbad => ?_, fun hi hsel hnone => ?_, fun c hi hc => ?_⟩
    · rw [if_pos hbad]
      rfl
    · rw [if_neg (by omega), List.getElem?_eq_none hnone]
      rfl
    · refine ⟨fun h => ?_, fun h => ?_, fun h => ?_⟩
      all_goals
        rw [show natAt data 3 = _ from h, if_neg (by omega), hc]
        rfl
  case enrol =>
    have hexec : exec .enrolStatus s = .next (deliver data (enrolStatus data b)) := serveRequest_waitingFor hw _
    rw [hexec, enrolStatus]
    refine ⟨fun h => ?session, fun h => ?ending, fun h => ?proposal, fun h hsel => ?walk, fun h => ?bad⟩
    case session =>
      rw [h]
      refine ⟨fun hclosed => ?_, fun i r hi hr => ?_⟩
      · simp [sessionBytes, hclosed, rowByte, replied]
      · simp [sessionBytes, hi, stepRow, hr, rowByte, replied]
    case ending =>
      rw [h]
      rfl
    case proposal =>
      rw [h]
      refine ⟨fun hnone => ?_, fun r id hsome => ?_⟩
      · simp only [proposalBytes, hnone]
        rfl
      · simp only [proposalBytes, hsome]
        rfl
    case walk =>
      rw [h]
      have hsel : ¬ 31 < natAt data 3 := Nat.not_lt.2 hsel
      simp only [if_neg hsel]
      refine ⟨fun hend => ?_, fun r hr => ⟨fun hno => ?_, fun p hp hrow hnodup => ?_⟩⟩
      · rw [List.getElem?_eq_none hend]
        rfl
      · rw [show b.enc.walk[natAt data 3]? = some r from hr]
        simp only [walkBytes, find?_pair_of_absent hno]
        rfl
      · rw [show b.enc.walk[natAt data 3]? = some r from hr]
        subst hrow
        simp only [walkBytes, find?_pair_of_nodup hp hnodup]
        rfl
    case bad =>
      rcases h with h | ⟨h, hsel⟩
      · obtain ⟨m, hm⟩ := Nat.exists_eq_add_of_le' (Nat.succ_le_of_lt h)
        rw [hm]
        rfl
      · rw [h]
        simp only [if_pos (show 31 < natAt data 3 from hsel)]
        rfl
  case snapshot =>
    have hexec : exec .snapshotRead s = .next (deliver data (snapshotRead data b)) := serveRequest_waitingFor hw _
    rw [hexec]
    refine ⟨fun r hr => ?_, fun hbad => ?_⟩
    · have hread := fun {bytes} => snapshotRead_of_part (data := data) (s := b) (bytes := bytes) r hr
      intro x
      refine ⟨fun h => ?_, fun h => ?_, fun h => ?_, fun h => ?_, fun h => ?_⟩
      case refine_4 =>
        rw [hread (bytes := x.rssi.toList) (by rw [show natAt data 3 = _ from h]; rfl), vector_toList_four]
        rfl
      all_goals
        rw [hread (by rw [show natAt data 3 = _ from h]; rfl)]
        rfl
    · by_cases hr : natAt data 2 < 32
      · rw [snapshotRead_of_badSelector ⟨_, hr⟩ rfl (snapPart_of_gt _ (by omega))]
        rfl
      · simp only [snapshotRead, indexAt_none (n := 32) (Nat.not_lt.1 hr)]
        rfl

/-! ### CLEAR_LANE_STATUS, EVENT_TAKE and SNAPSHOT_OPEN -/

/-- Settles O47. -/
theorem laneEventAndSnapshotRequests : Obligations.LaneEventAndSnapshotRequests := by
  intro s data b
  refine ⟨fun hw => ?lanes, fun hw => ?events, fun hw => ?snapshot⟩
  case lanes =>
    have hexec : exec .clearLaneStatus s = .next (deliver data (clearLaneStatus data b)) := serveRequest_waitingFor hw _
    rw [hexec, clearLaneStatus]
    refine ⟨fun hbad => ?_, fun hgood => ?_⟩
    · rw [if_pos hbad]
      rfl
    · rw [if_neg (Nat.not_lt.2 hgood)]
      rfl
  case events =>
    have hexec : exec .eventTake s = .next (deliver data (eventTake data b)) := serveRequest_waitingFor hw _
    rw [hexec, eventTake]
    refine ⟨fun e rest h hrecords hlen => ?_, fun h hempty hover => ?_, fun h hnone => ?_, fun e h he => ?_, fun e h he => ?_,
      fun h => ?_⟩
    · intro overflow
      have hover : (b.evq.overflow && !rest.isEmpty) = overflow := by
        have hrest : (!rest.isEmpty) = decide (rest ≠ []) := by cases rest <;> rfl
        rw [hrest]
      have htake : takeEvent b.evq = { records := rest, overflow := overflow, taken := some e } := by
        simp only [takeEvent, hrecords, hover]
      simp only [h, htake, eventHead, Nat.mod_eq_of_lt hlen]
      rfl
    · have htake : takeEvent b.evq = { b.evq with taken := none } := by simp only [takeEvent, hempty]
      simp only [h, htake, eventHead, hover]
      rfl
    · rcases h with h | h <;> simp only [h, hnone] <;> rfl
    · simp only [h, he]
      rfl
    · simp only [h, he]
      rfl
    · obtain ⟨m, hm⟩ := Nat.exists_eq_add_of_le' (Nat.succ_le_of_lt h)
      rw [hm]
      rfl
  case snapshot =>
    intro p
    have hexec : exec .snapshotOpen s = .next (deliver data (snapshotOpen data b)) := serveRequest_waitingFor hw _
    rw [hexec, snapshotOpen]
    refine ⟨fun hnew => ?_, fun hold => ?_⟩
    · have hopen : openSnapshot b.link.snapshots = { p with ready := p.held, held := p.ready, readyNew := false } := if_pos hnew
      rw [hopen]
      rfl
    · have hopen : openSnapshot b.link.snapshots = b.link.snapshots := if_neg (by rw [Bool.not_eq_true]; exact hold)
      rw [hopen]
      rfl

end Sys2Proof.Machine
end

section
/-! Link settings, guard, freeze, and saves with what waits for them: the settlements of O37 and O39. -/

namespace Sys2Proof.Machine

set_option Elab.async false

/-! ### A save begun (R158) -/

theorem writeTimeOf_bounds (n : Nat) : 150 ≤ writeTimeOf n ∧ writeTimeOf n ≤ 600 := by
  have hmod := Nat.mod_lt (Config.writeTime n) (show 0 < 451 by decide)
  exact ⟨Nat.le_add_right _ _, Nat.add_le_add_left (Nat.le_of_lt_succ hmod) 150⟩

/-- The save of the tables in use, drawn with the next write time. -/
def begunStore (s : State) : Store :=
  { s.store with
    state := if s.lines.crank then .suspended else .writing
    captured := some s.tables, remaining := writeTimeOf s.saves, resumeAt := none, dirty := false }

theorem startSave_eq (s : State) : startSave s = { s with store := begunStore s, saves := s.saves + 1 } := rfl

theorem startSave_begun {before : Store} {s : State} (hagain : s.store.saveAgain = before.saveAgain)
    (hinvalid : s.store.invalid = before.invalid) : SaveBegun before (startSave s) :=
  ⟨rfl, rfl, (writeTimeOf_bounds _).1, (writeTimeOf_bounds _).2, rfl, rfl, hagain, hinvalid⟩

theorem requestSave_of_idle {s : State} (h : s.store.state = .idle) : requestSave s = startSave s := if_pos h

theorem requestSave_of_busy {s : State} (h : s.store.state ≠ .idle) :
    requestSave s = { s with store := { s.store with saveAgain := true } } := if_neg h

theorem saveInFlight_iff (s : State) : saveInFlight s = true ↔ s.store.state ≠ .idle := by simp [saveInFlight]

theorem saveInFlight_of_idle {s : State} (h : s.store.state = .idle) : saveInFlight s = false := by simp [saveInFlight, h]

/-! ### SET_LINK (R163, R179) -/

theorem bitRateOf_isSome_iff (n : Nat) : (bitRateOf n).isSome = true ↔ n ≤ 3 := by
  by_cases h : n ≤ 3
  · interval_cases n <;> simp [bitRateOf]
  · obtain ⟨m, rfl⟩ := Nat.exists_eq_add_of_le' (Nat.succ_le_of_lt (Nat.lt_of_not_le h))
    simp [bitRateOf]

/-- The fields of a SET_LINK that is well formed. -/
abbrev LinkFields (base id : Nat) : Prop :=
  base % 16 = 0 ∧ 0x100 ≤ base ∧ base ≤ 0x7E0 ∧ id ≤ 0x7FF ∧ id ∉ [base, base + 1, base + 2, base + 3, base + 8]

theorem linkFields_iff (base id : Nat) :
    (!nodeBaseLegal base || decide (0x7FF < id) || identifierTaken base id) = false ↔ LinkFields base id := by
  have htaken : identifierTaken base id = false ↔ id ∉ [base, base + 1, base + 2, base + 3, base + 8] := by
    simp [identifierTaken]
  simp only [Bool.or_eq_false_iff, htaken, LinkFields, nodeBaseLegal, Bool.not_eq_false', Bool.and_eq_true, decide_eq_true_eq,
    decide_eq_false_iff_not, Nat.not_lt, and_assoc]

theorem setLinkSettings_of_rate {data : List Byte} {rate : BitRate} (hrate : bitRateOf (natAt data 6) = some rate) (s : State) :
    setLinkSettings data s =
      if ¬ LinkFields (natAt2 data 2) (natAt2 data 4) then refuse .badValue s
      else if s.osc.state ≠ .offline then refuse .wrongState s
      else
        let l : LinkSettings :=
          { nodeBase := BitVec.ofNat 11 (natAt2 data 2), vehicleId := BitVec.ofNat 11 (natAt2 data 4), preferred := rate }
        answered .ok [] (if l = s.tables.link then s else writeTables { s.tables with link := l } s) := by
  simp only [setLinkSettings, hrate, ← linkFields_iff, Bool.not_eq_false]

/-! ### SET_GUARD and FREEZE (R117, R181, R182) -/

theorem guardLevelOf_code (level : GuardLevel) : guardLevelOf level.code = some level := by cases level <;> rfl

theorem setGuardLevel_of_level {data : List Byte} {level : GuardLevel} (h : natAt data 2 = level.code) (s : State) :
    setGuardLevel data s = answered .ok [] (if level = s.tables.guardLevel then s
      else requestSave (writeTables { s.tables with guardLevel := level } s)) := by
  simp only [setGuardLevel, h, guardLevelOf_code]

/-- A new guard level is stored, and a save begins or is asked for after the one in flight (R158, R181). -/
theorem setGuardLevel_of_change {data : List Byte} {level : GuardLevel} (b : State) (hlevel : natAt data 2 = level.code)
    (hne : level ≠ b.tables.guardLevel) :
    ∃ st n, setGuardLevel data b
          = answered .ok [] { b with tables := { b.tables with guardLevel := level }, store := st, saves := n }
      ∧ (b.store.state = .idle → SaveBegun b.store
          { b with tables := { b.tables with guardLevel := level }, store := st, saves := n })
      ∧ (b.store.state ≠ .idle → n = b.saves ∧ st = { b.store with dirty := true, saveAgain := true }) := by
  let written := writeTables { b.tables with guardLevel := level } b
  rw [setGuardLevel_of_level hlevel, if_neg hne]
  by_cases hidle : b.store.state = .idle
  · exact ⟨begunStore written, b.saves + 1, congrArg (answered .ok []) (requestSave_of_idle (s := written) hidle),
      fun _ => startSave_begun (s := written) rfl rfl, fun h => absurd hidle h⟩
  · exact ⟨{ b.store with dirty := true, saveAgain := true }, b.saves,
      congrArg (answered .ok []) (requestSave_of_busy (s := written) hidle), fun h => absurd h hidle, fun _ => ⟨rfl, rfl⟩⟩

theorem endSession_of_closed {s : State} (how : Ending) (h : s.enc.session = none) : endSession how s = s := by
  simp only [endSession, h]

/-- Settles O37: each owner's checks in their order, and the one record it writes. -/
theorem linkGuardAndFreeze : Obligations.LinkGuardAndFreeze := by
  intro s data b
  refine ⟨fun hw => ?link, fun hw => ?guard, fun hw => ?freeze⟩
  case link =>
    intro base id good
    have hexec : exec .setLink s = .next (deliver data (setLinkSettings data b)) := serveRequest_waitingFor hw _
    have hgood : good ↔ LinkFields base id ∧ natAt data 6 ≤ 3 := by
      simp only [good, LinkFields, and_assoc]
    have hrate : natAt data 6 ≤ 3 → ∃ rate, bitRateOf (natAt data 6) = some rate :=
      fun h => Option.isSome_iff_exists.1 ((bitRateOf_isSome_iff _).2 h)
    rw [hexec]
    refine ⟨fun hbad => ?_, fun h hstate => ?_, fun rate h hrate hstate => ?_⟩
    · by_cases h3 : natAt data 6 ≤ 3
      · obtain ⟨rate, hrate⟩ := hrate h3
        rw [setLinkSettings_of_rate hrate, if_pos fun hf => hbad (hgood.2 ⟨hf, h3⟩)]
        rfl
      · have hnone : bitRateOf (natAt data 6) = none := by
          rw [← Option.not_isSome_iff_eq_none, bitRateOf_isSome_iff]
          exact h3
        simp only [setLinkSettings, hnone]
        rfl
    · obtain ⟨hf, h3⟩ := hgood.1 h
      obtain ⟨rate, hrate⟩ := hrate h3
      rw [setLinkSettings_of_rate hrate, if_neg (not_not.2 hf), if_pos hstate]
      rfl
    · intro l
      obtain ⟨hf, -⟩ := hgood.1 h
      rw [setLinkSettings_of_rate hrate, if_neg (not_not.2 hf), if_neg (not_not.2 hstate)]
      exact ⟨fun hl => congrArg (fun t => Host.Outcome.next (deliver data (answered .ok [] t))) (if_pos hl),
        fun hl => congrArg (fun t => Host.Outcome.next (deliver data (answered .ok [] t))) (if_neg hl)⟩
  case guard =>
    have hexec : exec .setGuard s = .next (deliver data (setGuardLevel data b)) := serveRequest_waitingFor hw _
    rw [hexec]
    refine ⟨fun hbad => ?_, fun hsame => ?_, fun level hlevel hne => ?_⟩
    · obtain ⟨m, hm⟩ := Nat.exists_eq_add_of_le' (Nat.succ_le_of_lt hbad)
      have hnone : guardLevelOf (natAt data 2) = none := by rw [hm]; rfl
      simp only [setGuardLevel, hnone]
      rfl
    · rw [setGuardLevel_of_level hsame, if_pos rfl]
      rfl
    · obtain ⟨st, n, hset, hidle, hbusy⟩ := setGuardLevel_of_change b hlevel hne
      exact ⟨st, n, congrArg (fun x => Host.Outcome.next (deliver data x)) hset, hidle, hbusy⟩
  case freeze =>
    have hexec : exec .freeze s = .next (deliver data (freezeTables data b)) := serveRequest_waitingFor hw _
    rw [hexec, freezeTables]
    refine ⟨fun hfrozen => ?_, fun hfree hclosed => ?_, fun i hfree hi => ?_⟩
    · rw [if_pos hfrozen]
      rfl
    · rw [if_neg (by simp [hfree]), endSession_of_closed (s := b.setMgu { b.mgu with frozen := true }) .frozen hclosed]
      rfl
    · let frozen := b.setMgu { b.mgu with frozen := true }
      refine ⟨endSession .frozen frozen, ?_, (endSession_frame .frozen frozen).mgu,
        endSession_ended (s := frozen) .frozen hi (takeOff_not_dormant s)⟩
      rw [if_neg (by simp [hfree])]
      rfl

/-! ### SAVE, RESTART and the completion of a save -/

/-- The part when a save has completed: the image written and the store idle, with SAVE_DONE raised (R160). -/
def savedState (c : Tables) (s : State) : State :=
  raiseEvent .saveDone none none { s with
    image := imageOf c
    store := { s.store with
      state := .idle, captured := none, remaining := 0, resumeAt := none, saveAgain := false, invalid := false } }

theorem completeSave_eq (c : Tables) (s : State) :
    completeSave c s = takeDeferredRestart (takeDeferredOffline
      (if s.store.saveAgain = true then startSave (savedState c s) else savedState c s)) := rfl

theorem exec_saveComplete_of_written {s : State} {c : Tables} (hrun : s.phase = .running) (hstate : s.store.state = .writing)
    (hremaining : s.store.remaining = 0) (hc : s.store.captured = some c) :
    exec .saveComplete s = .next (completeSave c s) := by
  refine (whileRunning_running hrun _).trans (congrArg Host.Outcome.next ?_)
  simp only [saveComplete, hc]
  exact if_pos ⟨hstate, hremaining⟩

theorem takeDeferredOffline_of_none {s : State} (h : s.osc.deferredOffline = none) : takeDeferredOffline s = s := by
  simp only [takeDeferredOffline, h]

theorem takeDeferredOffline_of_open {s : State} {tag : Byte} (h : s.osc.deferredOffline = some tag) (hopen : s.enc.session ≠ none) :
    takeDeferredOffline s = respond 0x03 tag .wrongState [] { s with osc := { s.osc with deferredOffline := none } } := by
  simp only [takeDeferredOffline, h]
  exact if_pos ((sessionOpen_iff s).2 hopen)

theorem takeDeferredOffline_of_closed {s : State} {tag : Byte} (h : s.osc.deferredOffline = some tag) (hclosed : s.enc.session = none) :
    takeDeferredOffline s = respond 0x03 tag .ok []
      (enterState .offline { s with osc := { s.osc with deferredOffline := none } }) := by
  simp only [takeDeferredOffline, h]
  exact if_neg (by simp [sessionOpen, hclosed])

theorem takeDeferredRestart_of_none {s : State} (h : s.mgu.deferredRestart = none) : takeDeferredRestart s = s :=
  if_neg (by simp [h])

theorem takeDeferredRestart_of_saving {s : State} (h : saveInFlight s = true) : takeDeferredRestart s = s :=
  if_neg (by simp [h])

theorem takeDeferredRestart_of_idle {s : State} (h : s.mgu.deferredRestart ≠ none) (hidle : saveInFlight s = false) :
    takeDeferredRestart s = warmReset s :=
  if_pos ⟨Option.isSome_iff_ne_none.2 h, by rw [hidle]; rfl⟩

/-- What the deferred requests can change of the part: the mode and the link. -/
theorem takeDeferredOffline_frame (s : State) : Frame modeFields s (takeDeferredOffline s) := by
  unfold takeDeferredOffline
  split
  · exact .refl _ s
  · refine .ite ?_ ?_
    · exact ((setOsc_frame _ s).mono (by decide)).trans ((respond_frame _ _ _ _ _).mono (by decide))
    · exact (((setOsc_frame _ s).mono (by decide)).trans (enterState_frame _ _)).trans
        ((respond_frame _ _ _ _ _).mono (by decide))

theorem saveInFlight_startSave (s : State) : saveInFlight (startSave s) = true := by
  rw [saveInFlight_iff, startSave_eq]
  simp only [begunStore]
  split <;> simp

/-- Settles O39. -/
theorem savesAndRestarts : Obligations.SavesAndRestarts := by
  refine ⟨fun s data => ?requests, fun s c hrun hwriting hzero hc => ?complete⟩
  case requests =>
    intro b
    refine ⟨fun hw => ?save, fun hw => ?restart⟩
    case save =>
      have hexec : exec .save s = .next (deliver data (saveRequest data b)) := serveRequest_waitingFor hw _
      rw [hexec, saveRequest]
      refine ⟨fun h => ?_, fun h hbusy => ?_, fun h hidle => ⟨begunStore b, ?_, startSave_begun (s := b) rfl rfl⟩⟩
      · rw [if_pos h]
        rfl
      · rw [if_neg h, if_pos ((saveInFlight_iff b).2 hbusy)]
        rfl
      · rw [if_neg h, if_neg (by simp [saveInFlight_of_idle hidle])]
        rfl
    case restart =>
      have hexec : exec .restart s = .next (deliver data (restartRequest data b)) := serveRequest_waitingFor hw _
      rw [hexec, restartRequest]
      refine ⟨fun h => ?_, fun h hbusy hdeferred => ?_, fun h hbusy hfree => ?_, fun h hidle => ?_⟩
      · rw [if_pos h]
        rfl
      · rw [if_neg h, if_pos ((saveInFlight_iff b).2 hbusy), if_pos (Option.isSome_iff_ne_none.2 hdeferred)]
        rfl
      · rw [if_neg h, if_pos ((saveInFlight_iff b).2 hbusy), if_neg (by simp [hfree])]
        rfl
      · rw [if_neg h, if_neg (by simp [saveInFlight_of_idle hidle])]
        have hr := enterStarting_restarting b.link b
        have hlink : ∀ before t, (resetLink before t).requests = [] ∧ (resetLink before t).responses = []
            ∧ (resetLink before t).alerts = [] ∧ (resetLink before t).buffer = none := fun before t => by
          unfold resetLink
          split <;> exact ⟨rfl, rfl, rfl, rfl⟩
        obtain ⟨hrequests, hresponses, halerts, hbuffer⟩ := hlink b.link (enterStarting b.link b)
        rw [← hr.link] at hrequests hresponses halerts hbuffer
        refine ⟨enterStarting b.link b, rfl, hr.phase, hr.osc, hr.clock, hr.lines, hr.image, hr.mgu, hr.enc, hr.candidates,
          hrequests, hresponses, halerts, hbuffer, fun hfixed => ?_, fun c hc => (hr.loaded c hc).1, fun himage => ?_⟩
        · rw [hr.link, resetLink, if_neg hfixed]
          exact ⟨rfl, rfl⟩
        · refine (hr.notLoaded fun c hc => ?_).1
          rw [hc] at himage
          rcases himage with h | h <;> exact absurd h (by simp [imageOf])
  case complete =>
    intro done
    have hexec := exec_saveComplete_of_written hrun hwriting hzero hc
    have hdone : savedState c s = done := by
      simp only [savedState, done, hzero]
    rw [completeSave_eq, hdone] at hexec
    rw [hexec]
    have hsaved : saveInFlight done = false := rfl
    refine ⟨fun hagain hoffline hrestart => ?plain, fun hagain hoffline => ?again, fun tag hagain hoffline hrestart => ?offline,
      fun tag hagain hoffline => ?both, fun hagain hrestart => ?restart⟩
    case plain =>
      rw [if_neg (by simp [hagain]), takeDeferredOffline_of_none (s := done) hoffline,
        takeDeferredRestart_of_none (s := done) hrestart]
    case again =>
      refine ⟨begunStore done, ?_, startSave_begun (s := done) rfl rfl⟩
      rw [if_pos hagain, takeDeferredOffline_of_none (s := startSave done) hoffline,
        takeDeferredRestart_of_saving (saveInFlight_startSave done)]
      rfl
    case offline =>
      intro free
      have hnone : ∀ t, Frame modeFields done t → takeDeferredRestart t = t := fun t ht =>
        takeDeferredRestart_of_none (by rw [ht.mgu]; exact hrestart)
      rw [if_neg (by simp [hagain]), hnone _ (takeDeferredOffline_frame done)]
      refine ⟨fun hopen => ?_, fun hclosed => ⟨enterState .offline free, ?_, enterState_entered .offline free⟩⟩
      · rw [takeDeferredOffline_of_open (s := done) hoffline hopen]
        rfl
      · rw [takeDeferredOffline_of_closed (s := done) hoffline hclosed]
        rfl
    case both =>
      refine ⟨begunStore done, ?_⟩
      intro free
      have hsaving : ∀ t, Frame modeFields (startSave done) t → takeDeferredRestart t = t := fun t ht =>
        takeDeferredRestart_of_saving (by
          rw [saveInFlight, ht.store]
          exact saveInFlight_startSave done)
      rw [if_pos hagain, hsaving _ (takeDeferredOffline_frame _)]
      refine ⟨startSave_begun (s := done) rfl rfl, fun hopen => ?_,
        fun hclosed => ⟨enterState .offline free, ?_, enterState_entered .offline free⟩⟩
      · rw [takeDeferredOffline_of_open (s := startSave done) hoffline hopen]
        rfl
      · rw [takeDeferredOffline_of_closed (s := startSave done) hoffline hclosed]
        rfl
    case restart =>
      rw [if_neg (by simp [hagain])]
      have hframe := takeDeferredOffline_frame done
      generalize takeDeferredOffline done = t at hframe
      have hidle : saveInFlight t = false := by
        rw [saveInFlight, hframe.store]
        exact hsaved
      rw [takeDeferredRestart_of_idle (by rw [hframe.mgu]; exact hrestart) hidle]
      have hr := enterStarting_restarting t.link t
      obtain ⟨htables, hstore, hevents⟩ := hr.loaded c hframe.image
      have hresponses : (resetLink t.link (enterStarting t.link t)).responses = [] := by
        unfold resetLink
        split <;> rfl
      rw [← hr.link] at hresponses
      exact ⟨enterStarting t.link t, rfl, hr.osc, hr.phase, htables, hr.image.trans hframe.image, hstore,
        hr.clock.trans hframe.clock, hr.lines.trans hframe.lines, hr.mgu.trans (by rw [hframe.mgu]; rfl), hresponses, hevents⟩

end Sys2Proof.Machine
end

section
/-! What work on the wheel records does beyond them, said once for every operation of section 5: ALERT frames alone reach the link, the
controller sees activity alone, and no record gets a deadline outside ACTIVE or a ring that is not legal. -/

namespace Sys2Proof.Machine

set_option Elab.async false

/-- The record has no freshness deadline. -/
abbrev Undated (w : WheelRecord) : Prop := w.staleAt = none ∧ w.missingAt = none

/-- What work on the wheel records may do to the part. -/
structure WheelWork (s t : State) : Prop where
  link : ∃ l, t.link = { s.link with alerts := l }
    ∧ ((s.link.alerts.map AlertFrame.row).Nodup → (l.map AlertFrame.row).Nodup)
  osc : ∃ a, t.osc = { s.osc with activity := a } ∧ (a = s.osc.activity ∨ (s.osc.state = .parkWatch ∧ a.isSome = true))
  undated : s.osc.state ≠ .active → ∀ r, Undated (s.wheel r) → Undated (t.wheel r)
  rings : ∀ r, RingLegal (s.wheel r).ring → RingLegal (t.wheel r).ring

namespace WheelWork

variable {s t u : State}

theorem osc_state (h : WheelWork s t) : t.osc.state = s.osc.state := by
  obtain ⟨a, ha, -⟩ := h.osc
  rw [ha]

theorem link_eq (h : WheelWork s t) : t.link = { s.link with alerts := t.link.alerts } := by
  obtain ⟨l, hl, -⟩ := h.link
  rw [hl]

theorem refl (s : State) : WheelWork s s :=
  ⟨⟨s.link.alerts, rfl, id⟩, ⟨s.osc.activity, rfl, .inl rfl⟩, fun _ _ h => h, fun _ h => h⟩

theorem trans (h : WheelWork s t) (k : WheelWork t u) : WheelWork s u := by
  have hstate := h.osc_state
  obtain ⟨l, hl, hnodup⟩ := h.link
  obtain ⟨m, hm, mnodup⟩ := k.link
  obtain ⟨a, ha, hseen⟩ := h.osc
  obtain ⟨b, hb, kseen⟩ := k.osc
  rw [hl] at hm mnodup
  refine ⟨⟨m, hm, fun hs => mnodup (hnodup hs)⟩, ⟨b, by rw [hb, ha], ?_⟩,
    fun hs r hr => k.undated (hstate ▸ hs) r (h.undated hs r hr), fun r hr => k.rings r (h.rings r hr)⟩
  rw [ha] at kseen
  rcases kseen with rfl | kseen
  · exact hseen
  · exact .inr kseen

theorem ite {p : Prop} [Decidable p] (h : WheelWork s t) (k : WheelWork s u) : WheelWork s (if p then t else u) := by
  split <;> assumption

theorem foldl {α : Type} (f : State → α → State) (h : ∀ s x, WheelWork s (f s x)) (l : List α) (s : State) :
    WheelWork s (l.foldl f s) := by
  induction l generalizing s with
  | nil => exact refl s
  | cons x l ih => exact (h s x).trans (ih _)

theorem forRows (f : Row → State → State) (h : ∀ r s, WheelWork s (f r s)) (rows : List Row) (s : State) :
    WheelWork s (Machine.forRows f rows s) := foldl _ (fun s r => h r s) rows s

/-- Fields of other units do not count. -/
theorem of_frame {c : List Field} (h : Frame c s t) (k : Field.link ∉ c := by decide) (l : Field.osc ∉ c := by decide)
    (m : Field.wheels ∉ c := by decide) : WheelWork s t :=
  ⟨⟨s.link.alerts, h.link k, id⟩, ⟨s.osc.activity, h.osc l, .inl rfl⟩, fun _ r hr => by rwa [h.wheel r m],
    fun r hr => by rwa [h.wheel r m]⟩

/-- One record written: it must bring no deadline outside ACTIVE, and a legal ring. -/
theorem of_putWheel {r : Row} {w : WheelRecord} (hundated : s.osc.state ≠ .active → Undated (s.wheel r) → Undated w)
    (hring : RingLegal (s.wheel r).ring → RingLegal w.ring) : WheelWork s (putWheel r w s) := by
  have hframe := putWheel_frame r w s
  refine ⟨⟨s.link.alerts, hframe.link, id⟩, ⟨s.osc.activity, hframe.osc, .inl rfl⟩, fun hs q hq => ?_, fun q hq => ?_⟩ <;>
    rw [putWheel_wheel] <;> split
  · next h => exact hundated hs (h ▸ hq)
  · exact hq
  · next h => exact hring (h ▸ hq)
  · exact hq

/-- A record that keeps its deadlines and its ring, whatever else changes. -/
theorem of_putWheel_same {r : Row} {w : WheelRecord} (hstale : w.staleAt = (s.wheel r).staleAt)
    (hmissing : w.missingAt = (s.wheel r).missingAt) (hring : w.ring = (s.wheel r).ring) : WheelWork s (putWheel r w s) :=
  of_putWheel (fun _ h => ⟨hstale.trans h.1, hmissing.trans h.2⟩) (fun h => hring ▸ h)

end WheelWork

theorem ringLegal_nil : RingLegal [] := ⟨Nat.zero_le 8, .nil, by simp⟩

/-! ### Announcement and activity -/

theorem notice_work (a : Activity) (s : State) : WheelWork s (notice a s) := by
  have hframe := notice_frame a s
  refine ⟨⟨s.link.alerts, hframe.link, id⟩, ?_, fun _ r hr => by rwa [hframe.wheel], fun r hr => by rwa [hframe.wheel]⟩
  unfold notice
  split
  · next h => exact ⟨_, rfl, .inr ⟨h.1, rfl⟩⟩
  · exact ⟨s.osc.activity, rfl, .inl rfl⟩

theorem queueAlert_work (r : Row) (s : State) : WheelWork s (queueAlert r s) :=
  ⟨⟨_, rfl, replaceOrJoin_nodup AlertFrame.row (alertOf r (s.wheel r)) s.link.alerts⟩, ⟨s.osc.activity, rfl, .inl rfl⟩,
    fun _ _ h => h, fun _ h => h⟩

theorem announceAlert_work (r : Row) (s : State) : WheelWork s (announceAlert r s) :=
  (queueAlert_work r s).trans (.ite (.refl _) (.of_putWheel_same rfl rfl rfl))

theorem reannounce_work (r : Row) (s : State) : WheelWork s (reannounce r s) := by
  refine .ite (.refl s) (WheelWork.trans ?_ (.ite (announceAlert_work r _) (.refl _)))
  exact .of_putWheel_same rfl rfl rfl

theorem reannounceRows_work (rows : List Row) (s : State) : WheelWork s (forRows reannounce rows s) :=
  .forRows _ reannounce_work rows s

/-! ### Freshness -/

theorem goStale_work (r : Row) (s : State) : WheelWork s (goStale r s) := .of_putWheel (fun _ h => ⟨rfl, h.2⟩) id

theorem setCondition_work (r : Row) (c : Condition) (on : Bool) (s : State) : WheelWork s (setCondition r c on s) := by
  refine WheelWork.trans ?_ (.ite (notice_work _ _) (.refl _))
  refine WheelWork.trans ?_ (.of_frame (raiseCondition_frame r c on _))
  exact .of_putWheel_same rfl rfl rfl

theorem clearIfActive_work (r : Row) (c : Condition) (s : State) : WheelWork s (clearIfActive r c s) :=
  .ite (setCondition_work r c false s) (.refl s)

theorem goMissing_work (r : Row) (s : State) : WheelWork s (goMissing r s) :=
  ((WheelWork.of_putWheel (fun _ _ => ⟨rfl, rfl⟩) fun _ => ringLegal_nil).trans (setCondition_work _ _ _ _)).trans
    (reannounce_work _ _)

theorem retimeRow_of_not_active (before : State) (r : Row) {s : State} (h : s.osc.state ≠ .active) : retimeRow before r s = s :=
  if_pos (.inl h)

theorem retimeRow_work (before : State) (r : Row) (s : State) : WheelWork s (retimeRow before r s) := by
  by_cases hactive : s.osc.state = .active
  case neg => rw [retimeRow_of_not_active before r hactive]; exact .refl s
  case pos =>
    have hdated : ∀ base, WheelWork s (putWheel r (withDeadlines s r base (s.wheel r)) s) := fun base =>
      .of_putWheel (fun h => absurd hactive h) id
    unfold retimeRow
    refine .ite (.refl s) (.ite (hdated _) ?_)
    exact ((hdated _).trans (.ite (goStale_work r _) (.refl _))).trans (.ite (goMissing_work r _) (.refl _))

theorem retime_work (before s : State) : WheelWork s (retime before s) := .forRows _ (retimeRow_work before) allRows s

/-! ### Restarts -/

theorem restartOne_work (r : Row) (s : State) : WheelWork s (restartOne r s) := by
  refine WheelWork.trans ?_ (reannounce_work r _)
  refine WheelWork.trans ?_ (.of_frame (putEpisode_frame _ _ _))
  refine .of_putWheel (fun hs _ => ?_) (fun _ => ?_)
  · rw [if_neg fun h => hs h.2]
    exact ⟨rfl, rfl⟩
  · split <;> exact ringLegal_nil

theorem restartPartner_work (rows : List Row) (r : Row) (s : State) : WheelWork s (restartPartner rows r s) :=
  .ite ((clearIfActive_work _ _ s).trans (reannounce_work _ _)) (.refl s)

theorem restartRows_work (rows : List Row) (s : State) : WheelWork s (restartRows rows s) :=
  (WheelWork.forRows _ (restartPartner_work rows) rows s).trans (.forRows _ restartOne_work rows _)

/-! ### Conditions and measurements -/

theorem setCounter_work (r : Row) (c : Condition) (n : Nat) (s : State) : WheelWork s (setCounter r c n s) :=
  .of_putWheel_same rfl rfl rfl

theorem setImbalance_work (r : Row) (on : Bool) (s : State) : WheelWork s (setImbalance r on s) :=
  (setCondition_work _ _ _ s).trans (setCondition_work _ _ _ _)

theorem judgeOne_work (r : Row) (low : Bool) (c : Condition) (s : State) : WheelWork s (judgeOne r low c s) :=
  .ite (clearIfActive_work r _ s) (.ite (.refl s) (.ite (setCounter_work _ _ _ s)
    (.ite (setImbalance_work r _ s) (setCondition_work r c _ s))))

theorem judgeAll_work (r : Row) (low : Bool) (s : State) : WheelWork s (judgeAll r low s) :=
  .foldl _ (fun s c => judgeOne_work r low c s) _ s

theorem writeMeasurement_work (r : Row) (t : TelegramRecord) (x : Computed) (s : State) :
    WheelWork s (writeMeasurement r t x s) := by
  refine WheelWork.trans (.of_putWheel (fun hs h => ?_) fun h => ?_)
    (.ite ((clearIfActive_work r _ _).trans (.of_frame (putEpisode_frame _ _ _))) (.refl _))
  · rw [if_neg hs]
    exact h
  · split <;> exact h

theorem updateTrend_work (r : Row) (t : TelegramRecord) (x : Computed) (s : State) : WheelWork s (updateTrend r t x s) := by
  unfold updateTrend
  refine .ite (.refl s) (.ite (.of_putWheel_same rfl rfl rfl) ?_)
  refine WheelWork.trans ?written (.ite ?_ (.refl _))
  case written => exact .of_putWheel (fun _ h => h) fun h => ringAdd_legal h _
  exact ((WheelWork.of_frame (raiseEvent_frame _ _ _ _)).trans (setCounter_work _ _ _ _)).trans (clearIfActive_work r _ _)

theorem noticeChange_work (old new : Pu) (s : State) : WheelWork s (noticeChange old new s) :=
  .ite (notice_work _ s) (.refl s)

theorem measure_work (r : Row) (t : TelegramRecord) (s : State) : WheelWork s (measure r t s) := by
  unfold measure
  refine WheelWork.trans ?_ (noticeChange_work _ _ _)
  refine WheelWork.trans ?_ (reannounce_work _ _)
  refine WheelWork.trans ?_ (reannounce_work _ _)
  refine WheelWork.trans ?_ (judgeAll_work _ _ _)
  exact (writeMeasurement_work r t _ s).trans (updateTrend_work _ _ _ _)

/-! ### Re-evaluation and lift axles -/

theorem reevaluateOne_work (r : Row) (c : Condition) (s : State) : WheelWork s (reevaluateOne r c s) :=
  .ite (clearIfActive_work r _ s) (.ite (.refl s) (.ite (.ite (setImbalance_work r _ s) (.refl s))
    (.ite (.ite (setCondition_work r c _ s) (.refl s)) (.ite (setCondition_work r c _ s) (.refl s)))))

theorem reevaluateWheel_work (r : Row) (s : State) : WheelWork s (reevaluateWheel r s) :=
  .foldl _ (fun s c => reevaluateOne_work r c s) _ s

theorem clearLimitCounters_work (r : Row) (s : State) : WheelWork s (clearLimitCounters r s) :=
  .foldl _ (fun s c => setCounter_work r c 0 s) _ s

theorem reevaluate_work (rows : List Row) (s : State) : WheelWork s (reevaluate rows s) := by
  unfold reevaluate
  refine WheelWork.trans ?_ (reannounceRows_work _ _)
  refine WheelWork.trans ?_ (.forRows _ clearLimitCounters_work _ _)
  exact (WheelWork.forRows _ reevaluateWheel_work _ s).trans (.forRows _ (fun r s => reevaluateOne_work r .imbalance s) _ _)

theorem raiseWheel_work (r : Row) (s : State) : WheelWork s (raiseWheel r s) :=
  (clearIfActive_work r _ s).trans (clearIfActive_work r _ _)

theorem raisePair_work (r : Row) (s : State) : WheelWork s (raisePair r s) := .ite (setImbalance_work r _ s) (.refl s)

theorem raiseRest_work (before : State) (r : Row) (s : State) : WheelWork s (raiseRest before r s) := by
  unfold raiseRest
  refine WheelWork.trans ?_ (retimeRow_work before r _)
  refine WheelWork.trans ?_ (.of_putWheel (fun _ h => h) fun _ => ringLegal_nil)
  exact ((setCounter_work _ _ _ s).trans (setCounter_work _ _ _ _)).trans (setCounter_work _ _ _ _)

theorem raiseRows_work (before : State) (rows : List Row) (s : State) : WheelWork s (raiseRows before rows s) := by
  unfold raiseRows
  refine WheelWork.trans ?_ (reannounceRows_work _ _)
  refine WheelWork.trans ?_ (.forRows _ (raiseRest_work before) _ _)
  exact (WheelWork.forRows _ raiseWheel_work _ s).trans (.forRows _ raisePair_work _ _)

theorem lowerRows_work (before : State) (rows : List Row) (s : State) : WheelWork s (lowerRows before rows s) :=
  (reevaluate_work rows s).trans (.forRows _ (retimeRow_work before) _ _)

theorem liftAxle_work (before : State) (a : AxleNo) (s : State) : WheelWork s (liftAxle before a s) :=
  .ite (.refl s) (.ite (raiseRows_work before _ s) (lowerRows_work before _ s))

theorem liftChange_work (before s : State) : WheelWork s (liftChange before s) :=
  .ite (.refl s) (.foldl _ (fun s a => liftAxle_work before a s) _ s)

/-! ### Loads and the trailer -/

theorem putUnit_work (u : UnitName) (v : UnitLoad) (s : State) : WheelWork s (putUnit u v s) := .of_frame (putUnit_frame u v s)

theorem applyLoad_work (u : UnitName) (load : LoadState) (s : State) : WheelWork s (applyLoad u load s) :=
  (putUnit_work u _ s).trans (.ite (.refl _) (reevaluate_work _ _))

theorem settleLoad_work (u : UnitName) (load : LoadState) (s : State) : WheelWork s (settleLoad u load s) := by
  unfold settleLoad
  refine .ite (putUnit_work u _ s) ?_
  split
  · exact .refl s
  · exact .ite (applyLoad_work u load s) (putUnit_work u _ s)

theorem reportLoad_work (u : UnitName) (rep : LoadReport) (s : State) : WheelWork s (reportLoad u rep s) := by
  refine (putUnit_work u { unitLoad s u with reported := rep } s).trans ?_
  cases rep
  · exact settleLoad_work u _ _
  · exact settleLoad_work u _ _
  · exact putUnit_work u _ _
  · exact applyLoad_work u _ _

theorem unload_work (next : TrailerState) (s : State) : WheelWork s (unload next s) :=
  (WheelWork.of_frame (setTrailer_frame _ s)).trans (restartRows_work _ _)

end Sys2Proof.Machine
end

section
/-! What a vehicle data frame leaves of VDM, field by field; the frames received and the search of the bit rate: the settlement of O48. -/

namespace Sys2Proof.Machine

set_option Elab.async false

/-! ### Sessions end in ACTIVE, so VDM does not see it -/

theorem endSession_vdm {s : State} (how : Ending) (hawake : s.osc.state ≠ .dormant) : (endSession how s).vdm = s.vdm := by
  cases h : s.enc.session with
  | none => rw [endSession_of_closed how h]
  | some i =>
    obtain ⟨⟨-, -, -, -, -, -, -, -, -, -, -, -, hvdm, -⟩, -⟩ := endSession_ended how h hawake
    exact hvdm

theorem endSession_awake {s : State} (how : Ending) (hawake : s.osc.state ≠ .dormant) :
    (endSession how s).osc.state ≠ .dormant := by
  cases h : s.enc.session with
  | none => rwa [endSession_of_closed how h]
  | some i =>
    obtain ⟨⟨-, -, -, -, -, -, -, -, -, -, -, -, -, -, hpark, hstay⟩, -⟩ := endSession_ended how h hawake
    by_cases hp : s.osc.parkPending = true ∧ s.lines.ignition = false
    · rw [hpark hp]
      decide
    · rwa [hstay hp]

theorem sessionMoved_vdm {s : State} (hawake : s.osc.state ≠ .dormant) : (sessionMoved s).vdm = s.vdm := by
  unfold sessionMoved
  split
  · exact endSession_vdm _ hawake
  · rfl

theorem sessionMoved_awake {s : State} (hawake : s.osc.state ≠ .dormant) : (sessionMoved s).osc.state ≠ .dormant := by
  unfold sessionMoved
  split
  · exact endSession_awake _ hawake
  · exact hawake

theorem sessionTrailerLost_vdm {s : State} (hawake : s.osc.state ≠ .dormant) : (sessionTrailerLost s).vdm = s.vdm := by
  unfold sessionTrailerLost
  split
  · exact endSession_vdm _ hawake
  · rfl

/-! ### The speed (R134, R139) -/

theorem setSpeed_of_change {speed : Option Nat} {s : State} (h : speed ≠ s.vdm.speed) :
    setSpeed speed s = sessionMoved (retime s (s.setVdm { s.vdm with speed := speed })) := if_neg h

theorem setSpeed_of_same {speed : Option Nat} {s : State} (h : speed = s.vdm.speed) : setSpeed speed s = s := if_pos h

theorem retime_awake {before s : State} (hawake : s.osc.state ≠ .dormant) : (retime before s).osc.state ≠ .dormant := by
  rwa [(retime_work before s).osc_state]

theorem setSpeed_vdm {speed : Option Nat} {s : State} (hawake : s.osc.state ≠ .dormant) :
    (setSpeed speed s).vdm = { s.vdm with speed := speed } := by
  by_cases h : speed = s.vdm.speed
  · rw [setSpeed_of_same h, h]
  · rw [setSpeed_of_change h]
    exact (sessionMoved_vdm (retime_awake (s := s.setVdm { s.vdm with speed := speed }) hawake)).trans (retime_frame s _).vdm

theorem setSpeed_awake {speed : Option Nat} {s : State} (hawake : s.osc.state ≠ .dormant) :
    (setSpeed speed s).osc.state ≠ .dormant := by
  by_cases h : speed = s.vdm.speed
  · rwa [setSpeed_of_same h]
  · have hretimed := retime_awake (before := s) (s := s.setVdm { s.vdm with speed := speed }) hawake
    rw [setSpeed_of_change h]
    generalize retime s (s.setVdm { s.vdm with speed := speed }) = t at hretimed
    exact sessionMoved_awake hretimed

/-! ### The loads (R136 to R140) -/

/-- The vehicle data with one unit's load replaced. -/
def withUnit (u : UnitName) (v : UnitLoad) (d : VehicleData) : VehicleData :=
  match u with
  | .truck => { d with truck := v }
  | .trailer => { d with trailer := v }

theorem putUnit_eq (u : UnitName) (v : UnitLoad) (s : State) : putUnit u v s = s.setVdm (withUnit u v s.vdm) := by
  cases u <;> rfl

@[simp] theorem withUnit_withUnit (u : UnitName) (v w : UnitLoad) (d : VehicleData) :
    withUnit u v (withUnit u w d) = withUnit u v d := by
  cases u <;> rfl

@[simp] theorem unitLoad_setVdm_withUnit (u : UnitName) (v : UnitLoad) (s : State) :
    unitLoad (s.setVdm (withUnit u v s.vdm)) u = v := by
  cases u <;> rfl

theorem unitLoad_putUnit (u w : UnitName) (v : UnitLoad) (s : State) :
    unitLoad (putUnit u v s) w = if w = u then v else unitLoad s w := by
  cases u <;> cases w <;> rfl

theorem unitLoad_congr {s t : State} (h : t.vdm = s.vdm) (u : UnitName) : unitLoad t u = unitLoad s u := by
  cases u <;> simp only [unitLoad, h]

theorem applyLoad_vdm (u : UnitName) (load : LoadState) (s : State) :
    (applyLoad u load s).vdm = withUnit u { unitLoad s u with applied := load, settle := none } s.vdm := by
  have hput : ∀ v, (putUnit u v s).vdm = withUnit u v s.vdm := fun v => by rw [putUnit_eq, State.setVdm_vdm]
  unfold applyLoad
  dsimp only
  split
  · exact hput _
  · rw [(reevaluate_frame _ _).vdm, hput]

/-- A load reported as UNLADEN or LADEN, in the words of the rule. -/
theorem settleLoad_vdm (u : UnitName) (load : LoadState) (rep : LoadReport) (x : UnitLoad) (s : State) :
    (settleLoad u load (putUnit u { x with reported := rep } s)).vdm =
      withUnit u (loadAfterReport.reportedAs s x rep load) s.vdm := by
  rw [putUnit_eq]
  simp only [settleLoad, unitLoad_setVdm_withUnit, loadAfterReport.reportedAs]
  by_cases happlied : load = x.applied
  · simp [happlied, putUnit_eq]
  · rw [if_neg happlied, if_neg happlied]
    cases hsettle : x.settle with
    | some d => simp
    | none =>
      by_cases hnow : s.setting .loadSettleS = 0
      · simp [hnow, applyLoad_vdm]
      · simp [hnow, putUnit_eq]

theorem reportLoad_vdm (u : UnitName) (rep : LoadReport) (s : State) :
    (reportLoad u rep s).vdm = withUnit u (loadAfterReport s (unitLoad s u) rep) s.vdm := by
  cases rep
  · exact settleLoad_vdm u .unladen .unladen (unitLoad s u) s
  · exact settleLoad_vdm u .laden .laden (unitLoad s u) s
  · simp [reportLoad, loadAfterReport, putUnit_eq]
  · simp [reportLoad, loadAfterReport, applyLoad_vdm, putUnit_eq]

theorem loadAfterReport_congr {s t : State} (hnow : t.now = s.now) (hset : ∀ k, t.setting k = s.setting k) (x : UnitLoad)
    (rep : LoadReport) : loadAfterReport t x rep = loadAfterReport s x rep := by
  cases rep <;> simp only [loadAfterReport, loadAfterReport.reportedAs, hnow, hset]

/-! ### The coupling and the lift axles -/

/-- The trailer gone, before the session and the proposal hear of it. -/
def trailerGone (s : State) : State :=
  raiseEvent .trailerRemoved none none
    (((if s.trailer.entry?.isSome then unload .none s else s.setTrailer .none).setWindow none).setRecog noRecog)

theorem disconnectTrailer_of_trailer {s : State} (h : s.trailer ≠ .none) :
    disconnectTrailer s = settleProposal (sessionTrailerLost (trailerGone s)) := if_neg h

theorem disconnectTrailer_of_none {s : State} (h : s.trailer = .none) : disconnectTrailer s = s := if_pos h

theorem trailerGone_frame (s : State) : Frame trailerFields s (trailerGone s) := by
  refine Frame.trans ?_ ((raiseEvent_frame _ _ _ _).mono (by decide))
  refine Frame.trans ?_ ((setRecog_frame _ _).mono (by decide))
  refine Frame.trans ?_ ((setWindow_frame _ _).mono (by decide))
  exact .ite (unload_frame _ s) ((setTrailer_frame _ s).mono (by decide))

theorem trailerGone_work (s : State) : WheelWork s (trailerGone s) := by
  refine WheelWork.trans ?_ (.of_frame (raiseEvent_frame _ _ _ _))
  refine WheelWork.trans ?_ (.of_frame (setRecog_frame _ _))
  refine WheelWork.trans ?_ (.of_frame (setWindow_frame _ _))
  exact .ite (unload_work _ s) (.of_frame (setTrailer_frame _ s))

theorem disconnectTrailer_vdm {s : State} (hawake : s.osc.state ≠ .dormant) : (disconnectTrailer s).vdm = s.vdm := by
  by_cases h : s.trailer = .none
  · rw [disconnectTrailer_of_none h]
  · rw [disconnectTrailer_of_trailer h, (settleProposal_frame _).vdm,
      sessionTrailerLost_vdm (by rwa [(trailerGone_work s).osc_state]), (trailerGone_frame s).vdm]

theorem setConnected_vdm {code : Nat} {s : State} (hawake : s.osc.state ≠ .dormant) :
    (setConnected code s).vdm =
      { s.vdm with connected := if code = 1 then true else if code = 0 then false else s.vdm.connected } := by
  unfold setConnected
  by_cases h1 : code = 1 ∧ s.vdm.connected = false
  · rw [if_pos h1, (connectTrailer_frame _).vdm, if_pos h1.1]
    rfl
  · rw [if_neg h1]
    by_cases h0 : code = 0 ∧ s.vdm.connected = true
    · rw [if_pos h0, disconnectTrailer_vdm (s := s.setVdm { s.vdm with connected := false }) hawake, h0.1]
      rfl
    · rw [if_neg h0]
      have hsame : (if code = 1 then true else if code = 0 then false else s.vdm.connected) = s.vdm.connected := by
        split_ifs with h h' <;> simp_all
      rw [hsame]

theorem setLift_vdm (mask : BitVec 8) (s : State) : (setLift mask s).vdm = { s.vdm with liftMask := mask } :=
  (liftChange_frame _ _).vdm

/-! ### The whole frame -/

theorem frameSeen_vdm (s : State) : (frameSeen s).vdm =
    { s.vdm with status := .present, frameDeadline := some (s.now + s.setting .vehicleDataTimeoutMs) } := by
  unfold frameSeen
  dsimp only
  split <;> rfl

theorem frameSeen_awake {s : State} (hawake : s.osc.state ≠ .dormant) : (frameSeen s).osc.state ≠ .dormant := by
  rwa [(frameSeen_frame s).osc]

theorem reportLoad_awake {u : UnitName} {rep : LoadReport} {s : State} (hawake : s.osc.state ≠ .dormant) :
    (reportLoad u rep s).osc.state ≠ .dormant := by
  rwa [(reportLoad_work u rep s).osc_state]

/-- The vehicle data after a frame of eight bytes. -/
def vehicleDataAfter (data : List Byte) (s : State) : VehicleData :=
  { status := .present, frameDeadline := some (s.now + s.setting .vehicleDataTimeoutMs), speed := speedOf (natAt data 0)
    truck := loadAfterReport s s.vdm.truck (loadReportOf (natAt data 1))
    trailer := loadAfterReport s s.vdm.trailer (loadReportOf (natAt data 2))
    connected := if natAt data 3 = 1 then true else if natAt data 3 = 0 then false else s.vdm.connected
    liftMask := byteAt data 4, ambient := ambientFrom s.vdm.ambient (natAt2 data 5) }

theorem takeVehicleData_vdm {data : List Byte} {s : State} (hawake : s.osc.state ≠ .dormant) :
    (takeVehicleData data s).vdm = vehicleDataAfter data s := by
  let a := setSpeed (speedOf (natAt data 0)) (frameSeen s)
  let b := reportLoad .truck (loadReportOf (natAt data 1)) a
  let c := reportLoad .trailer (loadReportOf (natAt data 2)) b
  let d := setConnected (natAt data 3) c
  let e := setLift (byteAt data 4) d
  have ha : Frame endFields s a := ((frameSeen_frame s).mono (by decide)).trans (setSpeed_frame _ _)
  have hb : Frame endFields s b := ha.trans ((reportLoad_frame _ _ _).mono (by decide))
  have hawakea : a.osc.state ≠ .dormant := setSpeed_awake (frameSeen_awake hawake)
  have hawakec : c.osc.state ≠ .dormant := reportLoad_awake (reportLoad_awake hawakea)
  have hva : a.vdm = _ := setSpeed_vdm (frameSeen_awake hawake)
  have hvb : b.vdm = _ := reportLoad_vdm .truck (loadReportOf (natAt data 1)) a
  have hvc : c.vdm = _ := reportLoad_vdm .trailer (loadReportOf (natAt data 2)) b
  have hvd : d.vdm = _ := setConnected_vdm hawakec
  have hve : e.vdm = _ := setLift_vdm (byteAt data 4) d
  have hlast : (takeVehicleData data s).vdm = { e.vdm with ambient := ambientFrom e.vdm.ambient (natAt2 data 5) } :=
    (notice_frame _ _).vdm
  rw [loadAfterReport_congr hb.now hb.setting] at hvc
  rw [loadAfterReport_congr ha.now ha.setting] at hvb
  rw [frameSeen_vdm] at hva
  simp only [hlast, hve, hvd, hvc, hvb, hva, unitLoad, withUnit, vehicleDataAfter]

/-! ### Frames received, and the search (R163 to R165) -/

theorem exec_frame_of_length {f : BusFrame} (h : f.data.length ≤ 8) {s : State} (hrun : s.phase = .running) :
    exec (.requestFrame f) s = .next (frameArrives f s) ∧ exec (.vehicleDataFrame f) s = .next (frameArrives f s) :=
  ⟨(receiveFrame_of_length h s).trans (whileRunning_running hrun _), (receiveFrame_of_length h s).trans (whileRunning_running hrun _)⟩

theorem frameUse_of_other {l : LinkSettings} {f : BusFrame}
    (h : f.remote = true ∨ ∀ n, f.id = .standard n → n ≠ l.vehicleId ∧ n ≠ l.nodeBase + 8) : frameUse l f = .ignored := by
  rcases h with h | h
  · exact frameUse_remote l f h
  · unfold frameUse
    split
    case h_1 n hn =>
      obtain ⟨hvehicle, hrequest⟩ := h n hn
      simp only [if_neg hvehicle]
      split
      · rfl
      · exact if_neg hrequest
    case h_2 => rfl

theorem frameArrives_of_request {s : State} {data : List Byte} (h : s.tables.link.vehicleId ≠ s.tables.link.nodeBase + 8) :
    frameArrives (.withId (s.tables.link.nodeBase + 8) data) s = requestArrives data (fixRate s) := by
  have huse : frameUse s.tables.link (.withId (s.tables.link.nodeBase + 8) data) = .request :=
    frameUse_requestId _ _ h.symm
  simp only [frameArrives, huse]
  rfl

theorem frameArrives_of_vehicleData (s : State) (data : List Byte) :
    frameArrives (.withId s.tables.link.vehicleId data) s = vehicleFrame data (fixRate s) := by
  simp only [frameArrives, frameUse_vehicleId]
  rfl

theorem heardBy_requests (l : Link) : (heardBy l).requests = l.requests := by
  unfold heardBy
  split <;> rfl

/-- Settles O48: each use of an identifier, and the rate that goes round. -/
theorem framesReceivedAndSearch : Obligations.FramesReceivedAndSearch := by
  intro s hrun
  refine ⟨fun data hlen hid => ?request, fun f hlen hother => ?other, fun f => rfl, fun data hlen hawake => ?vehicle, ?heard,
    fun d hsearching hd hdue => ?search⟩
  case request =>
    have hlen' : (BusFrame.withId (s.tables.link.nodeBase + 8) data).data.length ≤ 8 := hlen
    rw [(exec_frame_of_length hlen' hrun).1, frameArrives_of_request hid, fixRate_eq, requestArrives]
    simp only [heardBy_requests]
    exact ⟨fun hroom => congrArg Host.Outcome.next (if_pos hroom),
      fun hfull => congrArg Host.Outcome.next (if_neg (Nat.not_lt.2 hfull))⟩
  case other =>
    have harrives : frameArrives f s = fixRate s := by simp only [frameArrives, frameUse_of_other hother]
    rw [(exec_frame_of_length hlen hrun).1, harrives, fixRate_eq]
  case vehicle =>
    have hlen' : (BusFrame.withId s.tables.link.vehicleId data).data.length ≤ 8 := hlen.le
    have htaken : vehicleFrame data (fixRate s) = takeVehicleData data (fixRate s) := by
      have hosc : (fixRate s).osc = s.osc := (fixRate_frame s).osc
      exact if_neg (by simp [hosc, hawake, hlen])
    have hvdm : (takeVehicleData data (fixRate s)).vdm = vehicleDataAfter data (fixRate s) :=
      takeVehicleData_vdm (by rwa [(fixRate_frame s).osc])
    refine ⟨takeVehicleData data (fixRate s), ?_, ?_⟩
    · rw [(exec_frame_of_length hlen' hrun).2, frameArrives_of_vehicleData, htaken]
    · rw [hvdm, vehicleDataAfter, (fixRate_frame s).now, (fixRate_frame s).setting]
      exact ⟨rfl, rfl, rfl, rfl⟩
  case heard =>
    rw [← fixRate_eq]
    exact whileRunning_running hrun _
  case search =>
    have hexec : exec .searchDeadlineExpiry s = .next (searchExpiry s) := whileRunning_running hrun _
    rw [hexec, searchExpiry, if_pos ⟨hsearching, hd ▸ due_of_le hdue⟩]
    rfl

end Sys2Proof.Machine
end

section
/-! What a step can do, said once: the acts of the owners of requests, each with the checks that let it pass. -/

namespace Sys2Proof.Machine

set_option Elab.async false

/-! ### The acts of the owners (section 10) -/

/-- What the owner of a request that it answers does to the part `b`, under the checks that it has passed. -/
inductive Act (b : State) : State → Prop
  | nothing : Act b b
  | setting (k : Setting) (v : Nat) :
    Act b (settingEffect b k (writeTables
      { b.tables with settings := raiseMissing k (b.tables.settings.set k.item (k.clamp v)) } b))
  | link (l : LinkSettings) : nodeBaseLegal l.nodeBase.toNat = true → identifierTaken l.nodeBase.toNat l.vehicleId.toNat = false →
    Act b (writeTables { b.tables with link := l } b)
  | guard (level : GuardLevel) : Act b (requestSave (writeTables { b.tables with guardLevel := level } b))
  | freeze : Act b (endSession .frozen (b.setMgu { b.mgu with frozen := true }))
  | offline : b.enc.session = none → Act b (enterState .offline b)
  | active : b.osc.state = .offline → Act b (settleProposal (enterState (stateByIgnition b) (restartRows allRows b)))
  | save : b.store.state = .idle → Act b (startSave b)
  | axle (a : Fin 5) (rec : AxleRecord) : b.osc.state = .offline → Act b (writeAxle a rec b).state
  | writeRow (r : Row) (id : SensorId) : b.enc.session = none → rowAbsent b r = false → isSensor id = true →
    rowUsable b r = true → heldElsewhereRow b r id = false → Act b (changeRow r (some id) b)
  | clearRow (r : Row) : b.enc.session = none → rowAbsent b r = false → Act b (changeRow r none b)
  | tag (k : EntryNo) (tag : BitVec 16) : tag ≠ 0 → (∀ j : EntryNo, j ≠ k → b.tables.roster[j].tag ≠ tag) →
    Act b (writeEntry k { b.tables.roster[k] with tag := tag } b)
  | entryAxle (k : EntryNo) (a : Fin 3) (rec : AxleRecord) : b.enc.session = none → b.tables.roster[k].tag ≠ 0 →
    Act b (axleFollows b k (writeEntry k
      (shedSlots b.tables.roster[k] { b.tables.roster[k] with axles := b.tables.roster[k].axles.set a rec }).1 b))
  | slot (k : EntryNo) (t : SlotNo) (id : Option SensorId) : b.enc.session = none → b.tables.roster[k].tag ≠ 0 →
    (∀ x, id = some x → isSensor x = true ∧ slotUsable b.tables.roster[k] t = true ∧ heldElsewhereSlot b k t x = false) →
    Act b (slotFollows b k t (dropCandidates id.toList
      (writeEntry k { b.tables.roster[k] with slots := b.tables.roster[k].slots.set t id } b)))
  | rosterClear (k : EntryNo) : b.enc.session = none → Act b (clearFollows k (writeEntry k .free b))
  | select (k : EntryNo) : b.trailer ≠ .none → sessionWalksTrailer b = false → b.tables.roster[k].tag ≠ 0 →
    Act b (selectTrailer k b)
  | limits (g : GroupNo) (load : LoadState) (asked : PressureLimits) : asked.lw ≤ 255 → asked.lc ≤ 255 → asked.hw ≤ 255 →
    Act b (let s := writeTables (withGroup g (b.tables.groups[g].withLimits load asked.legal) b.tables) b
      reevaluate ((groupRows s g).filter fun r => decide ((unitLoad s (unitOfRow r)).applied = load)) s)
  | temperatures (g : GroupNo) (asked : TempRequest) : asked.imbalance ≤ 255 → asked.leakWarn ≤ 255 → asked.hyst ≤ 31 →
    Act b (let s := writeTables (withGroup g { b.tables.groups[g] with temp := asked.legal } b.tables) b
      reevaluate (groupRows s g) s)
  | announce (a : Announce) : a.minimum ≠ .none → maskLegal a.exclude = true →
    Act b (forRows reannounce allRows (writeTables { b.tables with announce := a } b))
  | order (start : Nat) (rows : List Row) : b.enc.session = none → start + rows.length ≤ 32 →
    Act b (b.setEnc { b.enc with walk := b.enc.walk.take start ++ rows })
  | start (allowMove : Bool) : b.osc.state = .active → b.enc.session = none → walkFault b = none → Act b (openSession allowMove b)
  | cancel : Act b (endSession .cancelled b)
  | accept (r : Row) (id : SensorId) : isSensor id = true → b.enc.proposal = some (r, id) → Act b (acceptProposal r id b)
  | reject (r : Row) (id : SensorId) : b.enc.proposal = some (r, id) → Act b (rejectProposal r id b)
  | laneFlags (mask : Nat) : Act b (clearLaneFlags mask b)
  | event : Act b (b.setEvq (takeEvent b.evq))
  | snapshot : Act b (b.setLink { b.link with snapshots := openSnapshot b.link.snapshots })

/-- What a request leaves that is not answered at once: a restart, or a restart or an exit into OFFLINE that waits for the save. -/
inductive Deferral (b : State) : State → Prop
  | restart : saveInFlight b = false → Deferral b (warmReset b)
  | restartLater (tag : Byte) : saveInFlight b = true → Deferral b (b.setMgu { b.mgu with deferredRestart := some tag })
  | offlineLater (tag : Byte) : saveInFlight b = true → b.osc.deferredOffline = none → b.osc.state ≠ .starting →
    Deferral b (b.setOsc { b.osc with deferredOffline := some tag })

/-- What an owner makes of a request. -/
inductive Owned (b : State) : Served → Prop
  | answers {u : State} (result : ResultCode) (bytes : List Byte) : Act b u → Owned b (answered result bytes u)
  | defers {u : State} : Deferral b u → Owned b (unanswered u)

namespace Owned

variable {b : State}

theorem reads (result : ResultCode) (bytes : List Byte) : Owned b (answered result bytes b) := .answers result bytes .nothing

theorem refuses (result : ResultCode) : Owned b (refuse result b) := reads result []

theorem ite {p : Prop} [Decidable p] {x y : Served} (h : p → Owned b x) (k : ¬ p → Owned b y) : Owned b (if p then x else y) := by
  split
  · exact h ‹_›
  · exact k ‹_›

/-- A write that leaves the part as it is where it would change nothing. -/
theorem writes {p : Prop} [Decidable p] {u : State} (result : ResultCode) (bytes : List Byte) (h : Act b u) :
    Owned b (answered result bytes (if p then b else u)) := by
  split
  · exact reads result bytes
  · exact .answers result bytes h

end Owned

/-! ### The owners, one by one -/

section
variable (data : List Byte) (b : State)

theorem readPartStatus_owned : Owned b (readPartStatus data b) := by
  unfold readPartStatus
  split
  · exact .reads _ _
  · exact .reads _ _
  · exact .reads _ _
  · exact .refuses _

theorem restartRequest_owned : Owned b (restartRequest data b) :=
  .ite (fun _ => .refuses _) fun _ => .ite (fun h => .ite (fun _ => .refuses _) fun _ => .defers (.restartLater _ h))
    fun h => .defers (.restart (by simpa using h))

theorem setSetting_owned : Owned b (setSetting data b) := by
  unfold setSetting
  split
  · exact .refuses _
  · exact .ite (fun _ => .refuses _) fun _ => .writes _ _ (.setting _ _)

theorem readSetting_owned : Owned b (readSetting data b) := by
  unfold readSetting
  split
  · exact .refuses _
  · exact .reads _ _

theorem setLinkSettings_owned : Owned b (setLinkSettings data b) := by
  by_cases h3 : natAt data 6 ≤ 3
  case neg =>
    have hnone : bitRateOf (natAt data 6) = none := by rwa [← Option.not_isSome_iff_eq_none, bitRateOf_isSome_iff]
    simp only [setLinkSettings, hnone]
    exact .refuses _
  case pos =>
    obtain ⟨rate, hrate⟩ := Option.isSome_iff_exists.1 ((bitRateOf_isSome_iff _).2 h3)
    simp only [setLinkSettings, hrate]
    refine .ite (fun _ => .refuses _) fun hgood => .ite (fun _ => .refuses _) fun _ => ?_
    have hfields := (linkFields_iff _ _).1 (Bool.not_eq_true _ ▸ hgood)
    obtain ⟨hsixteen, hlow, hhigh, hid, hfree⟩ := hfields
    refine .writes _ _ (.link _ ?_ ?_) <;>
      simp only [BitVec.toNat_ofNat, Nat.mod_eq_of_lt (show natAt2 data 2 < 2 ^ 11 by omega),
        Nat.mod_eq_of_lt (show natAt2 data 4 < 2 ^ 11 by omega)]
    · simp [nodeBaseLegal, hsixteen, hlow, hhigh]
    · simpa [identifierTaken] using hfree

theorem setGuardLevel_owned : Owned b (setGuardLevel data b) := by
  unfold setGuardLevel
  split
  · exact .refuses _
  · exact .writes _ _ (.guard _)

theorem freezeTables_owned : Owned b (freezeTables data b) := .writes _ _ .freeze

theorem sessionOpen_eq_false {s : State} (h : ¬ sessionOpen s = true) : s.enc.session = none := by
  simpa [sessionOpen] using h

theorem goOffline_owned : Owned b (goOffline data b) :=
  .ite (fun _ => .refuses _) fun hs => .ite (fun _ => .reads _ _) fun _ => .ite (fun _ => .refuses _) fun hd =>
    .ite (fun _ => .refuses _) fun hclosed => .ite (fun h => .defers (.offlineLater _ h (by simpa using hd) hs))
      fun _ => .answers _ _ (.offline (sessionOpen_eq_false hclosed))

theorem goActive_owned : Owned b (goActive data b) :=
  .ite (fun _ => .refuses _) fun h => .answers _ _ (.active (not_not.1 h))

theorem saveRequest_owned : Owned b (saveRequest data b) :=
  .ite (fun _ => .refuses _) fun _ => .ite (fun _ => .refuses _) fun h =>
    .answers _ _ (.save (by simpa [saveInFlight] using h))

theorem writeAxle_answer (a : Fin 5) (rec : AxleRecord) :
    ∃ bytes, writeAxle a rec b = answered .ok bytes (writeAxle a rec b).state := by
  unfold writeAxle
  split
  · exact ⟨_, rfl⟩
  · exact ⟨_, rfl⟩

theorem setAxle_owned : Owned b (setAxle data b) := by
  unfold setAxle
  split
  · next a rec _ _ =>
    refine .ite (fun _ => .refuses _) fun h => ?_
    obtain ⟨bytes, hw⟩ := writeAxle_answer b a rec
    rw [hw]
    exact .answers _ _ (.axle a rec (not_not.1 h))
  · exact .refuses _

theorem readAxle_owned : Owned b (readAxle data b) := by
  unfold readAxle
  split
  · exact .reads _ _
  · exact .refuses _

theorem writeRow_owned : Owned b (writeRow data b) := by
  unfold writeRow
  split
  · exact .refuses _
  · next r _ =>
    refine .ite (fun _ => .refuses _) fun hid => .ite (fun _ => .refuses _) fun hclosed => .ite (fun _ => .refuses _) fun habsent =>
      .ite (fun _ => .refuses _) fun husable => .ite (fun _ => .refuses _) fun hfree => .writes _ _ ?_
    exact .writeRow r _ (sessionOpen_eq_false hclosed) (by simpa using habsent) (by simpa using hid) (by simpa using husable)
      (by simpa using hfree)

theorem clearRow_owned : Owned b (clearRow data b) := by
  unfold clearRow
  split
  · exact .refuses _
  · next r _ =>
    exact .ite (fun _ => .refuses _) fun hclosed => .ite (fun _ => .refuses _) fun habsent =>
      .writes _ _ (.clearRow r (sessionOpen_eq_false hclosed) (by simpa using habsent))

theorem readRow_owned : Owned b (readRow data b) := by
  unfold readRow
  split
  · exact .refuses _
  · exact .reads _ _

/-- The checks that every ROSTER_WRITE passes before its own. -/
theorem rosterWrite_owned {act : EntryNo → RosterItem → State → Served} (h : ∀ k item, b.enc.session = none → Owned b (act k item b)) :
    Owned b (rosterWrite data act b) := by
  unfold rosterWrite
  split
  · exact .ite (fun _ => .refuses _) fun hclosed => h _ _ (sessionOpen_eq_false hclosed)
  · exact .refuses _

theorem rosterWriteTag_owned : Owned b (rosterWriteTag data b) := by
  refine rosterWrite_owned data b fun k _ _ => .ite (fun _ => .refuses _) fun hzero => .ite (fun _ => .refuses _) fun hfree =>
    .writes _ _ (.tag k _ hzero fun j hj htag => hfree ?_)
  exact List.any_eq_true.2 ⟨j, List.mem_finRange j, Bool.and_eq_true_iff.2 ⟨decide_eq_true hj, decide_eq_true htag⟩⟩

theorem isFree_eq_false_iff (e : RosterEntry) : ¬ e.isFree = true ↔ e.tag ≠ 0 := by simp [RosterEntry.isFree]

theorem rosterWriteAxle_owned : Owned b (rosterWriteAxle data b) := by
  refine rosterWrite_owned data b fun k item hclosed => ?_
  split
  · next a rec _ =>
    exact .ite (fun _ => .refuses _) fun hfree => .ite (fun _ => .reads _ _) fun _ =>
      .answers _ _ (.entryAxle k a rec hclosed ((isFree_eq_false_iff _).1 hfree))
  · exact .refuses _

theorem rosterWriteSlot_owned : Owned b (rosterWriteSlot data b) := by
  refine rosterWrite_owned data b fun k item hclosed => ?_
  split
  · next t =>
    refine .ite (fun _ => .refuses _) fun htool => .ite (fun _ => .refuses _) fun hfree => .ite (fun _ => .refuses _) fun husable =>
      .ite (fun _ => .refuses _) fun helsewhere => .ite (fun _ => .reads _ _) fun _ =>
        .answers _ _ (.slot k t _ hclosed ((isFree_eq_false_iff _).1 hfree) fun x hx => ?_)
    by_cases hzero : idAt data 4 = 0
    · simp [hzero] at hx
    · rw [if_neg hzero] at hx husable helsewhere
      obtain rfl := Option.some.inj hx
      have hsensor : isSensor (idAt data 4) = true := Bool.and_eq_true_iff.2 ⟨decide_eq_true hzero, by simpa using htool⟩
      exact ⟨hsensor, by simpa using husable, by simpa using helsewhere⟩
  · exact .refuses _

theorem rosterRead_owned : Owned b (rosterRead data b) := by
  unfold rosterRead
  split
  · exact .reads _ _
  · exact .refuses _

theorem rosterClear_owned : Owned b (rosterClear data b) := by
  unfold rosterClear
  split
  · exact .refuses _
  · exact .ite (fun _ => .refuses _) fun hclosed => .writes _ _ (.rosterClear _ (sessionOpen_eq_false hclosed))

theorem trailerSelect_owned : Owned b (trailerSelect data b) := by
  unfold trailerSelect
  split
  · exact .refuses _
  · refine .ite (fun _ => .refuses _) fun h => .ite (fun _ => .refuses _) fun hfree => .answers _ _ ?_
    obtain ⟨htrailer, hwalk⟩ := not_or.1 h
    exact .select _ htrailer (by simpa using hwalk) ((isFree_eq_false_iff _).1 hfree)

theorem natAt_le (i : Nat) : natAt data i ≤ 255 := Nat.le_of_lt_succ (BitVec.isLt (byteAt data i))

theorem setLimitsP_owned : Owned b (setLimitsP data b) := by
  unfold setLimitsP
  dsimp only
  split
  · exact .refuses _
  · split
    · exact .writes _ _ (.limits _ _ _ (natAt_le data 5) (natAt_le data 6) (natAt_le data 7))
    · exact .refuses _

theorem setLimitsT_owned : Owned b (setLimitsT data b) :=
  .writes _ _ (.temperatures _ _ (natAt_le data 5) (natAt_le data 6)
    (Nat.le_of_lt_succ (Nat.mod_lt (natAt data 2) (by decide : 0 < 32))))

theorem readLimits_owned : Owned b (readLimits data b) := by
  unfold readLimits
  split
  · exact .refuses _
  · split
    · exact .refuses _
    · exact .reads _ _

theorem announceMinOf_ne_none {n : Nat} {v : Severity} (h : announceMinOf n = some v) : v ≠ .none := by
  unfold announceMinOf at h
  split at h <;> cases h <;> decide

theorem setAnnounce_owned : Owned b (setAnnounce data b) := by
  unfold setAnnounce
  dsimp only
  split
  · exact .refuses _
  · next hmin =>
    exact .ite (fun _ => .refuses _) fun hmask => .writes _ _ (.announce _ (announceMinOf_ne_none hmin) (by simpa using hmask))

theorem enrolOrder_owned : Owned b (enrolOrder data b) := by
  unfold enrolOrder
  dsimp only
  split
  · exact .refuses _
  · exact .ite (fun _ => .refuses _) fun hfits => .ite (fun _ => .refuses _) fun hclosed =>
      .answers _ _ (.order _ _ (sessionOpen_eq_false hclosed) (by omega))

theorem enrolStart_owned : Owned b (enrolStart data b) := by
  refine .ite (fun _ => .reads _ _) fun _ => .ite (fun _ => .refuses _) fun h => ?_
  simp only [not_or, not_not] at h
  obtain ⟨hactive, hclosed, -⟩ := h
  split
  · exact .reads _ _
  · next hfault => exact .answers _ _ (.start _ hactive (sessionOpen_eq_false hclosed) hfault)

theorem enrolCancel_owned : Owned b (enrolCancel data b) :=
  .ite (fun _ => .answers _ _ .cancel) fun _ => .refuses _

theorem enrolStatus_owned : Owned b (enrolStatus data b) := by
  unfold enrolStatus
  split
  · exact .reads _ _
  · exact .reads _ _
  · exact .reads _ _
  · refine .ite (fun _ => .refuses _) fun _ => ?_
    split
    · exact .reads _ _
    · exact .reads _ _
  · exact .refuses _

theorem proposalAccept_owned : Owned b (proposalAccept data b) := by
  unfold proposalAccept
  dsimp only
  split
  · exact .refuses _
  · exact .ite (fun _ => .refuses _) fun hid => .ite (fun _ => .refuses _) fun h =>
      .answers _ _ (.accept _ _ (by simpa using hid) (not_not.1 h))

theorem proposalReject_owned : Owned b (proposalReject data b) := by
  unfold proposalReject
  dsimp only
  split
  · exact .refuses _
  · exact .ite (fun _ => .refuses _) fun h => .answers _ _ (.reject _ _ (not_not.1 h))

theorem readCandidate_owned : Owned b (readCandidate data b) := by
  refine .ite (fun _ => .refuses _) fun _ => ?_
  split
  · exact .reads _ _
  · exact .reads _ _

theorem clearLaneStatus_owned : Owned b (clearLaneStatus data b) :=
  .ite (fun _ => .refuses _) fun _ => .answers _ _ (.laneFlags _)

theorem eventTake_owned : Owned b (eventTake data b) := by
  unfold eventTake
  split
  · exact .answers _ _ .event
  · split
    · exact .reads _ _
    · exact .refuses _
  · split
    · exact .reads _ _
    · exact .refuses _
  · exact .refuses _

theorem snapshotRead_owned : Owned b (snapshotRead data b) := by
  unfold snapshotRead
  split
  · exact .refuses _
  · split
    · exact .reads _ _
    · exact .refuses _

end

end Sys2Proof.Machine
end

section
/-! What a bit can do to its lane, and what reception, transmission and the reports can do to the link: each said once, for all the commands
of the kind. -/

namespace Sys2Proof.Machine

set_option Elab.async false

/-! ### A lane that takes a bit (section 2) -/

/-- A bit moves its lane and may hand on a record; it neither enables nor disables a lane. -/
structure LaneMoved (s t : State) : Prop where
  frame : Frame [.lanes, .handed, .evq] s t
  enabled : ∀ l, (t.lane l).state = .disabled ↔ (s.lane l).state = .disabled
  handed : ∀ x ∈ t.handed, x ∈ s.handed ∨ x.id ≠ 0

namespace LaneMoved

variable {s : State}

theorem refl (s : State) : LaneMoved s s := ⟨.refl _ s, fun _ => .rfl, fun _ h => .inl h⟩

theorem putLane {l : LaneNo} {v : Lane} (hv : v.state ≠ .disabled) (hs : (s.lane l).state ≠ .disabled) :
    LaneMoved s (putLane l v s) := by
  refine ⟨(putLane_frame l v s).mono (by decide), fun m => ?_, fun x hx => .inl hx⟩
  rw [putLane_lane]
  split
  · next h =>
    subst h
    exact iff_of_false hv hs
  · exact .rfl

theorem raiseEvent {t : State} (h : LaneMoved s t) (kind : EventKind) (row : Option Row) (value : Option Nat) :
    LaneMoved s (raiseEvent kind row value t) :=
  ⟨h.frame.trans ((raiseEvent_frame _ _ _ t).mono (by decide)), h.enabled, h.handed⟩

end LaneMoved

theorem bitEffect_disabled (bit : Bool) : bitEffect .disabled bit = .notTaken := rfl

/-- A bit that has an effect meets a lane that listens. -/
theorem not_disabled_of_bitEffect {l : LaneState} {bit : Bool} {e : BitEffect} (h : bitEffect l bit = e) (he : e ≠ .notTaken) :
    l ≠ .disabled := by
  rintro rfl
  exact he (h.symm.trans (bitEffect_disabled bit))

theorem bitEffect_moves_ne_disabled {l state : LaneState} {bit : Bool} (h : bitEffect l bit = .moves state) :
    state ≠ .disabled := by
  unfold bitEffect at h
  split at h
  · cases h
  · dsimp only at h
    split_ifs at h
    cases h
    exact LaneState.noConfusion
  · split_ifs at h <;> cases h <;> exact LaneState.noConfusion
  · split_ifs at h
    cases h
    exact LaneState.noConfusion

theorem bitsNat_lt (bits : List Bool) : bitsNat bits < 2 ^ bits.length := by
  induction bits using List.reverseRecOn with
  | nil => simp [bitsNat]
  | append_singleton bits b ih =>
    have hb := b.toNat_lt
    rw [bitsNat_append, List.length_append, List.length_singleton, pow_succ]
    omega

theorem field_lt (bits : List Bool) (i n : Nat) : field bits i n < 2 ^ n :=
  (bitsNat_lt _).trans_le (Nat.pow_le_pow_right (by decide) (List.length_take_le _ _))

theorem finishBody_moved {l : LaneNo} {s : State} (body : List Bool) (rssi : Byte) (h : (s.lane l).state ≠ .disabled) :
    LaneMoved s (finishBody l body rssi s) := by
  have hhunt : LaneState.freshHunt ≠ .disabled := LaneState.noConfusion
  unfold finishBody
  dsimp only
  split
  · exact .putLane hhunt h
  · split
    · exact .putLane hhunt h
    · next hform =>
      have hid : (recordOf l rssi s.now body).id ≠ 0 := by
        have hzero : field body 0 32 ≠ 0 := by
          intro hz
          simp [malformedBody, hz] at hform
        intro hbad
        have hlt : field body 0 32 < 2 ^ 32 := field_lt body 0 32
        have hnat := congrArg BitVec.toNat hbad
        simp only [recordOf, BitVec.toNat_ofNat, Nat.mod_eq_of_lt hlt] at hnat
        exact hzero hnat
      obtain ⟨hframe, henabled, -⟩ := LaneMoved.putLane (v := { s.lane l with state := .freshHunt }) hhunt h
      refine ⟨hframe.trans ((setHanded_frame _ _).mono (by decide)), henabled, fun x hx => ?_⟩
      rcases List.mem_append.1 hx with hx | hx
      · exact .inl hx
      · exact .inr (List.mem_singleton.1 hx ▸ hid)

/-- Each of the six commands of a bit acts on one effect of the bit alone. -/
theorem syncMatch_moved (l : LaneNo) (bit : Bool) (level : BitVec 16) (s : State) : LaneMoved s (syncMatch l bit level s) := by
  unfold syncMatch
  split
  · next h => exact .putLane LaneState.noConfusion (not_disabled_of_bitEffect h BitEffect.noConfusion)
  · exact .refl s

theorem laneJam_moved (l : LaneNo) (bit : Bool) (s : State) : LaneMoved s (laneJam l bit s) := by
  unfold laneJam
  split
  · next h => exact (LaneMoved.putLane LaneState.noConfusion (not_disabled_of_bitEffect h BitEffect.noConfusion)).raiseEvent _ _ _
  · exact .refl s

theorem laneClear_moved (l : LaneNo) (bit : Bool) (s : State) : LaneMoved s (laneClear l bit s) := by
  unfold laneClear
  split
  · next h => exact (LaneMoved.putLane LaneState.noConfusion (not_disabled_of_bitEffect h BitEffect.noConfusion)).raiseEvent _ _ _
  · exact .refl s

theorem runViolation_moved (l : LaneNo) (bit : Bool) (s : State) : LaneMoved s (runViolation l bit s) := by
  unfold runViolation
  split
  · next h => exact .putLane LaneState.noConfusion (not_disabled_of_bitEffect h BitEffect.noConfusion)
  · exact .refl s

theorem telegramComplete_moved (l : LaneNo) (bit : Bool) (s : State) : LaneMoved s (telegramComplete l bit s) := by
  unfold telegramComplete
  split
  · next h => exact finishBody_moved _ _ (not_disabled_of_bitEffect h BitEffect.noConfusion)
  · exact .refl s

theorem bitTaken_moved (l : LaneNo) (bit : Bool) (s : State) : LaneMoved s (bitTaken l bit s) := by
  unfold bitTaken
  split
  · next h => exact .putLane (bitEffect_moves_ne_disabled h) (not_disabled_of_bitEffect h BitEffect.noConfusion)
  · exact .refl s

/-! ### The link at work (section 9) -/

/-- Reception, transmission and reports: the link alone moves, its law is kept, and its two periodic deadlines stay. -/
structure LinkMoved (s t : State) : Prop where
  frame : Frame [.link, .evq] s t
  reports : t.link.reportDeadline.isSome = s.link.reportDeadline.isSome
  partStatuses : t.link.partStatusDeadline.isSome = s.link.partStatusDeadline.isSome
  legal : LinkLegal s → LinkLegal t

namespace LinkMoved

variable {s t u : State}

theorem refl (s : State) : LinkMoved s s := ⟨.refl _ s, rfl, rfl, id⟩

theorem trans (h : LinkMoved s t) (k : LinkMoved t u) : LinkMoved s u :=
  ⟨h.frame.trans k.frame, k.reports.trans h.reports, k.partStatuses.trans h.partStatuses, fun hs => k.legal (h.legal hs)⟩

theorem ite {p : Prop} [Decidable p] (h : p → LinkMoved s t) (k : ¬ p → LinkMoved s u) : LinkMoved s (if p then t else u) := by
  split
  · exact h ‹_›
  · exact k ‹_›

theorem setLink {l : Link} (hreports : l.reportDeadline.isSome = s.link.reportDeadline.isSome)
    (hparts : l.partStatusDeadline.isSome = s.link.partStatusDeadline.isSome) (hlegal : LinkLegal s → LinkLegal (s.setLink l)) :
    LinkMoved s (s.setLink l) := ⟨(setLink_frame l s).mono (by decide), hreports, hparts, hlegal⟩

end LinkMoved

theorem fixRate_moved (s : State) : LinkMoved s (fixRate s) :=
  .ite (fun _ => .setLink rfl rfl fun ⟨h1, h2, h3, h4, _⟩ => ⟨h1, h2, h3, h4, fun _ => rfl⟩) fun _ => .refl s

theorem requestArrives_moved (data : List Byte) (s : State) : LinkMoved s (requestArrives data s) := by
  refine .ite (fun hroom => .setLink rfl rfl fun ⟨_, h⟩ => ⟨?_, h⟩) fun _ => .setLink rfl rfl id
  simp only [State.setLink_link, List.length_append, List.length_singleton]
  exact hroom

theorem searchExpiry_moved (s : State) : LinkMoved s (searchExpiry s) :=
  .ite (fun _ => .setLink rfl rfl id) fun _ => .refl s

theorem quietExpiry_moved (s : State) : LinkMoved s (quietExpiry s) :=
  .ite (fun _ => .setLink rfl rfl fun ⟨h1, h2, h3, h4, _⟩ => ⟨h1, h2, h3, h4, fun _ => rfl⟩) fun _ => .refl s

/-- The answers in the buffer. -/
def bufferedAnswers (l : Link) : Nat :=
  match l.buffer with
  | some { frame := .response _, .. } => 1
  | _ => 0

/-- The answers that wait for a save. -/
def deferredAnswers (c : Controller) : Nat := if c.deferredOffline.isSome then 1 else 0

theorem answersOutstanding_eq (s : State) :
    answersOutstanding s = s.link.responses.length + bufferedAnswers s.link + deferredAnswers s.osc := rfl

/-- A frame goes from the head of its class into an empty buffer; no answer is lost or made. -/
theorem unqueue_answers {s : State} {f : TxFrame} (hfree : s.link.buffer = none) (hnext : nextFrame s = some f) (id : BitVec 11)
    (bytes : List Byte) :
    (unqueue f s.link).responses.length + bufferedAnswers { unqueue f s.link with
      buffer := some { frame := f, identifier := id, data := bytes } } = s.link.responses.length + bufferedAnswers s.link := by
  have hmem := List.mem_of_find?_eq_some hnext
  cases f with
  | alert _ | status _ | partStatus _ => simp [unqueue, bufferedAnswers, hfree]
  | response r =>
    have hne : s.link.responses ≠ [] := by
      intro h
      simp [h] at hmem
    have hpos := List.length_pos_iff.2 hne
    simp only [unqueue, bufferedAnswers, List.length_tail, hfree]
    omega

theorem nodup_map_tail {α β : Type} {f : α → β} {l : List α} (h : (l.map f).Nodup) : (l.tail.map f).Nodup := by
  rw [List.map_tail]
  exact h.sublist (List.tail_sublist _)

theorem transmitStart_moved (s : State) : LinkMoved s (transmitStart s) := by
  refine .ite (fun h => ?_) fun _ => .refl s
  obtain ⟨hrunning, hfree⟩ := h
  have hfree : s.link.buffer = none := by simpa using hfree
  split
  · exact .refl s
  · next f hnext =>
    refine .setLink ?_ ?_ fun ⟨hrequests, hanswers, halerts, hstatuses, _⟩ => ⟨?_, ?_, ?_, ?_, fun _ => ?_⟩
    · cases f <;> rfl
    · cases f <;> rfl
    · cases f <;> exact hrequests
    · rw [answersOutstanding_eq] at hanswers ⊢
      have hkept := unqueue_answers hfree hnext (f.identifier s.tables.link.nodeBase) f.data
      simp only [State.setLink_link, State.setLink_osc] at hkept ⊢
      omega
    · cases f
      case alert => exact nodup_map_tail halerts
      all_goals exact halerts
    · cases f
      case status => exact nodup_map_tail hstatuses
      all_goals exact hstatuses
    · cases f <;> exact hrunning

/-- A frame that was in the buffer goes back to its class, or is given up; no answer is lost or made. -/
theorem requeue_legal {o : OpState} {a : Attempt} {l : Link} (hbuffer : l.buffer = none) :
    (requeue o a.frame l).requests = l.requests ∧ (requeue o a.frame l).buffer = none
      ∧ (requeue o a.frame l).responses.length = l.responses.length + bufferedAnswers { l with buffer := some a }
      ∧ ((l.alerts.map AlertFrame.row).Nodup → ((requeue o a.frame l).alerts.map AlertFrame.row).Nodup)
      ∧ ((l.statuses.map StatusFrame.row).Nodup → ((requeue o a.frame l).statuses.map StatusFrame.row).Nodup)
      ∧ (requeue o a.frame l).reportDeadline = l.reportDeadline ∧ (requeue o a.frame l).partStatusDeadline = l.partStatusDeadline
      ∧ (requeue o a.frame l).state = l.state := by
  obtain ⟨f, identifier, bytes⟩ := a
  cases f with
  | alert x =>
    simp only [requeue, bufferedAnswers]
    split
    · exact ⟨rfl, hbuffer, rfl, id, id, rfl, rfl, rfl⟩
    · next h =>
      refine ⟨rfl, hbuffer, rfl, fun hnodup => List.nodup_cons.2 ⟨fun hmem => h ?_, hnodup⟩, id, rfl, rfl, rfl⟩
      obtain ⟨y, hy, hrow⟩ := List.mem_map.1 hmem
      exact List.any_eq_true.2 ⟨y, hy, decide_eq_true hrow⟩
  | response x => exact ⟨rfl, hbuffer, rfl, id, id, rfl, rfl, rfl⟩
  | status x =>
    simp only [requeue, bufferedAnswers]
    split
    · exact ⟨rfl, hbuffer, rfl, id, id, rfl, rfl, rfl⟩
    · next h =>
      refine ⟨rfl, hbuffer, rfl, id, fun hnodup => List.nodup_cons.2 ⟨fun hmem => h ?_, hnodup⟩, rfl, rfl, rfl⟩
      obtain ⟨y, hy, hrow⟩ := List.mem_map.1 hmem
      exact Bool.or_eq_true_iff.2 (.inl (List.any_eq_true.2 ⟨y, hy, decide_eq_true hrow⟩))
  | partStatus x =>
    simp only [requeue, bufferedAnswers]
    split <;> exact ⟨rfl, hbuffer, rfl, id, id, rfl, rfl, rfl⟩

/-- The link after an attempt that did not succeed, with any count of failures. -/
theorem requeued_moved {s : State} {a : Attempt} (hbuffer : s.link.buffer = some a) (n : Nat) {l : Link}
    (hl : l = requeue s.osc.state a.frame { s.link with buffer := none, failures := n }) : LinkMoved s (s.setLink l) := by
  obtain ⟨hrequests, hfree, hanswers, halerts, hstatuses, hreport, hpart, -⟩ :=
    requeue_legal (o := s.osc.state) (a := a) (l := { s.link with buffer := none, failures := n }) rfl
  have hheld : bufferedAnswers { s.link with buffer := some a, failures := n } = bufferedAnswers s.link := by
    simp only [bufferedAnswers, hbuffer]
  rw [← hl] at hrequests hfree hanswers halerts hstatuses hreport hpart
  refine .setLink (by rw [hreport]) (by rw [hpart]) fun ⟨krequests, kanswers, kalerts, kstatuses, _⟩ =>
    ⟨?_, ?_, halerts kalerts, hstatuses kstatuses, fun h => ?_⟩
  · rw [State.setLink_link, hrequests]
    exact krequests
  · have hempty : bufferedAnswers l = 0 := by simp only [bufferedAnswers, hfree]
    have htotal : l.responses.length = s.link.responses.length + bufferedAnswers s.link :=
      hanswers.trans (congrArg (s.link.responses.length + ·) hheld)
    rw [answersOutstanding_eq] at kanswers ⊢
    simp only [State.setLink_link, State.setLink_osc]
    omega
  · rw [State.setLink_link, hfree] at h
    simp at h

theorem transmitDone_moved (how : AttemptEnd) (s : State) : LinkMoved s (transmitDone how s) := by
  unfold transmitDone
  split
  · exact .refl s
  · next a hbuffer =>
    dsimp only
    cases how with
    | sent =>
      refine .setLink rfl rfl fun ⟨hrequests, hanswers, halerts, hstatuses, _⟩ => ⟨hrequests, ?_, halerts, hstatuses, fun h => ?_⟩
      · rw [answersOutstanding_eq] at hanswers ⊢
        have hempty : bufferedAnswers (s.setLink { s.link with
            buffer := none, failures := 0, overrun := overrunAfter a.frame s.link.overrun }).link = 0 := rfl
        simp only [State.setLink_link, State.setLink_osc] at hempty ⊢
        omega
      · simp at h
    | arbitrationLost => exact requeued_moved hbuffer s.link.failures rfl
    | failed =>
      dsimp only
      have hback := requeued_moved hbuffer (s.link.failures + 1) rfl
      refine .ite (fun _ => hback) fun _ => ?_
      generalize hl : requeue s.osc.state a.frame { s.link with buffer := none, failures := s.link.failures + 1 } = l at hback
      have hfree : l.buffer = none := hl ▸ (requeue_legal rfl).2.1
      obtain ⟨hframe, hreports, hparts, hlegal⟩ := hback
      refine ⟨((setLink_frame _ s).mono (by decide)).trans ((raiseEvent_frame _ _ _ _).mono (by decide)), hreports, hparts, fun h => ?_⟩
      obtain ⟨hrequests, hanswers, halerts, hstatuses, -⟩ := hlegal h
      refine ⟨hrequests, hanswers, halerts, hstatuses, fun h => ?_⟩
      have hnone : l.buffer.isSome = true := h
      rw [hfree] at hnone
      simp at hnone

/-- The statuses of a report are one a row. -/
theorem reportedStatuses_nodup {s : State} {rows : List Row} {l : List StatusFrame} (h : (l.map StatusFrame.row).Nodup) :
    ((reportedStatuses s rows l).map StatusFrame.row).Nodup := by
  induction rows generalizing l with
  | nil => exact h
  | cons r rows ih => exact ih (replaceOrJoin_nodup StatusFrame.row (statusOf r (s.wheel r)) l h)

theorem reportExpiry_moved (s : State) : LinkMoved s (reportExpiry s) := by
  refine .ite (fun hdue => ?_) fun _ => .refl s
  have hset : s.link.reportDeadline.isSome = true := by
    cases h : s.link.reportDeadline with
    | none => simp [due, h] at hdue
    | some d => rfl
  have hqueued : ∃ l, (if (publish s).osc.state = .active then queueStatuses (publish s) else publish s) =
      s.setLink { (publish s).link with statuses := l }
      ∧ ((s.link.statuses.map StatusFrame.row).Nodup → (l.map StatusFrame.row).Nodup) := by
    split
    · rw [queueStatuses, putLink_forRows_queueStatus]
      exact ⟨_, rfl, reportedStatuses_nodup⟩
    · exact ⟨s.link.statuses, rfl, id⟩
  obtain ⟨l, hl, hnodup⟩ := hqueued
  dsimp only
  rw [hl]
  exact ⟨(setLink_frame _ s).mono (by decide), hset.symm, rfl,
    fun ⟨hrequests, hanswers, halerts, hstatuses, hbuffer⟩ => ⟨hrequests, hanswers, halerts, hnodup hstatuses, hbuffer⟩⟩

theorem partStatusExpiry_moved (s : State) : LinkMoved s (partStatusExpiry s) := by
  refine .ite (fun hdue => ?_) fun _ => .refl s
  have hset : s.link.partStatusDeadline.isSome = true := by
    cases h : s.link.partStatusDeadline with
    | none => simp [due, h] at hdue
    | some d => rfl
  exact ⟨(setLink_frame _ s).mono (by decide), rfl, hset.symm, id⟩

end Sys2Proof.Machine
end

section
/-! The effects of all commands, and of a millisecond: one relation for what a running part does and one for every step. The settlement
of O3. -/

namespace Sys2Proof.Machine

set_option Elab.async false

/-- What a command does while the part runs, under the conditions that it acts on. -/
inductive Work (s : State) : State → Prop
  | nothing : Work s s
  | ignition (on : Bool) : Work s (ignitionTo on s)
  | crankOn : Work s (crankAssert s)
  | crankOff : Work s (crankRelease s)
  | resume : Work s (resumeExpiry s)
  | saved (c : Tables) : s.store.captured = some c → s.store.state = .writing → Work s (completeSave c s)
  | loaded : s.osc.state = .starting → Work s (enterState (stateByIgnition s) s)
  | parks : s.osc.state = .active → Work s (parkDelayDone s)
  | sleeps : s.osc.state = .parkWatch → Work s (enterState .dormant s)
  | bit {t : State} : LaneMoved s t → Work s t
  | link {t : State} : LinkMoved s t → Work s t
  | record (x : TelegramRecord) (rest : List TelegramRecord) : x ∈ s.handed → rest.Sublist s.handed →
    Work s (acceptRecord x (s.setHanded rest))
  | window : s.trailer = .recognising → Work s
    (raiseEvent .trailerUnknown none none (((s.setTrailer .unknown).setWindow none).setRecog noRecog))
  | aged (keeps : Candidate → Bool) : Work s (settleProposal (s.setCandidates (s.candidates.filter keeps)))
  | stale (r : Row) : (s.wheel r).status = .live → Work s (goStale r s)
  | missing (r : Row) : holdsMissing (s.wheel r).status = true → Work s (goMissing r s)
  | repeats (r : Row) : Work s (alertRepeatExpiry r s)
  | due (r : Row) : Work s (search (putEpisode r { s.episode r with dueTaken := true } s))
  | stepTimeout : Work s (endSession .timedOut s)
  | vehicle (data : List Byte) : s.osc.state ≠ .dormant → data.length = 8 → Work s (takeVehicleData data (fixRate s))
  | frameTimeout : Work s (frameTimeout s)
  | settle (u : UnitName) (load : LoadState) : Work s (applyLoad u load s)
  | request {u : State} (code tag : Byte) (result : ResultCode) (bytes : List Byte) : mayTake s = true →
    Act (takeOff s) u → Work s (respond code tag result bytes u)
  | defers {u : State} : mayTake s = true → Deferral (takeOff s) u → Work s u

/-- What a command does. -/
inductive Effect (s : State) : State → Prop
  | works {t : State} : s.phase = .running → Work s t → Effect s t
  | stopped : Effect s s
  | lines (l : Lines) : s.phase ≠ .running ∨ (l.crank = s.lines.crank ∧ l.ignition = s.lines.ignition) → Effect s (s.setLines l)
  | cold : Effect s (coldReset s)
  | loss : Effect s ((clearVolatile (cutSave s)).setPhase .off)
  | asserted : s.phase = .running → Effect s (resetAssert s)
  | released : s.phase = .inReset → Effect s (enterStarting s.link s)

theorem Effect.of_whileRunning {f : State → State} {s t : State} (h : whileRunning f s = .next t) (k : Work s (f s)) :
    Effect s t := by
  by_cases hrun : s.phase = .running
  · rw [whileRunning_running hrun] at h
    cases h
    exact .works hrun k
  · rw [whileRunning_stopped hrun] at h
    cases h
    exact .stopped

namespace Work

variable {s t u : State}

/-- A guard that does not hold leaves the part as it is. -/
theorem guarded {p : Prop} [Decidable p] (h : p → Work s t) : Work s (if p then t else s) := by
  split
  · exact h ‹_›
  · exact .nothing

theorem served {isFor : List Byte → Bool} {act : List Byte → State → Served} (h : ∀ data, Owned (takeOff s) (act data (takeOff s))) :
    Work s (serve isFor act s) := by
  unfold serve
  split
  · exact .nothing
  · next data _ _ =>
    refine guarded fun hmay => ?_
    have hroom : mayTake s = true := (Bool.and_eq_true_iff.1 hmay).1
    have howned := h data
    generalize act data (takeOff s) = x at howned
    cases howned with
    | answers result bytes hact => exact .request _ _ result bytes hroom hact
    | defers hlater => exact .defers hroom hlater

theorem servedRequest {code : Nat} {owner : List Byte → State → Served}
    (h : ∀ data, Owned (takeOff s) (owner data (takeOff s))) : Work s (serveRequest code owner s) :=
  served fun data => .ite (fun _ => h data) fun _ => .refuses _

theorem handed {lane : LaneNo} {isFor : State → TelegramRecord → Bool} : Work s (takeHanded lane isFor s) := by
  unfold takeHanded
  split
  · exact .nothing
  · next x hx => exact guarded fun _ => .record x _ (List.mem_of_find?_eq_some hx) List.eraseP_sublist

theorem frame (f : BusFrame) : Work s (frameArrives f s) := by
  unfold frameArrives
  split
  · unfold vehicleFrame
    split
    · exact .link (fixRate_moved s)
    · next h =>
      obtain ⟨hawake, hlen⟩ := not_or.1 h
      rw [(fixRate_frame s).osc] at hawake
      exact .vehicle _ hawake (not_not.1 hlen)
  · exact .link ((fixRate_moved s).trans (requestArrives_moved _ _))
  · exact .link (fixRate_moved s)

end Work

/-- Every command has one of the effects. -/
theorem exec_effect {i : Instr} {s t : State} (h : exec i s = .next t) : Effect s t := by
  cases i
  case coldReset => cases h; exact .cold
  case powerLoss => cases h; exact .loss
  case resetAssert =>
    by_cases hrun : s.phase = .running
    · cases (whileRunning_running hrun _).symm.trans h
      exact .asserted hrun
    · cases (whileRunning_stopped hrun _).symm.trans h
      exact .stopped
  case resetRelease =>
    by_cases hreset : s.phase = .inReset
    · cases (if_pos hreset).symm.trans h
      exact .released hreset
    · cases (if_neg hreset).symm.trans h
      exact .stopped
  case ignitionChange on =>
    by_cases hrun : s.phase = .running
    · cases (if_pos hrun).symm.trans h
      exact .works hrun (.ignition on)
    · cases (if_neg hrun).symm.trans h
      exact .lines _ (.inl hrun)
  case serviceChange asserted => cases h; exact .lines _ (.inr ⟨rfl, rfl⟩)
  case crankAssert =>
    by_cases hrun : s.phase = .running
    · cases (if_pos hrun).symm.trans h
      exact .works hrun .crankOn
    · cases (if_neg hrun).symm.trans h
      exact .lines _ (.inl hrun)
  case crankRelease =>
    by_cases hrun : s.phase = .running
    · cases (if_pos hrun).symm.trans h
      exact .works hrun .crankOff
    · cases (if_neg hrun).symm.trans h
      exact .lines _ (.inl hrun)
  case vehicleDataFrame f | requestFrame f =>
    by_cases hlen : maxDataLength < f.data.length
    · cases (if_pos hlen).symm.trans h
    · exact .of_whileRunning ((if_neg hlen).symm.trans h) (.frame f)
  all_goals refine .of_whileRunning h ?_
  case loadComplete => exact .guarded .loaded
  case syncMatch l bit level => exact .bit (syncMatch_moved l bit level s)
  case laneJam l bit => exact .bit (laneJam_moved l bit s)
  case laneClear l bit => exact .bit (laneClear_moved l bit s)
  case runViolation l bit => exact .bit (runViolation_moved l bit s)
  case telegramComplete l bit => exact .bit (telegramComplete_moved l bit s)
  case bitTaken l bit => exact .bit (bitTaken_moved l bit s)
  case telegramRecord | skip | back | abort => exact .handed
  case recognitionWindowExpiry => exact .guarded fun hw => .window hw.1
  case candidateAgeExpiry id => exact .aged _
  case staleExpiry r => exact .guarded fun hw => .stale r hw.1
  case missingExpiry r => exact .guarded fun hw => .missing r hw.1
  case alertRepeatExpiry r => exact .repeats r
  case rowDue r => exact .guarded fun _ => .due r
  case stepDeadlineExpiry => exact .guarded fun _ => .stepTimeout
  case frameTimeoutExpiry => exact .frameTimeout
  case settleExpiry u =>
    unfold settleExpiry
    split
    · exact .guarded fun _ => .settle u _
    · exact .nothing
  case parkDelayExpiry => exact .guarded fun hw => .parks hw.1
  case activityExpiry => exact .guarded fun hw => .sleeps hw.1
  case badFrame => exact .served fun _ => .refuses _
  case identify => exact .servedRequest fun _ => .reads _ _
  case readPartStatus => exact .servedRequest fun data => readPartStatus_owned data _
  case restart => exact .servedRequest fun data => restartRequest_owned data _
  case setSetting => exact .servedRequest fun data => setSetting_owned data _
  case readSetting => exact .servedRequest fun data => readSetting_owned data _
  case setLink => exact .servedRequest fun data => setLinkSettings_owned data _
  case setGuard => exact .servedRequest fun data => setGuardLevel_owned data _
  case freeze => exact .servedRequest fun data => freezeTables_owned data _
  case goOffline => exact .servedRequest fun data => goOffline_owned data _
  case goActive => exact .servedRequest fun data => goActive_owned data _
  case save => exact .servedRequest fun data => saveRequest_owned data _
  case resumeExpiry => exact .resume
  case saveComplete =>
    unfold saveComplete
    split
    · exact .nothing
    · next c hc => exact .guarded fun hw => .saved c hc hw.1
  case setAxle => exact .servedRequest fun data => setAxle_owned data _
  case readAxle => exact .servedRequest fun data => readAxle_owned data _
  case writeRow => exact .servedRequest fun data => writeRow_owned data _
  case clearRow => exact .servedRequest fun data => clearRow_owned data _
  case readRow => exact .servedRequest fun data => readRow_owned data _
  case rosterWriteTag => exact .served fun data => .ite (fun _ => rosterWriteTag_owned data _) fun _ => .refuses _
  case rosterWriteAxle => exact .served fun data => .ite (fun _ => rosterWriteAxle_owned data _) fun _ => .refuses _
  case rosterWriteSlot => exact .served fun data => .ite (fun _ => rosterWriteSlot_owned data _) fun _ => .refuses _
  case rosterRead => exact .servedRequest fun data => rosterRead_owned data _
  case rosterClear => exact .servedRequest fun data => rosterClear_owned data _
  case trailerSelect => exact .servedRequest fun data => trailerSelect_owned data _
  case setLimitsP => exact .servedRequest fun data => setLimitsP_owned data _
  case setLimitsT => exact .servedRequest fun data => setLimitsT_owned data _
  case readLimits => exact .servedRequest fun data => readLimits_owned data _
  case setAnnounce => exact .servedRequest fun data => setAnnounce_owned data _
  case enrolOrder => exact .servedRequest fun data => enrolOrder_owned data _
  case enrolStart => exact .servedRequest fun data => enrolStart_owned data _
  case enrolCancel => exact .servedRequest fun data => enrolCancel_owned data _
  case enrolStatus => exact .servedRequest fun data => enrolStatus_owned data _
  case proposalAccept => exact .servedRequest fun data => proposalAccept_owned data _
  case proposalReject => exact .servedRequest fun data => proposalReject_owned data _
  case readCandidate => exact .servedRequest fun data => readCandidate_owned data _
  case clearLaneStatus => exact .servedRequest fun data => clearLaneStatus_owned data _
  case eventTake => exact .servedRequest fun data => eventTake_owned data _
  case snapshotOpen => exact .servedRequest fun _ => .answers _ _ .snapshot
  case snapshotRead => exact .servedRequest fun data => snapshotRead_owned data _
  case searchDeadlineExpiry => exact .link (searchExpiry_moved s)
  case transmitStart => exact .link (transmitStart_moved s)
  case transmitDone how => exact .link (transmitDone_moved how s)
  case quietDeadlineExpiry => exact .link (quietExpiry_moved s)
  case reportExpiry => exact .link (reportExpiry_moved s)
  case partStatusExpiry => exact .link (partStatusExpiry_moved s)
  case otherFrameReceived => exact .link (fixRate_moved s)

end Sys2Proof.Machine
end

section
/-! What no command of a running part touches, the clock, the phase and the queue, with the law of the event queue: the settlement of O3,
and the first part of O55. -/

namespace Sys2Proof.Machine

set_option Elab.async false

/-- Every field but the clock, the phase and the queue of commands. -/
abbrev workFields : List Field :=
  [.lines, .image, .tables, .lanes, .handed, .trailer, .window, .recog, .candidates, .wheels, .enc, .episodes, .vdm, .osc, .evq, .store,
    .link, .mgu, .saves]

/-- What holds of every effect on a running part. -/
structure Standing (s t : State) : Prop where
  clock : t.clock = s.clock
  phase : t.phase = s.phase
  pending : t.pending = s.pending
  events : EventsLegal s → EventsLegal t

/-- Events that enter a queue leave it within its bounds (R152, R153). -/
theorem pushes_legal (es : List Event) {q : EventQueue}
    (h : q.records.length ≤ 64 ∧ (q.overflow = true → q.records ≠ [])) :
    (es.foldl (fun q e => pushEvent e q) q).records.length ≤ 64
      ∧ ((es.foldl (fun q e => pushEvent e q) q).overflow = true → (es.foldl (fun q e => pushEvent e q) q).records ≠ []) := by
  induction es generalizing q with
  | nil => exact h
  | cons e es ih => exact ih ⟨pushEvent_length_le e q h.1, fun _ => pushEvent_ne_nil e q⟩

theorem Frame.events {c : List Field} {s t : State} (h : Frame c s t) (hs : EventsLegal s) : EventsLegal t := by
  obtain ⟨es, hes⟩ := h.pushes
  unfold EventsLegal
  rw [hes]
  exact pushes_legal es hs

namespace Standing

variable {s t u : State}

theorem trans (h : Standing s t) (k : Standing t u) : Standing s u :=
  ⟨k.clock.trans h.clock, k.phase.trans h.phase, k.pending.trans h.pending, fun hs => k.events (h.events hs)⟩

theorem of_frame {c : List Field} (h : Frame c s t) (k : Field.clock ∉ c := by decide) (l : Field.phase ∉ c := by decide)
    (m : Field.pending ∉ c := by decide) : Standing s t := ⟨h.clock k, h.phase l, h.pending m, h.events⟩

theorem refl (s : State) : Standing s s := of_frame (.refl [] s)

end Standing

theorem takeEvent_legal {q : EventQueue} (h : q.records.length ≤ 64 ∧ (q.overflow = true → q.records ≠ [])) :
    (takeEvent q).records.length ≤ 64 ∧ ((takeEvent q).overflow = true → (takeEvent q).records ≠ []) := by
  obtain ⟨hlen, hover⟩ := h
  cases hrec : q.records with
  | nil => exact ⟨by simp [takeEvent, hrec], fun ho => absurd hrec (hover (by simpa [takeEvent, hrec] using ho))⟩
  | cons e rest =>
    rw [hrec, List.length_cons] at hlen
    simp only [takeEvent, hrec]
    exact ⟨Nat.le_of_succ_le hlen, fun ho hnil => by simp [hnil] at ho⟩

/-! ### The owners -/

theorem writeTables_frame (t : Tables) (s : State) : Frame [.tables, .store] s (writeTables t s) :=
  ((setTables_frame t s).mono (by decide)).trans ((markDirty_frame _).mono (by decide))

theorem relane_frame (s : State) : Frame [.lanes] s (relane s) := setLanes_frame _ s

theorem ageCandidates_frame (s : State) : Frame (.candidates :: searchFields) s (ageCandidates s) :=
  ((setCandidates_frame _ s).mono (by decide)).trans ((settleProposal_frame _).mono (by decide))

theorem settingEffect_frame (before : State) (k : Setting) (s : State) :
    Frame (.candidates :: endFields) s (settingEffect before k s) := by
  cases k
  case candidateAgeS => exact (ageCandidates_frame s).mono (by decide)
  case movingSpeedKmh => exact ((retime_frame before s).mono (by decide)).trans ((sessionMoved_frame _).mono (by decide))
  case proposalDelayS => exact (dueAfterWrite_frame before s).mono (by decide)
  case laneEnableMask | parkLane => exact (relane_frame s).mono (by decide)
  all_goals exact .refl _ s

theorem writeRows_frame (rows : List Row) (id : Option SensorId) (s : State) :
    Frame [.tables] s (forRows (fun r => writeRowId r id) rows s) := .forRows _ (fun r s => writeRowId_frame r id s) rows s

abbrev mapFields : List Field := .tables :: .candidates :: .store :: .saves :: trailerFields

theorem writeAxle_frame (a : Fin 5) (rec : AxleRecord) (s : State) : Frame mapFields s (writeAxle a rec s).state := by
  unfold writeAxle
  split
  · exact .refl _ s
  · refine Frame.trans ?_ ((settleProposal_frame _).mono (by decide))
    refine Frame.trans ?_ ((restartRows_frame _ _).mono (by decide))
    exact ((writeTables_frame _ s).mono (by decide)).trans ((writeRows_frame _ none _).mono (by decide))

theorem changeRow_frame (r : Row) (id : Option SensorId) (s : State) : Frame mapFields s (changeRow r id s) := by
  unfold changeRow
  refine Frame.trans ?_ ((settleProposal_frame _).mono (by decide))
  refine Frame.trans ?_ ((markDirty_frame _).mono (by decide))
  refine Frame.trans ?_ ((restartRows_frame _ _).mono (by decide))
  exact ((writeRowId_frame r id s).mono (by decide)).trans ((setCandidates_frame _ _).mono (by decide))

theorem writeEntry_frame (k : EntryNo) (e : RosterEntry) (s : State) : Frame [.tables, .store] s (writeEntry k e s) :=
  ((putEntry_frame k e s).mono (by decide)).trans ((markDirty_frame _).mono (by decide))

theorem axleFollows_frame (before : State) (k : EntryNo) (s : State) : Frame trailerFields s (axleFollows before k s) := by
  refine .ite ?_ (recheckEntry_frame before k s)
  refine Frame.trans ?_ ((settleProposal_frame _).mono (by decide))
  exact ((restartRows_frame _ s).mono (by decide)).trans ((liftChange_frame _ _).mono (by decide))

theorem slotFollows_frame (before : State) (k : EntryNo) (t : SlotNo) (s : State) : Frame trailerFields s (slotFollows before k t s) :=
  Frame.trans (t := ite _ (restartRows [slotRow t] s) (recheckEntry before k s))
    (.ite ((restartRows_frame _ s).mono (by decide)) (recheckEntry_frame before k s)) ((settleProposal_frame _).mono (by decide))

theorem clearFollows_frame (k : EntryNo) (s : State) : Frame trailerFields s (clearFollows k s) := by
  refine .ite ?_ (.ite ((setRecog_frame _ s).mono (by decide)) (.refl _ s))
  refine Frame.trans ?_ ((settleProposal_frame _).mono (by decide))
  exact (unload_frame .unknown s).trans ((raiseEvent_frame _ _ _ _).mono (by decide))

theorem selectTrailer_frame (k : EntryNo) (s : State) : Frame (trailerFields ++ endFields) s (selectTrailer k s) := by
  refine .ite (.refl _ s) ?_
  refine Frame.trans ?_ ((settleProposal_frame _).mono (by decide))
  refine Frame.trans ?_ ((identify_frame k _).mono (by decide))
  exact .ite (((unload_frame .unknown s).mono (by decide)).trans ((sessionTrailerLost_frame _).mono (by decide))) (.refl _ s)

theorem openSession_frame (allowMove : Bool) (s : State) : Frame searchFields s (openSession allowMove s) :=
  (withdraw_frame s).trans ((setEnc_frame _ _).mono (by decide))

theorem acceptProposal_frame (r : Row) (id : SensorId) (s : State) : Frame mapFields s (acceptProposal r id s) := by
  unfold acceptProposal
  refine Frame.trans ?_ ((search_frame _).mono (by decide))
  refine Frame.trans ?_ ((raiseEvent_frame _ _ _ _).mono (by decide))
  refine Frame.trans ?_ ((requestSave_frame _).mono (by decide))
  refine Frame.trans ?_ ((markDirty_frame _).mono (by decide))
  refine Frame.trans ?_ ((restartRows_frame _ _).mono (by decide))
  refine Frame.trans ?_ ((setCandidates_frame _ _).mono (by decide))
  exact ((setEnc_frame _ s).mono (by decide)).trans ((writeRowId_frame r _ _).mono (by decide))

theorem rejectProposal_frame (r : Row) (id : SensorId) (s : State) : Frame searchFields s (rejectProposal r id s) := by
  refine Frame.trans ?_ (search_frame _)
  refine Frame.trans ?_ ((raiseEvent_frame _ _ _ _).mono (by decide))
  exact ((setEnc_frame _ s).mono (by decide)).trans ((putEpisode_frame _ _ _).mono (by decide))

/-- An act enters events or takes one from the queue; it leaves the clock, the phase and the queue of commands. -/
theorem Act.standing {b u : State} (h : Act b u) : Standing b u := by
  cases h
  case nothing => exact .refl b
  case setting k v => exact .of_frame (((writeTables_frame _ b).mono (by decide : _ ⊆ workFields)).trans
    ((settingEffect_frame b k _).mono (by decide)))
  case link => exact .of_frame (writeTables_frame _ b)
  case guard => exact .of_frame (((writeTables_frame _ b).mono (by decide : _ ⊆ workFields)).trans
    ((requestSave_frame _).mono (by decide)))
  case freeze => exact .of_frame (((setMgu_frame _ b).mono (by decide : _ ⊆ workFields)).trans
    ((endSession_frame _ _).mono (by decide)))
  case offline => exact .of_frame (enterState_frame _ b)
  case active => exact .of_frame ((((restartRows_frame _ b).mono (by decide : _ ⊆ workFields)).trans
    ((enterState_frame _ _).mono (by decide))).trans ((settleProposal_frame _).mono (by decide)))
  case save => exact .of_frame (startSave_frame b)
  case axle a rec _ => exact .of_frame (writeAxle_frame a rec b)
  case writeRow r id _ _ _ _ _ => exact .of_frame (changeRow_frame r _ b)
  case clearRow r _ _ => exact .of_frame (changeRow_frame r none b)
  case tag k _ _ _ => exact .of_frame (writeEntry_frame k _ b)
  case entryAxle k a rec _ _ => exact .of_frame (((writeEntry_frame k _ b).mono (by decide : _ ⊆ workFields)).trans
    ((axleFollows_frame b k _).mono (by decide)))
  case slot k t id _ _ _ => exact .of_frame ((((writeEntry_frame k _ b).mono (by decide : _ ⊆ workFields)).trans
    ((setCandidates_frame _ _).mono (by decide))).trans ((slotFollows_frame b k t _).mono (by decide)))
  case rosterClear k _ => exact .of_frame (((writeEntry_frame k _ b).mono (by decide : _ ⊆ workFields)).trans
    ((clearFollows_frame k _).mono (by decide)))
  case select k _ _ _ => exact .of_frame (selectTrailer_frame k b)
  case limits => exact .of_frame (((writeTables_frame _ b).mono (by decide : _ ⊆ workFields)).trans
    ((reevaluate_frame _ _).mono (by decide)))
  case temperatures => exact .of_frame (((writeTables_frame _ b).mono (by decide : _ ⊆ workFields)).trans
    ((reevaluate_frame _ _).mono (by decide)))
  case announce => exact .of_frame (((writeTables_frame _ b).mono (by decide : _ ⊆ workFields)).trans
    ((reannounceRows_frame _ _).mono (by decide)))
  case order => exact .of_frame (setEnc_frame _ b)
  case start allowMove _ _ _ => exact .of_frame (openSession_frame allowMove b)
  case cancel => exact .of_frame (endSession_frame _ b)
  case accept r id _ _ => exact .of_frame (acceptProposal_frame r id b)
  case reject r id _ => exact .of_frame (rejectProposal_frame r id b)
  case laneFlags => exact .of_frame (setLanes_frame _ b)
  case event => exact ⟨rfl, rfl, rfl, takeEvent_legal⟩
  case snapshot => exact .of_frame (setLink_frame _ b)

/-! ### Resets -/

theorem reset_events (before : Link) (s : State) : EventsLegal (enterStarting before s) := by
  have h := enterStarting_restarting before s
  have hover : (enterStarting before s).evq.overflow = false := by
    rw [enterStarting_eq, (startingFrom_frame _ _).evq]
    by_cases hc : ∃ c, (warmCleared s).image = imageOf c
    · obtain ⟨c, hc⟩ := hc
      rw [loadTables_of_valid hc]
      rfl
    · rw [loadTables_of_invalid (not_exists.1 hc)]
      rfl
  refine ⟨?_, fun ho => ?_⟩
  · by_cases hc : ∃ c, s.image = imageOf c
    · obtain ⟨c, hc⟩ := hc
      rw [(h.loaded c hc).2.2]
      exact Nat.zero_le 64
    · rw [(h.notLoaded (not_exists.1 hc)).2.2]
      exact Nat.le_of_ble_eq_true rfl
  · rw [hover] at ho
    cases ho

theorem enterStarting_pending (before : Link) (s : State) : (enterStarting before s).pending = s.pending := by
  rw [enterStarting_eq, (startingFrom_frame _ _).pending, (loadTables_frame _).pending]
  rfl

/-- A reset of a running part that the line or the supply does not bring about. -/
theorem warmReset_standing {s : State} (hrun : s.phase = .running) : Standing s (warmReset s) :=
  have h := enterStarting_restarting s.link s
  ⟨h.clock, h.phase.trans hrun.symm, enterStarting_pending _ s, fun _ => reset_events _ s⟩

theorem Deferral.standing {b u : State} (h : Deferral b u) (hrun : b.phase = .running) : Standing b u := by
  cases h
  case restart => exact warmReset_standing hrun
  case restartLater => exact .of_frame (setMgu_frame _ b)
  case offlineLater => exact .of_frame (setOsc_frame _ b)

theorem takeDeferredRestart_standing {s : State} (hrun : s.phase = .running) : Standing s (takeDeferredRestart s) := by
  unfold takeDeferredRestart
  split
  · exact warmReset_standing hrun
  · exact .refl s

/-- The part when a save has completed and the next one, where the store was asked again, has begun. -/
def savedAgain (c : Tables) (s : State) : State :=
  if s.store.saveAgain = true then startSave (savedState c s) else savedState c s

theorem savedState_frame (c : Tables) (s : State) : Frame [.image, .store, .evq] s (savedState c s) := by
  have himage : Frame [.image, .store] s { s with
      image := imageOf c
      store := { s.store with
        state := .idle, captured := none, remaining := 0, resumeAt := none, saveAgain := false, invalid := false } } :=
    ((setImage_frame (imageOf c) s).mono (by decide)).trans ((setStore_frame _ _).mono (by decide))
  exact (himage.mono (by decide)).trans ((raiseEvent_frame .saveDone none none _).mono (by decide))

theorem savedAgain_frame (c : Tables) (s : State) : Frame [.image, .store, .evq, .saves] s (savedAgain c s) :=
  .ite (((savedState_frame c s).mono (by decide)).trans ((startSave_frame _).mono (by decide)))
    ((savedState_frame c s).mono (by decide))

theorem completeSave_standing {s : State} (c : Tables) (hrun : s.phase = .running) : Standing s (completeSave c s) := by
  have hsaved : Standing s (takeDeferredOffline (savedAgain c s)) :=
    (Standing.of_frame (savedAgain_frame c s)).trans (.of_frame (takeDeferredOffline_frame _))
  exact hsaved.trans (takeDeferredRestart_standing (hsaved.phase.trans hrun))

/-! ### All effects -/

theorem ignitionTo_frame (on : Bool) (s : State) : Frame (.lines :: modeFields) s (ignitionTo on s) := by
  refine .ite (.refl _ s) (Frame.trans ((setLines_frame { s.lines with ignition := on } s).mono (by decide)) ?_)
  dsimp only
  split
  · exact .ite ((parkDelayDone_frame _).mono (by decide)) ((setOsc_frame _ _).mono (by decide))
  · exact (setOsc_frame _ _).mono (by decide)
  · exact (enterState_frame _ _).mono (by decide)
  · exact (enterState_frame _ _).mono (by decide)
  · exact .refl _ _

theorem crankAssert_frame (s : State) : Frame [.lines, .store] s (crankAssert s) := by
  refine Frame.trans ((setLines_frame { s.lines with crank := true } s).mono (by decide)) ?_
  unfold crankAssert
  dsimp only
  split
  · exact (setStore_frame _ _).mono (by decide)
  · exact (setStore_frame _ _).mono (by decide)
  · exact .refl _ _
  · exact .refl _ _

theorem crankRelease_frame (s : State) : Frame [.lines, .store] s (crankRelease s) := by
  refine Frame.trans ((setLines_frame { s.lines with crank := false } s).mono (by decide)) ?_
  unfold crankRelease
  dsimp only
  split
  · exact (setStore_frame _ _).mono (by decide)
  all_goals exact .refl _ _

theorem resumeExpiry_frame (s : State) : Frame [.store] s (resumeExpiry s) := .ite (setStore_frame _ s) (.refl _ s)

theorem alertRepeatExpiry_frame (r : Row) (s : State) : Frame [.link, .wheels] s (alertRepeatExpiry r s) :=
  .ite (.ite (announceAlert_frame r s) ((putWheel_frame _ _ s).mono (by decide))) (.refl _ s)

theorem frameTimeout_frame (s : State) : Frame endFields s (frameTimeout s) := by
  refine .ite (Frame.trans ((setVdm_frame _ s).mono (by decide)) (.ite (.refl _ _) ?_)) (.refl _ s)
  refine Frame.trans ?_ ((reportLoad_frame _ _ _).mono (by decide))
  refine Frame.trans ?_ ((reportLoad_frame _ _ _).mono (by decide))
  exact ((raiseEvent_frame _ _ _ _).mono (by decide)).trans (setSpeed_frame _ _)

theorem Work.standing {s t : State} (h : Work s t) (hrun : s.phase = .running) : Standing s t := by
  cases h
  case nothing => exact .refl s
  case ignition on => exact .of_frame (ignitionTo_frame on s)
  case crankOn => exact .of_frame (crankAssert_frame s)
  case crankOff => exact .of_frame (crankRelease_frame s)
  case resume => exact .of_frame (resumeExpiry_frame s)
  case saved c _ _ => exact completeSave_standing c hrun
  case loaded | sleeps => exact .of_frame (enterState_frame _ s)
  case parks => exact .of_frame (parkDelayDone_frame s)
  case bit h => exact .of_frame h.frame
  case link h => exact .of_frame h.frame
  case record x rest _ _ => exact (Standing.of_frame (setHanded_frame rest s)).trans (.of_frame (acceptRecord_frame x _))
  case window =>
    exact (((Standing.of_frame (setTrailer_frame _ s)).trans (.of_frame (setWindow_frame _ _))).trans
      (.of_frame (setRecog_frame _ _))).trans (.of_frame (raiseEvent_frame _ _ _ _))
  case aged => exact (Standing.of_frame (setCandidates_frame _ s)).trans (.of_frame (settleProposal_frame _))
  case stale r _ => exact .of_frame (goStale_frame r s)
  case missing r _ => exact .of_frame (goMissing_frame r s)
  case repeats r => exact .of_frame (alertRepeatExpiry_frame r s)
  case due r => exact (Standing.of_frame (putEpisode_frame r _ s)).trans (.of_frame (search_frame _))
  case stepTimeout => exact .of_frame (endSession_frame _ s)
  case vehicle data _ _ => exact (Standing.of_frame (fixRate_frame s)).trans (.of_frame (takeVehicleData_frame data _))
  case frameTimeout => exact .of_frame (frameTimeout_frame s)
  case settle u load => exact .of_frame (applyLoad_frame u load s)
  case request code tag result bytes _ hact =>
    exact ((Standing.of_frame (takeOff_frame s)).trans hact.standing).trans (.of_frame (respond_frame _ _ _ _ _))
  case defers _ hlater =>
    exact (Standing.of_frame (takeOff_frame s)).trans (hlater.standing ((takeOff_frame s).phase.trans hrun))

theorem Effect.pending {s t : State} (h : Effect s t) : t.pending = s.pending := by
  cases h
  case works hrun hwork => exact (hwork.standing hrun).pending
  case stopped => rfl
  case lines => rfl
  case cold =>
    rw [coldReset_eq, (startingFrom_frame _ _).pending, (loadTables_frame _).pending]
    rfl
  case loss =>
    rw [clearVolatile_eq]
    exact (cutSave_frame s).pending
  case asserted =>
    rw [resetAssert, clearVolatile_eq]
    exact (cutSave_frame s).pending
  case released => exact enterStarting_pending _ s

/-! ### Every command completes -/

theorem whileRunning_completes (f : State → State) (s : State) : ∃ t, whileRunning f s = .next t := by
  by_cases h : s.phase = .running
  · exact ⟨f s, whileRunning_running h f⟩
  · exact ⟨s, whileRunning_stopped h f⟩

theorem exec_completes {c : Instr} (h : c.wellFormed = true) (s : State) : ∃ t, exec c s = .next t := by
  cases c
  case coldReset | powerLoss | serviceChange => exact ⟨_, rfl⟩
  case resetRelease | ignitionChange | crankAssert | crankRelease =>
    simp only [exec, execResetRelease, execIgnitionChange, execCrankAssert, execCrankRelease]
    split <;> exact ⟨_, rfl⟩
  case vehicleDataFrame f | requestFrame f =>
    obtain ⟨t, ht⟩ := whileRunning_completes (frameArrives f) s
    exact ⟨t, (receiveFrame_of_length (of_decide_eq_true h) s).trans ht⟩
  all_goals exact whileRunning_completes _ s

/-- Settles O3: every command completes but the two that can carry a field too long, and no effect touches the queue. -/
theorem everyCommandCompletes : Obligations.EveryCommandCompletes := by
  refine ⟨fun c s h => ?_, fun f s hlen => ⟨if_pos hlen, if_pos hlen⟩⟩
  obtain ⟨t, ht⟩ := exec_completes h s
  exact ⟨t, ht, (exec_effect ht).pending⟩

end Sys2Proof.Machine
end

section
/-! Five laws of the part, the link, the candidate list, the store, the operating state and the session, and what keeps them all: each shared
operation once, from the wheel records up to a whole telegram record. -/

namespace Sys2Proof.Machine

set_option Elab.async false

/-- What the operating state decides, whatever the phase. -/
abbrev ModeLaw (s : State) : Prop := LanesLegal s ∧ DeadlinesLegal s

/-- The link as the law of its queues sees it: nothing enters or leaves but frames of their own row. -/
structure LinkKept (s t : State) : Prop where
  requests : t.link.requests = s.link.requests
  responses : t.link.responses = s.link.responses
  buffer : t.link.buffer = s.link.buffer
  state : t.link.state = s.link.state
  deferred : t.osc.deferredOffline = s.osc.deferredOffline
  alerts : (s.link.alerts.map AlertFrame.row).Nodup → (t.link.alerts.map AlertFrame.row).Nodup
  statuses : (s.link.statuses.map StatusFrame.row).Nodup → (t.link.statuses.map StatusFrame.row).Nodup

namespace LinkKept

variable {s t u : State}

theorem refl (s : State) : LinkKept s s := ⟨rfl, rfl, rfl, rfl, rfl, id, id⟩

theorem trans (h : LinkKept s t) (k : LinkKept t u) : LinkKept s u :=
  ⟨k.requests.trans h.requests, k.responses.trans h.responses, k.buffer.trans h.buffer, k.state.trans h.state,
    k.deferred.trans h.deferred, fun hs => k.alerts (h.alerts hs), fun hs => k.statuses (h.statuses hs)⟩

theorem answers (h : LinkKept s t) : answersOutstanding t = answersOutstanding s := by
  simp only [answersOutstanding_eq, bufferedAnswers, deferredAnswers, h.responses, h.buffer, h.deferred]

theorem legal (h : LinkKept s t) (hs : LinkLegal s) : LinkLegal t := by
  obtain ⟨hrequests, hanswers, halerts, hstatuses, hbuffer⟩ := hs
  refine ⟨by rwa [h.requests], by rwa [h.answers], h.alerts halerts, h.statuses hstatuses, fun hb => ?_⟩
  rw [h.state]
  exact hbuffer (by rwa [← h.buffer])

theorem of_work (h : WheelWork s t) : LinkKept s t := by
  obtain ⟨l, hl, hnodup⟩ := h.link
  obtain ⟨a, ha, -⟩ := h.osc
  refine ⟨?_, ?_, ?_, ?_, by rw [ha], fun hs => ?_, fun hs => ?_⟩
  all_goals rw [hl]
  · exact hnodup hs
  · exact hs

end LinkKept

/-- The link, the candidate list, the store, the operating state and the session keep their laws. -/
structure Lawful (s t : State) : Prop where
  link : LinkKept s t
  phase : t.phase = s.phase
  candidates : CandidatesLegal s → CandidatesLegal t
  store : StoreLegal s → StoreLegal t
  mode : ModeLaw s → ModeLaw t
  session : SessionLegal s → SessionLegal t

/-- The law of saves reads the store, the CRANK line, the phase and the two deferred requests. -/
theorem storeLegal_congr {s t : State} (hstore : t.store = s.store) (hlines : t.lines = s.lines) (hphase : t.phase = s.phase)
    (hmgu : t.mgu = s.mgu) (hosc : t.osc.deferredOffline = s.osc.deferredOffline) (h : StoreLegal s) : StoreLegal t := by
  unfold StoreLegal saveInFlight at *
  rwa [hstore, hlines, hphase, hmgu, hosc]

theorem candidatesLegal_congr {s t : State} (h : t.candidates = s.candidates) (hs : CandidatesLegal s) : CandidatesLegal t := by
  unfold CandidatesLegal
  rwa [h]

theorem sessionLegal_congr {s t : State} (henc : t.enc = s.enc) (hphase : t.phase = s.phase) (hosc : t.osc.state = s.osc.state)
    (h : SessionLegal s) : SessionLegal t := by
  unfold SessionLegal SessionOpenLegal at *
  rwa [henc, hphase, hosc]

/-- Outside ACTIVE no session is open. -/
theorem SessionLegal.closed {s : State} (h : SessionLegal s) (hs : s.osc.state ≠ .active) : s.enc.session = none := by
  obtain ⟨-, -, -, hopen⟩ := h
  by_contra hne
  obtain ⟨i, hi⟩ := Option.ne_none_iff_exists'.1 hne
  exact hs (hopen i hi).2.1

/-- A closed session has no law but the bounds of its lists. -/
theorem sessionLegal_of_closed {s : State} (hwalk : s.enc.walk.length ≤ 32) (hsession : s.enc.session = none) (hpairs : s.enc.pairs = [])
    (hcopies : s.enc.copies = []) (hdeadline : s.enc.stepDeadline = none) : SessionLegal s :=
  ⟨hwalk, by rw [hcopies]; exact Nat.zero_le 4, fun _ => ⟨hpairs, hcopies, hdeadline⟩, fun i hi => by rw [hsession] at hi; cases hi⟩

theorem laneEnabled_congr {s t : State} (h : t.tables.settings = s.tables.settings) (o : OpState) (l : LaneNo) :
    laneEnabled t o l = laneEnabled s o l := by
  have hsetting : ∀ k, t.setting k = s.setting k := fun k => by simp only [State.setting, h]
  cases o <;> simp only [laneEnabled, hsetting]

/-- The deadlines of the mode, when the records, the controller and the link have had no more than work on wheels. -/
theorem modeLaw_of_work {s t : State} (h : WheelWork s t) (hlanes : t.lanes = s.lanes)
    (hsettings : t.tables.settings = s.tables.settings) (hsession : sessionOpen t = sessionOpen s)
    (hvdm : s.osc.state = .dormant → s.vdm.frameDeadline = none ∧ s.vdm.speed = none →
      t.vdm.frameDeadline = none ∧ t.vdm.speed = none) (hs : ModeLaw s) : ModeLaw t := by
  obtain ⟨hlane, hundated, hactivity, hdelay, hpending, hreport, hpart, hdormant⟩ := hs
  obtain ⟨l, hl, -⟩ := h.link
  obtain ⟨a, ha, hseen⟩ := h.osc
  have hstate := h.osc_state
  refine ⟨fun m => ?_, fun hne r => h.undated (hstate ▸ hne) r (hundated (hstate ▸ hne) r), ?_, ?_, ?_, ?_, ?_, fun hd => ?_⟩
  · rw [State.lane, hlanes, hstate, laneEnabled_congr hsettings]
    exact hlane m
  · rw [ha]
    rcases hseen with rfl | ⟨hpark, hset⟩
    · exact hactivity
    · exact iff_of_true hset hpark
  · rw [ha]
    exact hdelay
  · rw [ha, hsession]
    exact hpending
  · rw [hl, ha]
    exact hreport
  · rw [hl, ha]
    exact hpart
  · exact hvdm (hstate ▸ hd) (hdormant (hstate ▸ hd))

namespace Lawful

variable {s t u : State}

theorem refl (s : State) : Lawful s s := ⟨.refl s, rfl, id, id, id, id⟩

theorem trans (h : Lawful s t) (k : Lawful t u) : Lawful s u :=
  ⟨h.link.trans k.link, k.phase.trans h.phase, fun hs => k.candidates (h.candidates hs), fun hs => k.store (h.store hs),
    fun hs => k.mode (h.mode hs), fun hs => k.session (h.session hs)⟩

theorem ite {p : Prop} [Decidable p] (h : p → Lawful s t) (k : ¬ p → Lawful s u) : Lawful s (if p then t else u) := by
  split
  · exact h ‹_›
  · exact k ‹_›

theorem foldl {α : Type} (f : State → α → State) (h : ∀ s x, Lawful s (f s x)) (l : List α) (s : State) : Lawful s (l.foldl f s) := by
  induction l generalizing s with
  | nil => exact refl s
  | cons x l ih => exact (h s x).trans (ih _)

/-- Work on the wheel records, and on what no law but their own reads. -/
theorem of_work {c : List Field} (h : WheelWork s t) (hf : Frame c s t) (hsettings : t.tables.settings = s.tables.settings)
    (henc : t.enc = s.enc) (k₁ : Field.lanes ∉ c := by decide) (k₂ : Field.vdm ∉ c := by decide)
    (k₃ : Field.phase ∉ c := by decide) (k₄ : Field.candidates ∉ c := by decide) (k₅ : Field.store ∉ c := by decide)
    (k₆ : Field.lines ∉ c := by decide) (k₇ : Field.mgu ∉ c := by decide) : Lawful s t :=
  ⟨.of_work h, hf.phase k₃, candidatesLegal_congr (hf.candidates k₄),
    storeLegal_congr (hf.store k₅) (hf.lines k₆) (hf.phase k₃) (hf.mgu k₇) (LinkKept.of_work h).deferred,
    modeLaw_of_work h (hf.lanes k₁) hsettings (by simp only [sessionOpen, henc]) (fun _ hs => by rwa [hf.vdm k₂]),
    sessionLegal_congr henc (hf.phase k₃) h.osc_state⟩

/-- The commonest case: the frame spares the tables and the enrolment too. -/
theorem of_wheels {c : List Field} (h : WheelWork s t) (hf : Frame c s t) (k₀ : Field.tables ∉ c := by decide)
    (k₁ : Field.enc ∉ c := by decide) (k₂ : Field.lanes ∉ c := by decide) (k₃ : Field.vdm ∉ c := by decide)
    (k₄ : Field.phase ∉ c := by decide) (k₅ : Field.candidates ∉ c := by decide) (k₆ : Field.store ∉ c := by decide)
    (k₇ : Field.lines ∉ c := by decide) (k₈ : Field.mgu ∉ c := by decide) : Lawful s t :=
  .of_work h hf (by rw [hf.tables k₀]) (hf.enc k₁) k₂ k₃ k₄ k₅ k₆ k₇ k₈

theorem raiseEvent (kind : EventKind) (row : Option Row) (value : Option Nat) (s : State) :
    Lawful s (raiseEvent kind row value s) :=
  .of_wheels (.of_frame (raiseEvent_frame kind row value s)) (raiseEvent_frame kind row value s)

theorem putEpisode (r : Row) (e : Episode) (s : State) : Lawful s (putEpisode r e s) :=
  .of_wheels (.of_frame (putEpisode_frame r e s)) (putEpisode_frame r e s)

/-- A change of the enrolment that keeps a session open or closed, under the law of its own. -/
theorem setEnc {v : Enrolment} (hopen : v.session.isSome = s.enc.session.isSome) (h : SessionLegal s → SessionLegal (s.setEnc v)) :
    Lawful s (s.setEnc v) := by
  have hw : WheelWork s (s.setEnc v) := .of_frame (setEnc_frame v s)
  exact ⟨.of_work hw, rfl, id, id, modeLaw_of_work hw rfl rfl hopen (fun _ hs => hs), h⟩

/-- Vehicle data that a dormant part keeps without speed and timeout. -/
theorem setVdm {v : VehicleData} (h : s.osc.state = .dormant → s.vdm.frameDeadline = none ∧ s.vdm.speed = none →
    v.frameDeadline = none ∧ v.speed = none) : Lawful s (s.setVdm v) := by
  have hw : WheelWork s (s.setVdm v) := .of_frame (setVdm_frame v s)
  exact ⟨.of_work hw, rfl, id, id, modeLaw_of_work hw rfl rfl rfl h, id⟩

theorem setCandidates {v : List Candidate} (h : CandidatesLegal s → CandidatesLegal (s.setCandidates v)) :
    Lawful s (s.setCandidates v) := by
  have hw : WheelWork s (s.setCandidates v) := .of_frame (setCandidates_frame v s)
  exact ⟨.of_work hw, rfl, h, id, modeLaw_of_work hw rfl rfl rfl (fun _ hs => hs), id⟩

theorem setTables {v : Tables} (h : v.settings = s.tables.settings) : Lawful s (s.setTables v) :=
  .of_work (.of_frame (setTables_frame v s)) (setTables_frame v s) h rfl

theorem setStore {v : Store} (h : StoreLegal s → StoreLegal (s.setStore v)) : Lawful s (s.setStore v) := by
  have hw : WheelWork s (s.setStore v) := .of_frame (setStore_frame v s)
  exact ⟨.of_work hw, rfl, id, h, modeLaw_of_work hw rfl rfl rfl (fun _ hs => hs), id⟩

end Lawful

/-! ### Proposals and the search -/

/-- A search finds at most a proposal, and none beside an open session (R127). -/
theorem search_enc_of_open {s : State} (h : s.enc.session ≠ none) : search s = s := by
  refine if_neg fun hmay => ?_
  have hopen : sessionOpen s = true := (sessionOpen_iff s).2 h
  simp [maySearch, hopen] at hmay

/-- A proposal written or withdrawn beside a closed session. -/
theorem sessionLegal_of_proposal {s t : State} {p : Option (Row × SensorId)} (henc : t.enc = { s.enc with proposal := p })
    (hphase : t.phase = s.phase) (hosc : t.osc.state = s.osc.state) (hp : s.enc.session = none ∨ p = none) (h : SessionLegal s) :
    SessionLegal t := by
  obtain ⟨hwalk, hcopies, hclosed, hopen⟩ := h
  unfold SessionLegal SessionOpenLegal at *
  rw [henc]
  refine ⟨hwalk, hcopies, hclosed, fun i hi => ?_⟩
  obtain ⟨hrun, hactive, hin, hnodup, hdeadline, -, hrest⟩ := hopen i hi
  rcases hp with hp | rfl
  · rw [hp] at hi
    cases hi
  · exact ⟨hphase.trans hrun, hosc.trans hactive, hin, hnodup, hdeadline, rfl, hrest⟩

theorem Lawful.of_proposal {s t : State} {p : Option (Row × SensorId)} (hf : Frame searchFields s t)
    (henc : t.enc = { s.enc with proposal := p }) (hp : s.enc.session = none ∨ p = none) : Lawful s t := by
  have hw : WheelWork s t := .of_frame hf
  exact ⟨.of_work hw, hf.phase, candidatesLegal_congr hf.candidates, storeLegal_congr hf.store hf.lines hf.phase hf.mgu (by rw [hf.osc]),
    modeLaw_of_work hw hf.lanes (by rw [hf.tables]) (by simp only [sessionOpen, henc]) (fun _ hs => by rwa [hf.vdm]),
    sessionLegal_of_proposal henc hf.phase (by rw [hf.osc]) hp⟩

theorem search_lawful (s : State) : Lawful s (search s) := by
  by_cases h : s.enc.session = none
  · obtain ⟨p, hp⟩ := search_enc s
    exact .of_proposal (search_frame s) hp (.inl h)
  · rw [search_enc_of_open h]
    exact .refl s

theorem withdraw_enc (s : State) : (withdraw s).enc = { s.enc with proposal := none } := by
  unfold withdraw
  split
  · rfl
  · next h => rw [← h]

theorem withdraw_lawful (s : State) : Lawful s (withdraw s) := .of_proposal (withdraw_frame s) (withdraw_enc s) (.inr rfl)

theorem settleProposal_lawful (s : State) : Lawful s (settleProposal s) := by
  unfold settleProposal
  split
  · exact .ite (fun _ => .refl s) fun _ => (withdraw_lawful s).trans (search_lawful _)
  · exact .refl s

theorem dueAfterWrite_lawful (before s : State) : Lawful s (dueAfterWrite before s) := by
  unfold dueAfterWrite
  dsimp only
  have h : ∀ v, Lawful s (s.setEpisodes v) := fun v => .of_wheels (.of_frame (setEpisodes_frame v s)) (setEpisodes_frame v s)
  exact .ite (fun _ => h _) fun _ => (h _).trans (search_lawful _)

/-! ### A change of the operating state -/

theorem enterState_linkKept (n : OpState) (s : State) : LinkKept s (enterState n s) := by
  obtain ⟨hosc, -, -, -, hlink, -⟩ := enterState_entered n s
  unfold LinkEntered at hlink
  refine ⟨?_, ?_, ?_, ?_, by rw [hosc], fun hs => ?_, fun hs => ?_⟩
  all_goals rw [hlink]
  · exact hs
  · dsimp only
    split
    · exact .nil
    · exact hs

/-- A change of the operating state establishes what the state decides, whatever held before. -/
theorem enterState_modeLaw (n : OpState) (s : State) : ModeLaw (enterState n s) := by
  obtain ⟨hosc, -, hlanes, hwheels, hlink, hvdm, -⟩ := enterState_entered n s
  have hframe := enterState_frame n s
  unfold LinkEntered at hlink
  unfold DataEntered at hvdm
  have hstate : (enterState n s).osc.state = n := by rw [hosc]
  refine ⟨fun l => ?_, fun hn r => ?_, ?_, ?_, ?_, ?_, ?_, fun hn => ?_⟩
  · obtain ⟨-, hl⟩ := hlanes l
    rw [hl, hstate, laneEnabled_congr (by rw [hframe.tables])]
    split
    · next h => exact iff_of_true rfl h
    · next h =>
      refine iff_of_false ?_ h
      split
      · exact LaneState.noConfusion
      · assumption
  · rw [hstate] at hn
    have hr := hwheels r
    dsimp only [WheelEntered] at hr
    rw [hr]
    exact ⟨if_neg fun h => hn h.1, if_neg fun h => hn h.1⟩
  · rw [hosc]
    dsimp only
    split <;> simp_all
  · rw [hosc]
    simp
  · rw [hosc]
    simp
  · rw [hlink, hstate]
    dsimp only
    split <;> simp_all
  · rw [hlink, hstate]
    dsimp only
    split <;> simp_all
  · rw [hstate] at hn
    rw [hvdm, if_pos hn]
    exact ⟨rfl, rfl⟩

theorem enterState_lawful {n : OpState} {s : State} (h : SessionLegal s → s.enc.session = none) : Lawful s (enterState n s) := by
  have hframe := enterState_frame n s
  refine ⟨enterState_linkKept n s, hframe.phase, candidatesLegal_congr hframe.candidates,
    storeLegal_congr hframe.store hframe.lines hframe.phase hframe.mgu (enterState_linkKept n s).deferred,
    fun _ => enterState_modeLaw n s, fun hs => ?_⟩
  have hnone := h hs
  obtain ⟨hwalk, -, hclosed, -⟩ := hs
  obtain ⟨hpairs, hcopies, hdeadline⟩ := hclosed hnone
  exact sessionLegal_of_closed (by rwa [hframe.enc]) (by rw [hframe.enc, hnone]) (by rw [hframe.enc, hpairs]) (by rw [hframe.enc, hcopies])
    (by rw [hframe.enc, hdeadline])

/-- From a state outside ACTIVE the part may go anywhere. -/
theorem enterState_lawful_of_not_active {n : OpState} {s : State} (h : s.osc.state ≠ .active) : Lawful s (enterState n s) :=
  enterState_lawful fun hs => hs.closed h

/-- The controller changes nothing that the laws of the link and the store read. -/
theorem Lawful.setOsc {s : State} {v : Controller} (hdeferred : v.deferredOffline = s.osc.deferredOffline)
    (hstate : v.state = s.osc.state) (hmode : ModeLaw s → ModeLaw (s.setOsc v)) : Lawful s (s.setOsc v) :=
  ⟨⟨rfl, rfl, rfl, rfl, hdeferred, id, id⟩, rfl, id, storeLegal_congr rfl rfl rfl rfl hdeferred, hmode,
    sessionLegal_congr rfl rfl hstate⟩

theorem parkDelayDone_lawful {s : State} (h : s.osc.state = .active) : Lawful s (parkDelayDone s) := by
  cases hopen : sessionOpen s
  case true =>
    rw [parkDelayDone_of_open hopen]
    refine Lawful.setOsc (v := { s.osc with parkDelay := none, parkPending := true }) rfl rfl
      fun ⟨hlanes, hundated, hactivity, _, _, hreport, hpart, hdormant⟩ =>
        ⟨hlanes, hundated, hactivity, fun hd => ?_, fun _ => ⟨h, hopen⟩, hreport, hpart, hdormant⟩
    simp at hd
  case false =>
    have hgo : parkDelayDone s = enterState .parkWatch (s.setOsc { s.osc with parkDelay := none }) := by
      simp [parkDelayDone, sessionOpen] at *
      simp [hopen]
    rw [hgo]
    have hdelay : Lawful s (s.setOsc { s.osc with parkDelay := none }) :=
      .setOsc rfl rfl fun ⟨hlanes, hundated, hactivity, _, hpending, hreport, hpart, hdormant⟩ =>
        ⟨hlanes, hundated, hactivity, fun hd => by simp at hd, hpending, hreport, hpart, hdormant⟩
    exact hdelay.trans (enterState_lawful fun _ => by simpa [sessionOpen] using hopen)

/-! ### The end of a session -/

/-- OSC told that a session has closed: the law of park pending, which alone the closing breaks, is mended here (R145). -/
theorem sessionClosed_lawful {s c : State} (hw : WheelWork s c) (hf : Frame [.enc, .evq] s c) (hclosed : c.enc.session = none)
    (hlegal : SessionLegal s → SessionLegal c) : Lawful s (sessionClosed c) := by
  have hdeferred : c.osc.deferredOffline = s.osc.deferredOffline := by rw [hf.osc]
  by_cases hpark : c.osc.parkPending = true ∧ c.lines.ignition = false
  · rw [sessionClosed_of_parking hpark]
    let p := c.setOsc { c.osc with parkPending := false }
    obtain ⟨klink, kphase, kcandidates, kstore, -, ksession⟩ : Lawful p (enterState .parkWatch p) :=
      enterState_lawful fun _ => hclosed
    exact ⟨(LinkKept.of_work hw).trans ((⟨rfl, rfl, rfl, rfl, rfl, id, id⟩ : LinkKept c p).trans klink), kphase.trans hf.phase,
      fun hs => kcandidates (candidatesLegal_congr (t := p) hf.candidates hs),
      fun hs => kstore (storeLegal_congr (t := p) hf.store hf.lines hf.phase hf.mgu hdeferred hs), fun _ => enterState_modeLaw _ _,
      fun hs => ksession (sessionLegal_congr (t := p) rfl rfl rfl (hlegal hs))⟩
  · rw [sessionClosed_of_staying hpark]
    let p := c.setOsc { c.osc with parkPending := false }
    refine ⟨(LinkKept.of_work hw).trans (⟨rfl, rfl, rfl, rfl, rfl, id, id⟩ : LinkKept c p), hf.phase,
      candidatesLegal_congr (t := p) hf.candidates, storeLegal_congr (t := p) hf.store hf.lines hf.phase hf.mgu hdeferred, ?_,
      fun hs => sessionLegal_congr (t := p) rfl rfl rfl (hlegal hs)⟩
    rintro ⟨hlanes, hundated, hactivity, hdelay, -, hreport, hpart, hdormant⟩
    unfold ModeLaw LanesLegal DeadlinesLegal
    simp only [State.setOsc_osc, State.setOsc_lane, State.setOsc_wheel, State.setOsc_link, State.setOsc_vdm, hf.osc, hf.lane, hf.wheel,
      hf.link, hf.vdm]
    refine ⟨fun l => ?_, hundated, hactivity, hdelay, fun hp => absurd hp Bool.false_ne_true, hreport, hpart, hdormant⟩
    have hsettings : p.tables.settings = s.tables.settings := congrArg Tables.settings hf.tables
    exact laneEnabled_congr hsettings s.osc.state l ▸ hlanes l

theorem closing_lawful {s : State} {e : Enrolment} (kind : EventKind) (row : Option Row) (value : Option Nat)
    (hwalk : e.walk = s.enc.walk) (hsession : e.session = none) (hpairs : e.pairs = []) (hcopies : e.copies = [])
    (hdeadline : e.stepDeadline = none) : Lawful s (sessionClosed (raiseEvent kind row value (s.setEnc e))) := by
  have hraised := raiseEvent_frame kind row value (s.setEnc e)
  have henc : (raiseEvent kind row value (s.setEnc e)).enc = e := hraised.enc
  have hf : Frame [.enc, .evq] s (raiseEvent kind row value (s.setEnc e)) :=
    ((setEnc_frame e s).mono (by decide)).trans (hraised.mono (by decide))
  refine sessionClosed_lawful ((WheelWork.of_frame (setEnc_frame e s)).trans (.of_frame hraised)) hf (by rw [henc, hsession])
    fun hs => sessionLegal_of_closed ?_ (by rw [henc, hsession]) (by rw [henc, hpairs]) (by rw [henc, hcopies])
      (by rw [henc, hdeadline])
  rw [henc, hwalk]
  exact hs.1

theorem endSession_lawful (how : Ending) (s : State) : Lawful s (endSession how s) := by
  cases h : s.enc.session with
  | none => rw [endSession_of_closed how h]; exact .refl s
  | some i =>
    rw [endSession_eq h]
    have hclose : Lawful s (sessionClosed (withClosedEnc how i s)) :=
      closing_lawful (e := closedEnc s.enc how 0 0) .enrolEnded (stepRow s i) (some how.code) rfl rfl rfl rfl rfl
    exact hclose.trans (search_lawful _)

theorem sessionMoved_lawful (s : State) : Lawful s (sessionMoved s) := .ite (fun _ => endSession_lawful _ s) fun _ => .refl s

theorem sessionTrailerLost_lawful (s : State) : Lawful s (sessionTrailerLost s) :=
  .ite (fun _ => endSession_lawful _ s) fun _ => .refl s

end Sys2Proof.Machine
end

section
/-! The five laws through a completed session, an answer to a step, a tool's action and a whole telegram record. -/

namespace Sys2Proof.Machine

set_option Elab.async false

/-! ### Tables, saves and restarts -/

theorem restartRows_lawful (rows : List Row) (s : State) : Lawful s (restartRows rows s) :=
  .of_wheels (restartRows_work rows s) (restartRows_frame rows s)

theorem putEntry_lawful (k : EntryNo) (e : RosterEntry) (s : State) : Lawful s (putEntry k e s) := .setTables rfl

theorem writeRowId_lawful (r : Row) (id : Option SensorId) (s : State) : Lawful s (writeRowId r id s) := by
  unfold writeRowId
  split
  · exact .setTables rfl
  · split
    · exact putEntry_lawful _ _ s
    · exact .refl s

theorem writeRows_lawful (rows : List Row) (id : Option SensorId) (s : State) :
    Lawful s (forRows (fun r => writeRowId r id) rows s) := .foldl _ (fun s r => writeRowId_lawful r id s) rows s

theorem applyPairs_lawful (pairs : List EnrolPair) (s : State) : Lawful s (applyPairs pairs s) :=
  (writeRows_lawful (vacatedRows pairs) none s).trans (.foldl _ (fun s (p : EnrolPair) => writeRowId_lawful p.row (some p.id) s) pairs _)

/-- Candidates removed leave a shorter list of the same IDs. -/
theorem candidatesLegal_filter {s : State} (keeps : Candidate → Bool) (h : CandidatesLegal s) :
    CandidatesLegal (s.setCandidates (s.candidates.filter keeps)) :=
  ⟨(List.length_filter_le _ _).trans h.1, h.2.sublist (List.filter_sublist.map _)⟩

theorem dropCandidates_lawful (ids : List SensorId) (s : State) : Lawful s (dropCandidates ids s) :=
  .setCandidates (candidatesLegal_filter _)

theorem markDirty_lawful (s : State) : Lawful s (markDirty s) := .setStore id

/-- A save that begins meets the law of saves, whatever held before. -/
theorem begunStore_legal {s : State} (hrun : s.phase = .running) : StoreLegal (s.setStore (begunStore s)) := by
  have hstate : (begunStore s).state = if s.lines.crank then .suspended else .writing := rfl
  have hflight : saveInFlight (s.setStore (begunStore s)) = true := by
    rw [saveInFlight_iff, State.setStore_store, hstate]
    split <;> decide
  refine ⟨iff_of_true rfl hflight, fun h => ?_, fun h => ?_, ?_, (writeTimeOf_bounds _).2, fun _ => hflight,
    fun h => absurd hrun h⟩
  · rw [State.setStore_store, hstate] at h
    by_cases hc : s.lines.crank = true
    · simp [hc] at h
    · exact Bool.not_eq_true _ ▸ hc
  · rw [State.setStore_store, hstate] at h
    by_contra hc
    have hc' : s.lines.crank ≠ true := hc
    simp [hc'] at h
  · refine iff_of_false (by simp [begunStore]) fun h => ?_
    rw [State.setStore_store, hstate] at h
    split at h <;> cases h

theorem startSave_lawful {s : State} (hrun : s.phase = .running) : Lawful s (startSave s) := by
  have hstore : Lawful s (s.setStore (begunStore s)) := .setStore fun _ => begunStore_legal hrun
  exact hstore.trans (.of_wheels (.of_frame (setSaves_frame _ _)) (setSaves_frame (s.saves + 1) _))

theorem requestSave_lawful {s : State} (hrun : s.phase = .running) : Lawful s (requestSave s) := by
  by_cases hidle : s.store.state = .idle
  · rw [requestSave_of_idle hidle]
    exact startSave_lawful hrun
  · rw [requestSave_of_busy hidle]
    refine Lawful.setStore (v := { s.store with saveAgain := true }) fun ⟨hcaptured, hcrank, hsuspended, hresume, htime, _, hphase⟩ =>
      ⟨hcaptured, hcrank, hsuspended, hresume, htime, fun _ => ?_, hphase⟩
    exact (saveInFlight_iff _).2 hidle

/-! ### A session completed (R120 to R122) -/

theorem Lawful.through_enc {s c t : State} (hw : WheelWork s c) (hf : Frame [.enc, .evq] s c) (hopen : sessionOpen c = sessionOpen s)
    (h : Lawful c t) (hlegal : SessionLegal s → SessionLegal t) : Lawful s t :=
  ⟨(LinkKept.of_work hw).trans h.link, h.phase.trans hf.phase, fun hs => h.candidates (candidatesLegal_congr hf.candidates hs),
    fun hs => h.store (storeLegal_congr hf.store hf.lines hf.phase hf.mgu (by rw [hf.osc]) hs),
    fun hs => h.mode (modeLaw_of_work hw hf.lanes (by rw [hf.tables]) hopen (fun _ hv => by rwa [hf.vdm]) hs), hlegal⟩

/-- The rows whose IDs the pending list changes. -/
def pairsChange (s : State) : List Row := changedRows s (applyPairs s.enc.pairs s)

/-- How many pairs change their row. -/
def pairsApplied (s : State) : Nat := ((pairRows s.enc.pairs).filter fun r => decide (r ∈ pairsChange s)).length

/-- The tables with the pending list applied, the rows restarted, the candidates gone and the save asked for. -/
def pairsInForce (s : State) : State :=
  let t := dropCandidates (s.enc.pairs.map EnrolPair.id) (restartRows (pairsChange s) (applyPairs s.enc.pairs s))
  requestSave (if (pairsChange s).isEmpty then t else markDirty t)

theorem pairsInForce_frame (s : State) :
    Frame (.tables :: .candidates :: .store :: .saves :: .episodes :: wheelFields) s (pairsInForce s) := by
  unfold pairsInForce
  refine Frame.trans ?_ ((requestSave_frame _).mono (by decide))
  refine Frame.trans ?_ (.ite (.refl _ _) ((markDirty_frame _).mono (by decide)))
  refine Frame.trans ?_ ((setCandidates_frame _ _).mono (by decide))
  exact ((applyPairs_frame _ s).mono (by decide)).trans ((restartRows_frame _ _).mono (by decide))

theorem pairsInForce_lawful {s : State} (hrun : s.phase = .running) : Lawful s (pairsInForce s) := by
  have hrestarted : Lawful s (dropCandidates (s.enc.pairs.map EnrolPair.id) (restartRows (pairsChange s) (applyPairs s.enc.pairs s))) :=
    ((applyPairs_lawful s.enc.pairs s).trans (restartRows_lawful _ _)).trans (dropCandidates_lawful _ _)
  have hdirty := hrestarted.trans
    (Lawful.ite (p := (pairsChange s).isEmpty = true) (fun _ => .refl _) fun _ => markDirty_lawful _)
  exact hdirty.trans (requestSave_lawful (hdirty.phase.trans hrun))

/-- The enrolment as a completed session leaves it. -/
def completedEnc (s : State) : Enrolment := closedEnc s.enc .completed (pairsApplied s) (vacatedRows s.enc.pairs).length

/-- The part just before OSC is told that the session has completed. -/
def completedState (i : Nat) (s : State) : State :=
  (raiseEvent .enrolCompleted (stepRow s i) (some (pairsApplied s)) (pairsInForce s)).setEnc (completedEnc s)

theorem applyCompletion_eq (i : Nat) (s : State) : applyCompletion i s = search (sessionClosed (completedState i s)) := by
  have henc : (raiseEvent .enrolCompleted (stepRow s i) (some (pairsApplied s)) (pairsInForce s)).enc = s.enc :=
    (raiseEvent_frame _ _ _ _).enc.trans (pairsInForce_frame s).enc
  have hunfold : applyCompletion i s = search (sessionClosed
      ((raiseEvent .enrolCompleted (stepRow s i) (some (pairsApplied s)) (pairsInForce s)).setEnc
        (closedEnc (raiseEvent .enrolCompleted (stepRow s i) (some (pairsApplied s)) (pairsInForce s)).enc .completed
          (pairsApplied s) (vacatedRows s.enc.pairs).length))) := rfl
  rw [hunfold, henc]
  rfl

theorem applyCompletion_enc (i : Nat) (s : State) :
    ∃ p, (applyCompletion i s).enc = { completedEnc s with proposal := p } := by
  obtain ⟨p, hp⟩ := search_enc (sessionClosed (completedState i s))
  exact ⟨p, by rw [applyCompletion_eq, hp, (sessionClosed_frame _).enc]; rfl⟩

theorem endSession_enc {s : State} {i : Nat} (how : Ending) (h : s.enc.session = some i) :
    ∃ p, (endSession how s).enc = { closedEnc s.enc how 0 0 with proposal := p } := by
  obtain ⟨p, hp⟩ := search_enc (sessionClosed (withClosedEnc how i s))
  exact ⟨p, by rw [endSession_eq h, hp, (sessionClosed_frame _).enc]; rfl⟩

/-- A session that completes, or is refused at its completion, closes. -/
theorem completeSession_closes {s : State} {i : Nat} (h : s.enc.session = some i) (hwalk : s.enc.walk.length ≤ 32) :
    SessionLegal (completeSession i s) := by
  unfold completeSession
  split
  · obtain ⟨p, hp⟩ := applyCompletion_enc i s
    exact sessionLegal_of_closed (by rw [hp]; exact hwalk) (by rw [hp]; rfl) (by rw [hp]; rfl) (by rw [hp]; rfl) (by rw [hp]; rfl)
  · obtain ⟨p, hp⟩ := endSession_enc .refused h
    exact sessionLegal_of_closed (by rw [hp]; exact hwalk) (by rw [hp]; rfl) (by rw [hp]; rfl) (by rw [hp]; rfl) (by rw [hp]; rfl)

theorem completedState_lawful {s : State} (i : Nat) (hrun : s.phase = .running) : Lawful s (sessionClosed (completedState i s)) := by
  refine ((pairsInForce_lawful hrun).trans (Lawful.raiseEvent .enrolCompleted (stepRow s i) (some (pairsApplied s)) _)).trans ?_
  set t := raiseEvent .enrolCompleted (stepRow s i) (some (pairsApplied s)) (pairsInForce s) with ht
  have henc : t.enc = s.enc := (raiseEvent_frame _ _ _ _).enc.trans (pairsInForce_frame s).enc
  have hframe : Frame [.enc, .evq] t (t.setEnc (completedEnc s)) := (setEnc_frame _ t).mono (by decide)
  refine sessionClosed_lawful (.of_frame (setEnc_frame _ t)) hframe rfl fun hs => ?_
  exact sessionLegal_of_closed (show s.enc.walk.length ≤ 32 from henc ▸ hs.1) rfl rfl rfl rfl

theorem completeSession_lawful {s : State} (i : Nat) (hrun : s.phase = .running) : Lawful s (completeSession i s) := by
  refine .ite (fun _ => ?_) fun _ => endSession_lawful _ s
  rw [applyCompletion_eq]
  exact (completedState_lawful i hrun).trans (search_lawful _)

/-! ### Answers and tool actions (R111, R113) -/

/-- What a step at row `i` of the walk may bring before it goes on: events, and at most a pair of the row it stands at. -/
structure StepDone (i : Nat) (s c : State) : Prop where
  session : s.enc.session = some i
  frame : Frame [.enc, .evq] s c
  pairs : SessionOpenLegal s i → (c.enc.pairs.map EnrolPair.row).Nodup ∧ (c.enc.pairs.map EnrolPair.id).Nodup
    ∧ ∀ p ∈ c.enc.pairs, p.row ∈ s.enc.walk.take (i + 1)
  enc : c.enc = { s.enc with pairs := c.enc.pairs }

theorem advance_lawful {i : Nat} {s c : State} (h : StepDone i s c) (hrun : s.phase = .running) : Lawful s (advance i c) := by
  have henc := h.enc
  have hsession : c.enc.session = some i := by rw [henc]; exact h.session
  have hopen : sessionOpen c = sessionOpen s := by rw [sessionOpen, sessionOpen, hsession, h.session]
  have hwalk : c.enc.walk = s.enc.walk := by rw [henc]
  unfold advance
  split
  case isFalse =>
    exact .through_enc (.of_frame h.frame) h.frame hopen (completeSession_lawful i (h.frame.phase.trans hrun))
      fun hs => completeSession_closes hsession (hwalk ▸ hs.1)
  case isTrue hnext =>
    let u := c.setEnc { c.enc with session := some (i + 1), stepDeadline := stepDeadlineFrom c }
    have hu : Frame [.enc, .evq] s u := h.frame.trans ((setEnc_frame _ c).mono (by decide))
    refine .through_enc (.of_frame hu) hu (hopen ▸ by rw [sessionOpen, sessionOpen, hsession]; rfl) (.refl u) fun hs => ?_
    obtain ⟨hlen, hcopies, -, hlegal⟩ := hs
    have hopened := hlegal i h.session
    obtain ⟨-, hactive, -, hnodup, -, hproposal, -⟩ := id hopened
    obtain ⟨hrows, hids, htaken⟩ := h.pairs hopened
    refine ⟨hwalk ▸ hlen, ?_, fun hnone => absurd hnone (Option.some_ne_none _), fun j hj => ?_⟩
    · show c.enc.copies.length ≤ 4
      rw [henc]
      exact hcopies
    · obtain rfl : i + 1 = j := Option.some.inj hj
      refine ⟨hu.phase.trans hrun, (congrArg Controller.state hu.osc).trans hactive, hnext, hwalk ▸ hnodup, rfl, ?_, hrows, hids,
        fun p hp => ?_⟩
      · show c.enc.proposal = none
        rw [henc]
        exact hproposal
      · show p.row ∈ c.enc.walk.take (i + 1)
        rw [hwalk]
        exact htaken p hp

/-- The pair of the row that the session stands at joins the list. -/
theorem pairs_append {s : State} {i : Nat} {p : EnrolPair} (hrow : s.enc.walk[i]? = some p.row)
    (hid : s.enc.pairs.any (fun q => decide (q.id = p.id)) = false) (h : SessionOpenLegal s i) :
    ((s.enc.pairs ++ [p]).map EnrolPair.row).Nodup ∧ ((s.enc.pairs ++ [p]).map EnrolPair.id).Nodup
      ∧ ∀ q ∈ s.enc.pairs ++ [p], q.row ∈ s.enc.walk.take (i + 1) := by
  obtain ⟨-, -, -, hnodup, -, -, hrows, hids, htaken⟩ := h
  have htake : s.enc.walk.take (i + 1) = s.enc.walk.take i ++ [p.row] := by rw [List.take_add_one, hrow]; rfl
  have hfresh : p.row ∉ s.enc.walk.take i := fun hmem => by
    have := (List.take_sublist (i + 1) s.enc.walk).nodup hnodup
    rw [htake, List.nodup_append] at this
    exact this.2.2 _ hmem _ (List.mem_singleton_self _) rfl
  refine ⟨?_, ?_, fun q hq => ?_⟩
  · rw [List.map_append, List.nodup_append]
    refine ⟨hrows, List.nodup_singleton _, fun r hr r' hr' => ?_⟩
    obtain ⟨q, hq, rfl⟩ := List.mem_map.1 hr
    rw [List.map_singleton, List.mem_singleton] at hr'
    rintro rfl
    exact hfresh (hr' ▸ htaken q hq)
  · rw [List.map_append, List.nodup_append]
    refine ⟨hids, List.nodup_singleton _, fun x hx x' hx' => ?_⟩
    obtain ⟨q, hq, rfl⟩ := List.mem_map.1 hx
    rw [List.map_singleton, List.mem_singleton] at hx'
    rintro rfl
    exact List.any_eq_false.1 hid q hq (decide_eq_true hx')
  · rw [htake]
    rcases List.mem_append.1 hq with hq | hq
    · exact List.mem_append_left _ (htaken q hq)
    · rw [List.mem_singleton.1 hq]
      exact List.mem_append_right _ (List.mem_singleton_self _)

theorem acceptAnswer_lawful {i : Nat} {r : Row} {id : SensorId} (source : Option Row) {s : State} (hsession : s.enc.session = some i)
    (hrow : stepRow s i = some r) (hid : s.enc.pairs.any (fun p => decide (p.id = id)) = false) (hrun : s.phase = .running) :
    Lawful s (acceptAnswer i r id source s) := by
  let paired := s.setEnc { s.enc with pairs := s.enc.pairs ++ [{ row := r, id, source }] }
  have hraised := raiseEvent_frame .enrolStep (stepRow paired i) (some id.toNat) paired
  have henc : (stepEvent .enrolStep i id paired).enc = paired.enc := hraised.enc
  refine advance_lawful (c := stepEvent .enrolStep i id paired) ⟨hsession,
    ((setEnc_frame _ s).mono (by decide)).trans (hraised.mono (by decide)), fun h => ?_, by rw [henc]; rfl⟩ hrun
  rw [henc]
  exact pairs_append (p := { row := r, id, source }) hrow hid h

theorem stepEvent_lawful (kind : EventKind) (i : Nat) (id : SensorId) (s : State) : Lawful s (stepEvent kind i id s) :=
  .raiseEvent _ _ _ s

theorem takeAnswer_lawful (c : AnswerClass) (id : SensorId) {s : State} (hrun : s.phase = .running) : Lawful s (takeAnswer c id s) := by
  unfold takeAnswer
  split
  · exact .refl s
  · next i hsession =>
    split
    · exact .refl s
    · next r hrow =>
      refine .ite (fun _ => stepEvent_lawful _ i id s) fun hid => ?_
      have hnew := Bool.not_eq_true _ ▸ hid
      split
      · exact stepEvent_lawful _ i id s
      · exact acceptAnswer_lawful none hsession hrow hnew hrun
      · exact .ite (fun _ => acceptAnswer_lawful none hsession hrow hnew hrun)
          fun _ => .ite (fun _ => acceptAnswer_lawful _ hsession hrow hnew hrun) fun _ => stepEvent_lawful _ i id s

theorem stepBack_lawful {i : Nat} {s : State} (hsession : s.enc.session = some i) : Lawful s (stepBack i s) := by
  refine .ite (fun hi => .setEnc rfl fun ⟨hlen, hcopies, _, hlegal⟩ => ?_)
    fun hi => .setEnc (by rw [hsession]; rfl) fun ⟨hlen, hcopies, _, hlegal⟩ => ?_
  · obtain ⟨hrun, hactive, hin, hnodup, -, hrest⟩ := hlegal i hsession
    refine ⟨hlen, hcopies, fun hnone => ?_, fun j hj => ?_⟩
    · exact absurd (hsession.symm.trans hnone) (Option.some_ne_none i)
    · obtain rfl : i = j := Option.some.inj (hsession.symm.trans hj)
      exact ⟨hrun, hactive, hin, hnodup, rfl, hrest⟩
  · obtain ⟨hrun, hactive, hin, hnodup, -, hproposal, hrows, hids, htaken⟩ := hlegal i hsession
    refine ⟨hlen, hcopies, fun hnone => absurd hnone (Option.some_ne_none _), fun j hj => ?_⟩
    obtain rfl : i - 1 = j := Option.some.inj hj
    have hsub : (s.enc.pairs.filter fun p => decide (some p.row ≠ stepRow s (i - 1))).Sublist s.enc.pairs := List.filter_sublist
    refine ⟨hrun, hactive, (Nat.sub_le i 1).trans_lt hin, hnodup, rfl, hproposal, hrows.sublist (hsub.map _), hids.sublist (hsub.map _),
      fun p hp => ?_⟩
    obtain ⟨hmem, hne⟩ := List.mem_filter.1 hp
    have hpred : i - 1 < s.enc.walk.length := (Nat.sub_le i 1).trans_lt hin
    have htake := htaken p hmem
    rw [← Nat.sub_add_cancel (Nat.one_le_iff_ne_zero.2 hi), List.take_add_one, List.getElem?_eq_getElem hpred] at htake
    rcases List.mem_append.1 htake with h | h
    · exact h
    · refine absurd ?_ (of_decide_eq_true hne)
      rw [stepRow, List.getElem?_eq_getElem hpred, List.mem_singleton.1 h]

theorem takeTool_lawful (code : Nat) {s : State} (hrun : s.phase = .running) : Lawful s (takeTool code s) := by
  unfold takeTool
  split
  · exact .refl s
  · next i hsession =>
    refine .ite (fun _ => ?_) fun _ => .ite (fun _ => stepBack_lawful hsession) fun _ =>
      .ite (fun _ => endSession_lawful _ s) fun _ => .refl s
    have hraised := raiseEvent_frame .enrolStep (stepRow s i) none s
    have henc : (raiseEvent .enrolStep (stepRow s i) none s).enc = s.enc := hraised.enc
    refine advance_lawful ⟨hsession, hraised.mono (by decide), fun h => ?_, by rw [henc]⟩ hrun
    obtain ⟨-, -, -, -, -, -, hrows, hids, htaken⟩ := h
    rw [henc]
    exact ⟨hrows, hids, fun p hp => (List.take_sublist_take_left (Nat.le_succ i)).subset (htaken p hp)⟩

theorem rememberCopy_lawful (t : TelegramRecord) {s : State} (h : s.enc.session ≠ none) : Lawful s (rememberCopy t s) :=
  .setEnc rfl fun ⟨hlen, _, _, hlegal⟩ => ⟨hlen, (List.length_take_le _ _), fun hnone => absurd hnone h, hlegal⟩

theorem handToEnc_lawful {act : State → State} (t : TelegramRecord) {s : State} (hrun : s.phase = .running)
    (h : ∀ u : State, u.phase = .running → Lawful u (act u)) : Lawful s (handToEnc act t s) :=
  .ite (fun hopen => (rememberCopy_lawful t ((sessionOpen_iff s).1 hopen.1)).trans (h (rememberCopy t s) hrun)) fun _ => .refl s

/-! ### The trailer -/

theorem setTrailer_lawful (v : TrailerState) (s : State) : Lawful s (s.setTrailer v) :=
  .of_wheels (.of_frame (setTrailer_frame v s)) (setTrailer_frame v s)

theorem setWindow_lawful (v : Option Millis) (s : State) : Lawful s (s.setWindow v) :=
  .of_wheels (.of_frame (setWindow_frame v s)) (setWindow_frame v s)

theorem setRecog_lawful (v : Vector RecogEntry 4) (s : State) : Lawful s (s.setRecog v) :=
  .of_wheels (.of_frame (setRecog_frame v s)) (setRecog_frame v s)

theorem identify_lawful (k : EntryNo) (s : State) : Lawful s (identify k s) := by
  unfold identify
  refine Lawful.trans ?_ (.raiseEvent _ _ _ _)
  refine Lawful.trans ?_ (restartRows_lawful _ _)
  exact ((setTrailer_lawful _ s).trans (setWindow_lawful _ _)).trans (setRecog_lawful _ _)

theorem unload_lawful (next : TrailerState) (s : State) : Lawful s (unload next s) :=
  (setTrailer_lawful next s).trans (restartRows_lawful _ _)

theorem connectTrailer_lawful (s : State) : Lawful s (connectTrailer s) :=
  .ite (fun _ => ((setTrailer_lawful _ s).trans (setWindow_lawful _ _)).trans (setRecog_lawful _ _)) fun _ => .refl s

theorem disconnectTrailer_lawful (s : State) : Lawful s (disconnectTrailer s) := by
  unfold disconnectTrailer
  refine .ite (fun _ => .refl s) fun _ => ?_
  refine Lawful.trans ?_ (settleProposal_lawful _)
  refine Lawful.trans ?_ (sessionTrailerLost_lawful _)
  refine Lawful.trans ?_ (.raiseEvent _ _ _ _)
  refine Lawful.trans ?_ (setRecog_lawful _ _)
  refine Lawful.trans ?_ (setWindow_lawful _ _)
  exact .ite (fun _ => unload_lawful _ s) fun _ => setTrailer_lawful _ s

theorem checkRecognition_lawful (k : EntryNo) (s : State) : Lawful s (checkRecognition k s) :=
  .ite (fun _ => (identify_lawful k s).trans (settleProposal_lawful _)) fun _ => .refl s

theorem countTelegram_lawful (k : EntryNo) (slot : SlotNo) (t : TelegramRecord) (s : State) : Lawful s (countTelegram k slot t s) :=
  (setRecog_lawful _ s).trans (checkRecognition_lawful k _)

theorem recheckEntry_lawful (before : State) (k : EntryNo) (s : State) : Lawful s (recheckEntry before k s) :=
  .ite (fun _ => (setRecog_lawful _ s).trans (checkRecognition_lawful k _)) fun _ => .refl s

/-! ### The candidate list (R52 to R57) -/

theorem updateCandidate_id (s : State) (t : TelegramRecord) (c : Candidate) : (updateCandidate s t c).id = c.id := by
  unfold updateCandidate
  dsimp only
  split <;> rfl

/-- A candidate updated in its place leaves the IDs of the list as they are. -/
theorem updatedCandidates_ids {t : TelegramRecord} {c : Candidate} (hc : c.id = t.id) (l : List Candidate) :
    (l.map fun x => if x.id = t.id then c else x).map Candidate.id = l.map Candidate.id := by
  rw [List.map_map]
  refine List.map_congr_left fun x _ => ?_
  show (if x.id = t.id then c else x).id = x.id
  split
  · next h => rw [hc, h]
  · rfl

theorem evictee_mem {l : List Candidate} {v : Candidate} (h : evictee l = some v) : v ∈ l := by
  cases l with
  | nil => cases h
  | cons c rest =>
    obtain rfl := Option.some.inj h
    refine List.foldlRecOn rest _ (motive := fun x => x ∈ c :: rest) List.mem_cons_self fun best hbest x hx => ?_
    split
    · exact List.mem_cons_of_mem _ hx
    · exact hbest

theorem makeRoom_sublist (l : List Candidate) : (makeRoom l).Sublist l := by
  unfold makeRoom
  split
  · exact .refl l
  · split
    · exact .refl l
    · exact List.filter_sublist

theorem makeRoom_length_le {l : List Candidate} (h : l.length ≤ 16) : (makeRoom l).length ≤ 15 := by
  unfold makeRoom
  split
  · next hroom => exact Nat.le_of_lt_succ hroom
  · next hfull =>
    split
    · next hnone =>
      cases l with
      | nil => exact Nat.zero_le 15
      | cons c rest => cases hnone
    · next v hv =>
      have hlt : (l.filter fun c => decide (c.id ≠ v.id)).length < l.length :=
        List.length_filter_lt_length_iff_exists.2 ⟨v, evictee_mem hv, by simp⟩
      omega

theorem candidatesLegal_join {s : State} {t : TelegramRecord} {c : Candidate} (hc : c.id = t.id)
    (hnone : s.candidates.find? (fun c => decide (c.id = t.id)) = none) (h : CandidatesLegal s) :
    CandidatesLegal (s.setCandidates (makeRoom s.candidates ++ [c])) := by
  obtain ⟨hlen, hnodup⟩ := h
  have hroom := makeRoom_length_le hlen
  refine ⟨by simpa using Nat.lt_succ_of_le hroom, ?_⟩
  show ((makeRoom s.candidates ++ [c]).map Candidate.id).Nodup
  rw [List.map_append, List.nodup_append]
  refine ⟨hnodup.sublist ((makeRoom_sublist _).map _), List.nodup_singleton _, fun x hx y hy => ?_⟩
  obtain ⟨listed, hlisted, rfl⟩ := List.mem_map.1 hx
  rw [List.map_singleton, List.mem_singleton, hc] at hy
  rw [hy]
  simpa using List.find?_eq_none.1 hnone listed ((makeRoom_sublist _).subset hlisted)

theorem takeCandidate_lawful (t : TelegramRecord) (s : State) : Lawful s (takeCandidate t s) := by
  unfold takeCandidate
  split
  · next c hc =>
    have hid : (updateCandidate s t c).id = t.id := by
      rw [updateCandidate_id]
      simpa using List.find?_some hc
    refine Lawful.trans (.setCandidates fun ⟨hlen, hnodup⟩ => ?_) (.ite (fun _ => search_lawful _) fun _ => .refl _)
    exact ⟨by simpa using hlen, by simpa only [State.setCandidates_candidates, updatedCandidates_ids hid] using hnodup⟩
  · next hnone =>
    refine Lawful.trans ?_ (search_lawful _)
    exact Lawful.trans (.setCandidates (candidatesLegal_join rfl hnone)) (settleProposal_lawful _)

/-! ### Acceptance -/

theorem takeEnrolled_lawful (r : Row) (t : TelegramRecord) {s : State} (hrun : s.phase = .running) : Lawful s (takeEnrolled r t s) := by
  unfold takeEnrolled
  have hnoted : Lawful s (noteRssi r t s) := .of_wheels (.of_putWheel_same rfl rfl rfl) (putWheel_frame r _ s)
  refine hnoted.trans (.ite (fun _ => .refl _) fun _ => ?_)
  refine Lawful.trans ?_ (settleProposal_lawful _)
  have hmeasured : Lawful (noteRssi r t s) (measure r t (noteRssi r t s)) := .of_wheels (measure_work r t _) (measure_frame r t _)
  exact hmeasured.trans (.ite (fun _ => takeAnswer_lawful _ _ (hmeasured.phase.trans hrun)) fun _ => .refl _)

theorem takeForeign_lawful (k : EntryNo) (slot : SlotNo) (t : TelegramRecord) {s : State} (hrun : s.phase = .running) :
    Lawful s (takeForeign k slot t s) := by
  unfold takeForeign
  extract_lets a
  have ha : Lawful s a := .ite (fun _ => countTelegram_lawful k slot t s) fun _ => .refl s
  exact ha.trans (.ite (fun _ => handToEnc_lawful t (ha.phase.trans hrun) fun u hu => takeAnswer_lawful _ _ hu) fun _ => .refl a)

theorem takeUnknown_lawful (t : TelegramRecord) {s : State} (hrun : s.phase = .running) : Lawful s (takeUnknown t s) :=
  .ite (fun _ => handToEnc_lawful t hrun fun _ hu => takeAnswer_lawful _ _ hu) fun _ => takeCandidate_lawful t s

theorem acceptRecord_lawful (t : TelegramRecord) {s : State} (hrun : s.phase = .running) : Lawful s (acceptRecord t s) := by
  unfold acceptRecord
  refine .ite (fun _ => .refl s) fun _ => ?_
  split
  · exact handToEnc_lawful t hrun fun u hu => takeTool_lawful _ hu
  · exact takeEnrolled_lawful _ t hrun
  · exact takeForeign_lawful _ _ t hrun
  · exact takeUnknown_lawful t hrun

end Sys2Proof.Machine
end

section
/-! The five laws through the vehicle data, the lines, the requests, the saves and the resets: every step keeps each of them. The
settlements of O55, O56 and O58. -/

namespace Sys2Proof.Machine

set_option Elab.async false

/-- Neither the link nor the controller is touched. -/
theorem LinkKept.of_same {s t : State} (hlink : t.link = s.link) (hosc : t.osc = s.osc) : LinkKept s t :=
  ⟨by rw [hlink], by rw [hlink], by rw [hlink], by rw [hlink], by rw [hosc], fun h => by rwa [hlink], fun h => by rwa [hlink]⟩

/-! ### Vehicle data -/

theorem Lawful.setVdm_awake {s : State} {v : VehicleData} (h : s.osc.state ≠ .dormant) : Lawful s (s.setVdm v) :=
  .setVdm fun hd => absurd hd h

/-- Vehicle data that keep the speed and the timeout. -/
theorem Lawful.setVdm_same {s : State} {v : VehicleData} (hspeed : v.speed = s.vdm.speed)
    (hdeadline : v.frameDeadline = s.vdm.frameDeadline) : Lawful s (s.setVdm v) :=
  .setVdm fun _ h => ⟨hdeadline.trans h.1, hspeed.trans h.2⟩

theorem putUnit_lawful (u : UnitName) (v : UnitLoad) (s : State) : Lawful s (putUnit u v s) := by
  cases u
  · exact .setVdm_same rfl rfl
  · exact .setVdm_same rfl rfl

theorem reevaluate_lawful (rows : List Row) (s : State) : Lawful s (reevaluate rows s) :=
  .of_wheels (reevaluate_work rows s) (reevaluate_frame rows s)

theorem retime_lawful (before s : State) : Lawful s (retime before s) := .of_wheels (retime_work before s) (retime_frame before s)

theorem applyLoad_lawful (u : UnitName) (load : LoadState) (s : State) : Lawful s (applyLoad u load s) :=
  (putUnit_lawful u _ s).trans (.ite (fun _ => .refl _) fun _ => reevaluate_lawful _ _)

theorem settleLoad_lawful (u : UnitName) (load : LoadState) (s : State) : Lawful s (settleLoad u load s) := by
  refine .ite (fun _ => putUnit_lawful u _ s) fun _ => ?_
  split
  · exact .refl s
  · exact .ite (fun _ => applyLoad_lawful u load s) fun _ => putUnit_lawful u _ s

theorem reportLoad_lawful (u : UnitName) (rep : LoadReport) (s : State) : Lawful s (reportLoad u rep s) := by
  refine (putUnit_lawful u { unitLoad s u with reported := rep } s).trans ?_
  cases rep
  · exact settleLoad_lawful u _ _
  · exact settleLoad_lawful u _ _
  · exact putUnit_lawful u _ _
  · exact applyLoad_lawful u _ _

/-- A speed taken while the part is awake, or lost. -/
theorem setSpeed_lawful {speed : Option Nat} {s : State} (h : s.osc.state = .dormant → speed = none) : Lawful s (setSpeed speed s) := by
  refine .ite (fun _ => .refl s) fun _ => ?_
  refine Lawful.trans ?_ (sessionMoved_lawful _)
  exact Lawful.trans (t := s.setVdm { s.vdm with speed := speed }) (.setVdm fun hd hs => ⟨hs.1, h hd⟩) (retime_lawful s _)

theorem setConnected_lawful (code : Nat) (s : State) : Lawful s (setConnected code s) :=
  have hput : ∀ on, Lawful s (s.setVdm { s.vdm with connected := on }) := fun _ => .setVdm_same rfl rfl
  .ite (fun _ => (hput true).trans (connectTrailer_lawful _))
    fun _ => .ite (fun _ => (hput false).trans (disconnectTrailer_lawful _)) fun _ => .refl s

theorem setLift_lawful (mask : BitVec 8) (s : State) : Lawful s (setLift mask s) :=
  Lawful.trans (t := s.setVdm { s.vdm with liftMask := mask }) (.setVdm_same rfl rfl)
    (.of_wheels (liftChange_work s _) (liftChange_frame s _))

theorem frameSeen_lawful {s : State} (h : s.osc.state ≠ .dormant) : Lawful s (frameSeen s) := by
  refine Lawful.trans (t := if s.vdm.status = .lost then raiseEvent .vehicleDataBack none none s else s)
    (.ite (fun _ => .raiseEvent _ _ _ s) fun _ => .refl s) (.setVdm_awake ?_)
  split
  · exact h
  · exact h

theorem notice_lawful (a : Activity) (s : State) : Lawful s (notice a s) := .of_wheels (notice_work a s) (notice_frame a s)

theorem takeVehicleData_lawful (data : List Byte) {s : State} (h : s.osc.state ≠ .dormant) : Lawful s (takeVehicleData data s) := by
  unfold takeVehicleData
  refine Lawful.trans ?_ (notice_lawful _ _)
  refine Lawful.trans ?_ (.setVdm_same rfl rfl)
  refine Lawful.trans ?_ (setLift_lawful _ _)
  refine Lawful.trans ?_ (setConnected_lawful _ _)
  refine Lawful.trans ?_ (reportLoad_lawful _ _ _)
  refine Lawful.trans ?_ (reportLoad_lawful _ _ _)
  exact (frameSeen_lawful h).trans (setSpeed_lawful fun hd => absurd hd (frameSeen_awake h))

theorem frameTimeout_lawful (s : State) : Lawful s (frameTimeout s) := by
  refine .ite (fun _ => Lawful.trans (t := s.setVdm { s.vdm with status := .lost, frameDeadline := none })
    (.setVdm fun _ hs => ⟨rfl, hs.2⟩) (.ite (fun _ => .refl _) fun _ => ?_)) fun _ => .refl s
  refine Lawful.trans ?_ (reportLoad_lawful _ _ _)
  refine Lawful.trans ?_ (reportLoad_lawful _ _ _)
  exact (Lawful.raiseEvent _ _ _ _).trans (setSpeed_lawful fun _ => rfl)

/-! ### The lines -/

theorem setIgnition_lawful (on : Bool) (s : State) : Lawful s (s.setLines { s.lines with ignition := on }) :=
  ⟨.of_same rfl rfl, rfl, id, id, id, id⟩

theorem ignitionTo_lawful (on : Bool) (s : State) : Lawful s (ignitionTo on s) := by
  refine .ite (fun _ => .refl s) fun _ => (setIgnition_lawful on s).trans ?_
  dsimp only
  split
  · next hstate =>
    refine .ite (fun _ => parkDelayDone_lawful hstate) fun _ => .setOsc rfl rfl
      fun ⟨hlanes, hundated, hactivity, _, hrest⟩ => ⟨hlanes, hundated, hactivity, fun _ => hstate, hrest⟩
  · exact .setOsc rfl rfl fun ⟨hlanes, hundated, hactivity, _, _, hrest⟩ =>
      ⟨hlanes, hundated, hactivity, fun h => absurd h Bool.false_ne_true, fun h => absurd h Bool.false_ne_true, hrest⟩
  · next hstate => exact enterState_lawful_of_not_active fun h => OpState.noConfusion (hstate.symm.trans h)
  · next hstate => exact enterState_lawful_of_not_active fun h => OpState.noConfusion (hstate.symm.trans h)
  · exact .refl _

/-- Work on the store and the lines alone. -/
theorem Lawful.of_store {c : List Field} {s t : State} (hf : Frame c s t) (h : StoreLegal s → StoreLegal t)
    (k₁ : Field.lanes ∉ c := by decide) (k₂ : Field.vdm ∉ c := by decide) (k₃ : Field.phase ∉ c := by decide)
    (k₄ : Field.candidates ∉ c := by decide) (k₅ : Field.tables ∉ c := by decide) (k₆ : Field.enc ∉ c := by decide)
    (k₇ : Field.link ∉ c := by decide) (k₈ : Field.osc ∉ c := by decide) (k₉ : Field.wheels ∉ c := by decide) : Lawful s t := by
  have hw : WheelWork s t := .of_frame hf k₇ k₈ k₉
  exact ⟨.of_work hw, hf.phase k₃, candidatesLegal_congr (hf.candidates k₄), h,
    modeLaw_of_work hw (hf.lanes k₁) (by rw [hf.tables k₅]) (by rw [sessionOpen, sessionOpen, hf.enc k₆]) fun _ hv => by rwa [hf.vdm k₂],
    sessionLegal_congr (hf.enc k₆) (hf.phase k₃) (by rw [hf.osc k₈])⟩

theorem crankAssert_lawful (s : State) : Lawful s (crankAssert s) := by
  refine .of_store (crankAssert_frame s) fun ⟨hcaptured, hcrank, hsuspended, hresume, htime, hdeferred, hphase⟩ => ?_
  unfold StoreLegal saveInFlight at *
  cases hstate : s.store.state <;> simp_all [crankAssert]

theorem crankRelease_lawful (s : State) : Lawful s (crankRelease s) := by
  refine .of_store (crankRelease_frame s) fun ⟨hcaptured, hcrank, hsuspended, hresume, htime, hdeferred, hphase⟩ => ?_
  unfold StoreLegal saveInFlight at *
  cases hstate : s.store.state <;> simp_all [crankRelease]

theorem resumeExpiry_lawful (s : State) : Lawful s (resumeExpiry s) := by
  refine .ite (fun ⟨hstate, _⟩ => .setStore fun ⟨hcaptured, hcrank, hsuspended, hresume, htime, hdeferred, hphase⟩ => ?_) fun _ => .refl s
  unfold StoreLegal saveInFlight at *
  simp_all

/-! ### The owners of requests -/

theorem relane_lanesLegal (s : State) : LanesLegal (relane s) := fun l => by
  rw [relane_lane]
  have henabled : laneEnabled (relane s) (relane s).osc.state l = laneEnabled s s.osc.state l := laneEnabled_congr rfl _ l
  rw [henabled]
  cases hon : laneEnabled s s.osc.state l <;> cases hstate : (s.lane l).state <;> simp [Lane.enable, hstate, LaneState.freshHunt]

/-- The lanes that listen depend on two settings. -/
theorem laneEnabled_of_settings {s t : State} (hmask : t.setting .laneEnableMask = s.setting .laneEnableMask)
    (hpark : t.setting .parkLane = s.setting .parkLane) (o : OpState) (l : LaneNo) : laneEnabled t o l = laneEnabled s o l := by
  cases o <;> simp only [laneEnabled, hmask, hpark]

/-- The setting that a write and the raise of the missing time that may follow leave as it was. -/
theorem setting_of_write {b : State} {k j : Setting} (v : Nat) (hk : k ≠ j) (hj : j ≠ .missingMovingS) (hj' : j ≠ .missingParkedS) :
    (raiseMissing k (b.tables.settings.set k.item (k.clamp v)))[j.item] = b.setting j := by
  have hitem : ∀ a b : Setting, a ≠ b → a.item.val ≠ b.item.val := fun a b hne h =>
    hne (Option.some.inj ((settingOf_item a).symm.trans (h ▸ settingOf_item b)))
  unfold raiseMissing State.setting
  split <;> simp [Vector.getElem_set, hitem _ _ hk, hitem _ _ hj.symm, hitem _ _ hj'.symm]

/-- New tables whose lane settings are the old ones. -/
theorem Lawful.setTables_lanes {s : State} {v : Tables} (h : ∀ o l, laneEnabled (s.setTables v) o l = laneEnabled s o l) :
    Lawful s (s.setTables v) :=
  ⟨.of_same rfl rfl, rfl, id, id, fun ⟨hlanes, hdeadlines⟩ => ⟨fun l => (hlanes l).trans (by rw [← h]; rfl), hdeadlines⟩, id⟩

theorem ageCandidates_lawful (s : State) : Lawful s (ageCandidates s) :=
  Lawful.trans (.setCandidates (candidatesLegal_filter _)) (settleProposal_lawful _)

/-- The lanes are set by the settings that a write leaves, whatever they were. -/
theorem relaned_lawful (v : Tables) (s : State) : Lawful s (relane (writeTables v s)) := by
  let t := relane (writeTables v s)
  have hf : Frame [.tables, .store, .lanes] s t :=
    ((writeTables_frame v s).mono (by decide)).trans ((relane_frame _).mono (by decide))
  have hw : WheelWork s t := .of_frame hf
  exact ⟨.of_work hw, hf.phase, id, id, fun ⟨_, hdeadlines⟩ => ⟨relane_lanesLegal _, hdeadlines⟩, id⟩

theorem settingWrite_lawful (k : Setting) (v : Nat) (b : State) :
    Lawful b (settingEffect b k (writeTables
      { b.tables with settings := raiseMissing k (b.tables.settings.set k.item (k.clamp v)) } b)) := by
  have hkept : ∀ j : Setting, k ≠ j → j ≠ .missingMovingS → j ≠ .missingParkedS →
      (b.setTables { b.tables with settings := raiseMissing k (b.tables.settings.set k.item (k.clamp v)) }).setting j = b.setting j :=
    fun j hk hj hj' => setting_of_write v hk hj hj'
  generalize ({ b.tables with settings := raiseMissing k (b.tables.settings.set k.item (k.clamp v)) } : Tables) = t at hkept
  by_cases hlane : k = .laneEnableMask ∨ k = .parkLane
  · have heffect : settingEffect b k (writeTables t b) = relane (writeTables t b) := by rcases hlane with rfl | rfl <;> rfl
    rw [heffect]
    exact relaned_lawful t b
  · obtain ⟨hmask, hpark⟩ := not_or.1 hlane
    have hwrite : Lawful b (writeTables t b) := by
      refine Lawful.trans (.setTables_lanes fun o l => ?_) (markDirty_lawful _)
      exact laneEnabled_of_settings (hkept _ hmask (by decide) (by decide)) (hkept _ hpark (by decide) (by decide)) o l
    refine hwrite.trans ?_
    cases k
    case candidateAgeS => exact ageCandidates_lawful _
    case movingSpeedKmh => exact (retime_lawful b _).trans (sessionMoved_lawful _)
    case proposalDelayS => exact dueAfterWrite_lawful b _
    case laneEnableMask => exact absurd rfl hmask
    case parkLane => exact absurd rfl hpark
    all_goals exact .refl _

theorem writeTables_lawful {v : Tables} {s : State} (h : v.settings = s.tables.settings) : Lawful s (writeTables v s) :=
  (Lawful.setTables h).trans (markDirty_lawful _)

theorem setMgu_lawful {v : Management} {s : State} (h : v.deferredRestart = s.mgu.deferredRestart) : Lawful s (s.setMgu v) :=
  ⟨.of_same rfl rfl, rfl, id, fun ⟨h1, h2, h3, h4, h5, hdeferred, h7⟩ =>
    ⟨h1, h2, h3, h4, h5, fun hd => hdeferred (by rwa [State.setMgu_mgu, h] at hd), h7⟩, id, id⟩

theorem writeAxle_lawful (a : Fin 5) (rec : AxleRecord) (s : State) : Lawful s (writeAxle a rec s).state := by
  unfold writeAxle
  split
  · exact .refl s
  · refine Lawful.trans ?_ (settleProposal_lawful _)
    refine Lawful.trans ?_ (restartRows_lawful _ _)
    exact Lawful.trans (writeTables_lawful (by rfl)) (writeRows_lawful _ none _)

theorem changeRow_lawful (r : Row) (id : Option SensorId) (s : State) : Lawful s (changeRow r id s) := by
  unfold changeRow
  refine Lawful.trans ?_ (settleProposal_lawful _)
  refine Lawful.trans ?_ (markDirty_lawful _)
  refine Lawful.trans ?_ (restartRows_lawful _ _)
  exact (writeRowId_lawful r id s).trans (dropCandidates_lawful _ _)

theorem writeEntry_lawful (k : EntryNo) (e : RosterEntry) (s : State) : Lawful s (writeEntry k e s) :=
  (putEntry_lawful k e s).trans (markDirty_lawful _)

theorem axleFollows_lawful (before : State) (k : EntryNo) (s : State) : Lawful s (axleFollows before k s) := by
  refine .ite (fun _ => ?_) fun _ => recheckEntry_lawful before k s
  refine Lawful.trans ?_ (settleProposal_lawful _)
  exact (restartRows_lawful _ s).trans (.of_wheels (liftChange_work before _) (liftChange_frame before _))

theorem slotFollows_lawful (before : State) (k : EntryNo) (t : SlotNo) (s : State) : Lawful s (slotFollows before k t s) :=
  Lawful.trans (t := ite _ (restartRows [slotRow t] s) (recheckEntry before k s))
    (.ite (fun _ => restartRows_lawful _ s) fun _ => recheckEntry_lawful before k s) (settleProposal_lawful _)

theorem clearFollows_lawful (k : EntryNo) (s : State) : Lawful s (clearFollows k s) := by
  refine .ite (fun _ => ?_) fun _ => .ite (fun _ => setRecog_lawful _ s) fun _ => .refl s
  exact ((unload_lawful .unknown s).trans (.raiseEvent _ _ _ _)).trans (settleProposal_lawful _)

theorem selectTrailer_lawful (k : EntryNo) (s : State) : Lawful s (selectTrailer k s) := by
  refine .ite (fun _ => .refl s) fun _ => ?_
  refine Lawful.trans ?_ (settleProposal_lawful _)
  refine Lawful.trans ?_ (identify_lawful k _)
  exact .ite (fun _ => (unload_lawful .unknown s).trans (sessionTrailerLost_lawful _)) fun _ => .refl s

theorem goActive_lawful {s : State} (h : s.osc.state = .offline) :
    Lawful s (settleProposal (enterState (stateByIgnition s) (restartRows allRows s))) := by
  refine Lawful.trans ?_ (settleProposal_lawful _)
  refine (restartRows_lawful allRows s).trans (enterState_lawful_of_not_active ?_)
  rw [(restartRows_work allRows s).osc_state, h]
  decide

/-- What a walk without a fault is (R110). -/
theorem walk_of_noFault {s : State} (h : walkFault s = none) :
    s.enc.walk ≠ [] ∧ ∀ i r, s.enc.walk[i]? = some r → ¬ offends s i r = true := by
  unfold walkFault at h
  split at h
  · cases h
  · next hne =>
    refine ⟨by simpa using hne, fun i r hr hbad => ?_⟩
    have hi : i < s.enc.walk.length := (List.getElem?_eq_some_iff.1 hr).1
    refine List.find?_eq_none.1 h i (List.mem_range.2 hi) ?_
    simpa [hr] using hbad

theorem walk_nodup_of_noFault {s : State} (h : walkFault s = none) : s.enc.walk.Nodup := by
  obtain ⟨-, hgood⟩ := walk_of_noFault h
  refine List.nodup_iff_getElem?_ne_getElem?.2 fun i j hij hj heq => ?_
  obtain ⟨r, hr⟩ : ∃ r, s.enc.walk[j]? = some r := ⟨_, List.getElem?_eq_getElem hj⟩
  refine hgood j r hr ((offends_iff s j r).2 (.inl ?_))
  exact List.mem_of_getElem? ((List.getElem?_take_of_lt hij).trans (heq.trans hr))

theorem openSession_lawful {allowMove : Bool} {s : State} (hrun : s.phase = .running) (hactive : s.osc.state = .active)
    (hfault : walkFault s = none) : Lawful s (openSession allowMove s) := by
  refine (withdraw_lawful s).trans ?_
  have hf := withdraw_frame s
  have henc := withdraw_enc s
  unfold openSession
  dsimp only
  generalize withdraw s = w at hf henc
  have hw : ∀ v, WheelWork w (w.setEnc v) := fun v => .of_frame (setEnc_frame v w)
  have hwalk : w.enc.walk = s.enc.walk := by rw [henc]
  obtain ⟨hne, -⟩ := walk_of_noFault hfault
  refine ⟨.of_work (hw _), rfl, id, id, fun ⟨hlanes, hundated, hactivity, hdelay, hpending, hrest⟩ =>
    ⟨hlanes, hundated, hactivity, hdelay, fun hp => ⟨(hpending hp).1, rfl⟩, hrest⟩, fun ⟨hlen, _⟩ => ?_⟩
  refine ⟨hlen, Nat.zero_le 4, fun h => absurd h (Option.some_ne_none 0), fun i hi => ?_⟩
  obtain rfl : 0 = i := Option.some.inj hi
  refine ⟨hf.phase.trans hrun, (congrArg Controller.state hf.osc).trans hactive, ?_, ?_, rfl, ?_, .nil, .nil, fun p hp => ?_⟩
  · exact hwalk ▸ List.length_pos_of_ne_nil hne
  · exact hwalk ▸ walk_nodup_of_noFault hfault
  · show w.enc.proposal = none
    rw [henc]
  · cases hp

theorem acceptProposal_lawful {r : Row} {id : SensorId} {s : State} (hrun : s.phase = .running) : Lawful s (acceptProposal r id s) := by
  unfold acceptProposal
  refine Lawful.trans ?_ (search_lawful _)
  refine Lawful.trans ?_ (.raiseEvent _ _ _ _)
  have hclosed : Lawful s (s.setEnc { s.enc with proposal := none }) :=
    .setEnc rfl fun hs => sessionLegal_of_proposal (s := s) rfl rfl rfl (.inr rfl) hs
  have hrestarted := ((hclosed.trans (writeRowId_lawful r (some id) _)).trans (dropCandidates_lawful [id] _)).trans
    (restartRows_lawful [r] _)
  have hdirty := hrestarted.trans (markDirty_lawful _)
  exact hdirty.trans (requestSave_lawful (hdirty.phase.trans hrun))

theorem rejectProposal_lawful (r : Row) (id : SensorId) (s : State) : Lawful s (rejectProposal r id s) := by
  have hclosed : Lawful s (s.setEnc { s.enc with proposal := none }) :=
    .setEnc rfl fun hs => sessionLegal_of_proposal (s := s) rfl rfl rfl (.inr rfl) hs
  exact ((hclosed.trans (.putEpisode _ _ _)).trans (.raiseEvent _ _ _ _)).trans (search_lawful _)

theorem clearLaneFlags_lawful (mask : Nat) (s : State) : Lawful s (clearLaneFlags mask s) := by
  have hf : Frame [.lanes] s (clearLaneFlags mask s) := setLanes_frame _ s
  have hlane : ∀ l, ((clearLaneFlags mask s).lane l).state = (s.lane l).state := fun l => by
    simp only [clearLaneFlags, State.lane, State.setLanes, Fin.getElem_fin, Vector.getElem_ofFn]
    split <;> rfl
  exact ⟨.of_work (.of_frame hf), rfl, id, id, fun ⟨hlanes, hdeadlines⟩ => ⟨fun l => by rw [hlane]; exact hlanes l, hdeadlines⟩, id⟩

/-- Every act of an owner keeps the five laws. -/
theorem Act.lawful {b u : State} (h : Act b u) (hrun : b.phase = .running) : Lawful b u := by
  cases h
  case nothing => exact .refl b
  case setting k v => exact settingWrite_lawful k v b
  case link => exact writeTables_lawful rfl
  case guard level =>
    exact Lawful.trans (t := writeTables { b.tables with guardLevel := level } b) (writeTables_lawful rfl) (requestSave_lawful hrun)
  case freeze => exact Lawful.trans (t := b.setMgu { b.mgu with frozen := true }) (setMgu_lawful rfl) (endSession_lawful _ _)
  case offline hclosed => exact enterState_lawful fun _ => hclosed
  case active hoffline => exact goActive_lawful hoffline
  case save => exact startSave_lawful hrun
  case axle a rec _ => exact writeAxle_lawful a rec b
  case writeRow r id _ _ _ _ _ => exact changeRow_lawful r _ b
  case clearRow r _ _ => exact changeRow_lawful r none b
  case tag k _ _ _ => exact writeEntry_lawful k _ b
  case entryAxle k a rec _ _ => exact (writeEntry_lawful k _ b).trans (axleFollows_lawful b k _)
  case slot k t id _ _ _ => exact ((writeEntry_lawful k _ b).trans (dropCandidates_lawful _ _)).trans (slotFollows_lawful b k t _)
  case rosterClear k _ => exact (writeEntry_lawful k _ b).trans (clearFollows_lawful k _)
  case select k _ _ _ => exact selectTrailer_lawful k b
  case limits => exact Lawful.trans (writeTables_lawful (s := b) (by rfl)) (reevaluate_lawful _ _)
  case temperatures => exact Lawful.trans (writeTables_lawful (s := b) (by rfl)) (reevaluate_lawful _ _)
  case announce => exact Lawful.trans (writeTables_lawful (s := b) (by rfl)) (.of_wheels (reannounceRows_work _ _) (reannounceRows_frame _ _))
  case order start rows hclosed hfits =>
    refine .setEnc rfl fun ⟨_, _, hempty, _⟩ => ?_
    obtain ⟨hpairs, hcopies, hdeadline⟩ := hempty hclosed
    refine sessionLegal_of_closed ?_ hclosed hpairs hcopies hdeadline
    rw [State.setEnc_enc, List.length_append, List.length_take]
    omega
  case start hactive _ hfault => exact openSession_lawful hrun hactive hfault
  case cancel => exact endSession_lawful _ b
  case accept r id _ _ => exact acceptProposal_lawful hrun
  case reject r id _ => exact rejectProposal_lawful r id b
  case laneFlags mask => exact clearLaneFlags_lawful mask b
  case event => exact ⟨.of_same rfl rfl, rfl, id, id, id, id⟩
  case snapshot => exact ⟨⟨rfl, rfl, rfl, rfl, rfl, id, id⟩, rfl, id, id, id, id⟩

end Sys2Proof.Machine
end

section
/-! Every command and every millisecond keeps the five laws: the settlements of O55, O56 and O58. -/

namespace Sys2Proof.Machine

set_option Elab.async false

/-- Each of the five laws is kept by itself. -/
structure Kept (s t : State) : Prop where
  link : LinkLegal s → LinkLegal t
  candidates : CandidatesLegal s → CandidatesLegal t
  store : StoreLegal s → StoreLegal t
  mode : ModeLaw s → ModeLaw t
  session : SessionLegal s → SessionLegal t

theorem Lawful.kept {s t : State} (h : Lawful s t) : Kept s t := ⟨h.link.legal, h.candidates, h.store, h.mode, h.session⟩

namespace Kept

variable {s t u : State}

theorem refl (s : State) : Kept s s := ⟨id, id, id, id, id⟩

theorem trans (h : Kept s t) (k : Kept t u) : Kept s u :=
  ⟨fun x => k.link (h.link x), fun x => k.candidates (h.candidates x), fun x => k.store (h.store x), fun x => k.mode (h.mode x),
    fun x => k.session (h.session x)⟩

theorem of_bit (h : LaneMoved s t) : Kept s t := by
  have hf := h.frame
  have hw : WheelWork s (t.setLanes s.lanes) := .of_frame (c := [.lanes, .handed, .evq])
    (hf.trans ((setLanes_frame s.lanes t).mono (by decide)))
  refine ⟨(LinkKept.of_same hf.link hf.osc).legal, candidatesLegal_congr hf.candidates,
    storeLegal_congr hf.store hf.lines hf.phase hf.mgu (by rw [hf.osc]), fun hs => ?_,
    sessionLegal_congr hf.enc hf.phase (by rw [hf.osc])⟩
  obtain ⟨-, hdeadlines⟩ : ModeLaw (t.setLanes s.lanes) :=
    modeLaw_of_work hw rfl (congrArg Tables.settings hf.tables) (by simp only [sessionOpen, State.setLanes_enc, hf.enc])
      (fun _ hv => by rwa [State.setLanes_vdm, hf.vdm]) hs
  refine ⟨fun l => (h.enabled l).trans ((hs.1 l).trans ?_), hdeadlines⟩
  rw [hf.osc, laneEnabled_congr (by rw [hf.tables])]

theorem of_link (h : LinkMoved s t) : Kept s t := by
  have hf := h.frame
  refine ⟨h.legal, candidatesLegal_congr hf.candidates, storeLegal_congr hf.store hf.lines hf.phase hf.mgu (by rw [hf.osc]),
    fun ⟨hlanes, hundated, hactivity, hdelay, hpending, hreport, hpart, hdormant⟩ => ⟨fun l => ?_, ?_, ?_, ?_, ?_, ?_, ?_, ?_⟩,
    sessionLegal_congr hf.enc hf.phase (by rw [hf.osc])⟩
  · rw [State.lane, hf.lanes, hf.osc, laneEnabled_congr (s := s) (by rw [hf.tables])]
    exact hlanes l
  · simpa only [hf.osc, hf.wheel] using hundated
  · simpa only [hf.osc] using hactivity
  · simpa only [hf.osc] using hdelay
  · simpa only [hf.osc, sessionOpen, hf.enc] using hpending
  · simpa only [hf.osc, h.reports] using hreport
  · simpa only [hf.osc, h.partStatuses] using hpart
  · simpa only [hf.osc, hf.vdm] using hdormant

end Kept

/-! ### The take of a request and its answer (R166) -/

/-- The part with the request taken from the FIFO. -/
def dequeued (s : State) : State := s.setLink { s.link with requests := s.link.requests.tail }

theorem dequeued_moved (s : State) : LinkMoved s (dequeued s) :=
  .setLink rfl rfl fun ⟨hrequests, h⟩ => ⟨by rw [State.setLink_link, List.length_tail]; omega, h⟩

theorem takeOff_lawful (s : State) : Lawful (dequeued s) (takeOff s) := by
  refine Lawful.trans (.ite (fun h => enterState_lawful_of_not_active ?_) fun _ => .refl _) (notice_lawful _ _)
  exact fun ha => OpState.noConfusion (ha.symm.trans h)

theorem takeOff_answers (s : State) : answersOutstanding (takeOff s) = answersOutstanding s := (takeOff_lawful s).link.answers

theorem takeOff_kept (s : State) : Kept s (takeOff s) := (Kept.of_link (dequeued_moved s)).trans (takeOff_lawful s).kept

theorem respond_answers (code tag : Byte) (result : ResultCode) (bytes : List Byte) (s : State) :
    answersOutstanding (respond code tag result bytes s) = answersOutstanding s + 1 := by
  have hbuffer : bufferedAnswers (respond code tag result bytes s).link = bufferedAnswers s.link := rfl
  have hdeferred : deferredAnswers (respond code tag result bytes s).osc = deferredAnswers s.osc := rfl
  have hresponses : (respond code tag result bytes s).link.responses.length = s.link.responses.length + 1 := List.length_append
  rw [answersOutstanding_eq, answersOutstanding_eq, hbuffer, hdeferred, hresponses]
  omega

theorem respond_moved {s : State} (code tag : Byte) (result : ResultCode) (bytes : List Byte) (hroom : answersOutstanding s < 4) :
    LinkMoved s (respond code tag result bytes s) := by
  refine ⟨(respond_frame code tag result bytes s).mono (by decide), rfl, rfl, fun ⟨hrequests, _, hrest⟩ => ⟨hrequests, ?_, hrest⟩⟩
  rw [respond_answers]
  exact hroom

/-! ### Resets -/

/-- What a reset establishes, whatever held before. -/
theorem enterStarting_laws (before : Link) (s : State) :
    LinkLegal (enterStarting before s) ∧ CandidatesLegal (enterStarting before s) ∧ StoreLegal (enterStarting before s)
      ∧ ModeLaw (enterStarting before s) ∧ SessionLegal (enterStarting before s) := by
  have h := enterStarting_restarting before s
  have hlanes : (enterStarting before s).lanes = Vector.replicate 4 .reset := by
    rw [enterStarting_eq, (startingFrom_frame _ _).lanes, (loadTables_frame _).lanes]
    rfl
  have hlink : ∃ state rate rates deadline, (enterStarting before s).link = .cleared state rate rates deadline := by
    rw [h.link, resetLink]
    split <;> exact ⟨_, _, _, _, rfl⟩
  have hstore : ∃ dirty invalid, (enterStarting before s).store = { Store.reset with dirty := dirty, invalid := invalid } := by
    by_cases hc : ∃ c, s.image = imageOf c
    · obtain ⟨c, hc⟩ := hc
      exact ⟨_, _, (h.loaded c hc).2.1⟩
    · exact ⟨_, _, (h.notLoaded (not_exists.1 hc)).2.1⟩
  obtain ⟨state, rate, rates, deadline, hlink⟩ := hlink
  obtain ⟨dirty, invalid, hstore⟩ := hstore
  have hwheels := h.wheels
  generalize enterStarting before s = t at *
  refine ⟨?_, ?_, ?_, ⟨fun l => ?_, ?_⟩, ?_⟩
  · simp [LinkLegal, answersOutstanding_eq, bufferedAnswers, deferredAnswers, hlink, Link.cleared, h.osc, Controller.reset]
  · simp [CandidatesLegal, h.candidates]
  · simp [StoreLegal, saveInFlight, hstore, Store.reset, h.mgu, h.osc, Controller.reset]
  · simp [State.lane, hlanes, Lane.reset, laneEnabled, h.osc, Controller.reset]
  · simp [DeadlinesLegal, h.osc, hlink, Link.cleared, Controller.reset, hwheels, WheelRecord.fresh]
  · simp [SessionLegal, h.enc, Enrolment.reset]

theorem enterStarting_kept (before : Link) (s : State) {u : State} : Kept u (enterStarting before s) :=
  have ⟨hlink, hcandidates, hstore, hmode, hsession⟩ := enterStarting_laws before s
  ⟨fun _ => hlink, fun _ => hcandidates, fun _ => hstore, fun _ => hmode, fun _ => hsession⟩

/-- The part without its volatile state, before the reset that must follow. -/
theorem clearVolatile_laws (s : State) (p : Phase) :
    LinkLegal ((clearVolatile s).setPhase p) ∧ CandidatesLegal ((clearVolatile s).setPhase p)
      ∧ StoreLegal ((clearVolatile s).setPhase p) ∧ SessionLegal ((clearVolatile s).setPhase p) := by
  rw [clearVolatile_eq]
  refine ⟨?_, ?_, ?_, ?_⟩
  · simp [LinkLegal, answersOutstanding_eq, bufferedAnswers, deferredAnswers, cleared, Link.cleared, Controller.reset]
  · simp [CandidatesLegal, cleared]
  · simp [StoreLegal, saveInFlight, cleared, Store.reset, Controller.reset]
  · simp [SessionLegal, cleared, Enrolment.reset]

/-! ### A save completed (R148, R160, R161) -/

theorem deferredOffline_taken {s : State} : (takeDeferredOffline s).osc.deferredOffline = none := by
  cases h : s.osc.deferredOffline with
  | none => rw [takeDeferredOffline_of_none h, h]
  | some tag =>
    by_cases hclosed : s.enc.session = none
    · rw [takeDeferredOffline_of_closed h hclosed]
      exact (enterState_linkKept .offline { s with osc := { s.osc with deferredOffline := none } }).deferred
    · rw [takeDeferredOffline_of_open h hclosed]
      rfl

/-- The deferred exit into OFFLINE: its answer takes the place that it held among the answers outstanding. -/
theorem takeDeferredOffline_laws (s : State) :
    (LinkLegal s → LinkLegal (takeDeferredOffline s)) ∧ (ModeLaw s → ModeLaw (takeDeferredOffline s))
      ∧ (SessionLegal s → SessionLegal (takeDeferredOffline s)) := by
  cases h : s.osc.deferredOffline with
  | none =>
    rw [takeDeferredOffline_of_none h]
    exact ⟨id, id, id⟩
  | some tag =>
    let free : State := { s with osc := { s.osc with deferredOffline := none } }
    have hfree : answersOutstanding s = answersOutstanding free + 1 := by
      simp [answersOutstanding_eq, bufferedAnswers, deferredAnswers, free, h]
    have hanswered : ∀ result {u : State}, Lawful free u →
        (LinkLegal s → LinkLegal (respond 0x03 tag result [] u)) ∧ (ModeLaw s → ModeLaw (respond 0x03 tag result [] u))
          ∧ (SessionLegal s → SessionLegal (respond 0x03 tag result [] u)) := fun result u hu => by
      refine ⟨fun hs => ?_, fun hs => hu.mode (s := free) hs, fun hs => hu.session (s := free) hs⟩
      obtain ⟨hrequests, hanswers, hrest⟩ := hs
      have hroom : answersOutstanding u < 4 := by
        rw [hu.link.answers]
        omega
      exact (respond_moved _ tag result [] hroom).legal (hu.link.legal ⟨hrequests, by omega, hrest⟩)
    by_cases hclosed : s.enc.session = none
    · rw [takeDeferredOffline_of_closed h hclosed]
      exact hanswered .ok (enterState_lawful fun _ => hclosed)
    · rw [takeDeferredOffline_of_open h hclosed]
      exact hanswered .wrongState (.refl free)

/-- While a save is in flight its law does not read the requests that wait. -/
theorem storeLegal_of_saving {s t : State} (hstore : t.store = s.store) (hlines : t.lines = s.lines) (hphase : t.phase = s.phase)
    (hflight : saveInFlight s = true) (h : StoreLegal s) : StoreLegal t := by
  obtain ⟨h1, h2, h3, h4, h5, -, h7⟩ := h
  have hflight' : saveInFlight t = true := by rwa [saveInFlight, hstore]
  have hsame : saveInFlight t = saveInFlight s := hflight'.trans hflight.symm
  exact ⟨by rwa [hstore, hsame], by rwa [hstore, hlines], by rwa [hstore, hlines], by rwa [hstore], by rwa [hstore],
    fun _ => hflight', by rwa [hphase, hsame]⟩

/-- An idle store with nothing waiting. -/
theorem storeLegal_of_idle {s : State} (hstate : s.store.state = .idle) (hcaptured : s.store.captured = none)
    (hremaining : s.store.remaining = 0) (hresume : s.store.resumeAt = none) (hagain : s.store.saveAgain = false)
    (hrestart : s.mgu.deferredRestart = none) (hoffline : s.osc.deferredOffline = none) : StoreLegal s := by
  simp [StoreLegal, saveInFlight, hstate, hcaptured, hremaining, hresume, hagain, hrestart, hoffline]

/-- What the completion leaves once the exit into OFFLINE that waited has been taken, and no restart waits for it. -/
theorem offlineTaken_store (c : Tables) {s : State} (hrun : s.phase = .running)
    (hrestart : saveInFlight (savedAgain c s) = false → s.mgu.deferredRestart = none) :
    StoreLegal (takeDeferredOffline (savedAgain c s)) := by
  have hf := takeDeferredOffline_frame (savedAgain c s)
  by_cases hagain : s.store.saveAgain = true
  · have hbegun : savedAgain c s = startSave (savedState c s) := if_pos hagain
    rw [hbegun] at hf ⊢
    exact storeLegal_of_saving hf.store hf.lines hf.phase (saveInFlight_startSave _) (begunStore_legal (s := savedState c s) hrun)
  · have hidle : savedAgain c s = savedState c s := if_neg hagain
    rw [hidle] at hf hrestart ⊢
    exact storeLegal_of_idle (by rw [hf.store]; rfl) (by rw [hf.store]; rfl) (by rw [hf.store]; rfl) (by rw [hf.store]; rfl)
      (by rw [hf.store]; rfl) (by rw [hf.mgu]; exact hrestart rfl) deferredOffline_taken

theorem completeSave_kept (c : Tables) {s : State} (hrun : s.phase = .running) : Kept s (completeSave c s) := by
  have hdone : completeSave c s = takeDeferredRestart (takeDeferredOffline (savedAgain c s)) := rfl
  have hsaved : Frame [.image, .store, .evq, .saves] s (savedAgain c s) := savedAgain_frame c s
  have hmode : ModeLaw s → ModeLaw (savedAgain c s) :=
    modeLaw_of_work (.of_frame hsaved) hsaved.lanes (by rw [hsaved.tables]) (by rw [sessionOpen, sessionOpen, hsaved.enc])
      fun _ hv => by rwa [hsaved.vdm]
  have hsession : SessionLegal s → SessionLegal (savedAgain c s) :=
    sessionLegal_congr hsaved.enc hsaved.phase (by rw [hsaved.osc])
  obtain ⟨hlink, hmode', hsession'⟩ := takeDeferredOffline_laws (savedAgain c s)
  have hoffline := takeDeferredOffline_frame (savedAgain c s)
  rw [hdone]
  by_cases hwarm : (takeDeferredOffline (savedAgain c s)).mgu.deferredRestart.isSome = true
      ∧ (!saveInFlight (takeDeferredOffline (savedAgain c s))) = true
  · rw [takeDeferredRestart, if_pos hwarm]
    exact enterStarting_kept _ _
  · rw [takeDeferredRestart, if_neg hwarm]
    refine ⟨fun hs => hlink ((LinkKept.of_same hsaved.link hsaved.osc).legal hs),
      fun hs => candidatesLegal_congr hoffline.candidates (candidatesLegal_congr hsaved.candidates hs),
      fun _ => offlineTaken_store c hrun fun hidle => ?_, fun hs => hmode' (hmode hs), fun hs => hsession' (hsession hs)⟩
    have hflight : saveInFlight (takeDeferredOffline (savedAgain c s)) = false := by rwa [saveInFlight, hoffline.store]
    rw [hflight, hoffline.mgu, hsaved.mgu] at hwarm
    simpa using hwarm

/-! ### Every effect -/

theorem Deferral.kept {b u : State} (h : Deferral b u) (hroom : answersOutstanding b < 4) : Kept b u := by
  cases h
  case restart => exact enterStarting_kept _ _
  case restartLater tag hflight =>
    exact ⟨id, id, storeLegal_of_saving (s := b) rfl rfl rfl hflight, id, id⟩
  case offlineLater tag hflight hfree _ =>
    refine ⟨fun ⟨hrequests, _, hrest⟩ => ⟨hrequests, ?_, hrest⟩, id, storeLegal_of_saving (s := b) rfl rfl rfl hflight, id, id⟩
    have hone : answersOutstanding (b.setOsc { b.osc with deferredOffline := some tag }) = answersOutstanding b + 1 := by
      simp [answersOutstanding_eq, deferredAnswers, hfree]
    omega

theorem Work.kept {s t : State} (h : Work s t) (hrun : s.phase = .running) : Kept s t := by
  have htaken : (takeOff s).phase = .running := (takeOff_frame s).phase.trans hrun
  cases h
  case nothing => exact .refl s
  case ignition on => exact (ignitionTo_lawful on s).kept
  case crankOn => exact (crankAssert_lawful s).kept
  case crankOff => exact (crankRelease_lawful s).kept
  case resume => exact (resumeExpiry_lawful s).kept
  case saved c _ _ => exact completeSave_kept c hrun
  case loaded h => exact (enterState_lawful_of_not_active fun ha => OpState.noConfusion (ha.symm.trans h)).kept
  case parks h => exact (parkDelayDone_lawful h).kept
  case sleeps h => exact (enterState_lawful_of_not_active fun ha => OpState.noConfusion (ha.symm.trans h)).kept
  case bit h => exact .of_bit h
  case link h => exact .of_link h
  case record x rest _ _ =>
    exact (Lawful.of_wheels (.of_frame (setHanded_frame rest s)) (setHanded_frame rest s) |>.trans
      (acceptRecord_lawful x (s := s.setHanded rest) hrun)).kept
  case window =>
    exact ((((setTrailer_lawful _ s).trans (setWindow_lawful _ _)).trans (setRecog_lawful _ _)).trans (.raiseEvent _ _ _ _)).kept
  case aged => exact (Lawful.trans (.setCandidates (candidatesLegal_filter _)) (settleProposal_lawful _)).kept
  case stale r _ => exact (Lawful.of_wheels (goStale_work r s) (goStale_frame r s)).kept
  case missing r _ => exact (Lawful.of_wheels (goMissing_work r s) (goMissing_frame r s)).kept
  case repeats r =>
    have hw : WheelWork s (alertRepeatExpiry r s) :=
      .ite (.ite (announceAlert_work r s) (.of_putWheel_same rfl rfl rfl)) (.refl s)
    exact (Lawful.of_wheels hw (alertRepeatExpiry_frame r s)).kept
  case due r => exact ((Lawful.putEpisode r _ s).trans (search_lawful _)).kept
  case stepTimeout => exact (endSession_lawful _ s).kept
  case vehicle data hawake _ =>
    exact (Kept.of_link (fixRate_moved s)).trans (takeVehicleData_lawful data (by rwa [(fixRate_frame s).osc])).kept
  case frameTimeout => exact (frameTimeout_lawful s).kept
  case settle u load => exact (applyLoad_lawful u load s).kept
  case request code tag result bytes hmay hact =>
    have hlawful := hact.lawful htaken
    refine ((takeOff_kept s).trans hlawful.kept).trans (.of_link (respond_moved code tag result bytes ?_))
    rw [hlawful.link.answers, takeOff_answers]
    exact of_decide_eq_true hmay
  case defers hmay hlater =>
    exact (takeOff_kept s).trans (hlater.kept (by rw [takeOff_answers]; exact of_decide_eq_true hmay))

/-- The laws that every step keeps, each by itself; the mode has one only while the part runs. -/
structure StepLaws (s t : State) : Prop where
  events : EventsLegal s → EventsLegal t
  link : LinkLegal s → LinkLegal t
  candidates : CandidatesLegal s → CandidatesLegal t
  store : StoreLegal s → StoreLegal t
  mode : ModeLegal s → ModeLegal t
  session : SessionLegal s → SessionLegal t

/-- A part that is cleared and does not run. -/
theorem clearVolatile_stepLaws {s u : State} (p : Phase) (hp : p ≠ .running) : StepLaws s ((clearVolatile u).setPhase p) := by
  obtain ⟨hlink, hcandidates, hstore, hsession⟩ := clearVolatile_laws u p
  refine ⟨fun _ => ?_, fun _ => hlink, fun _ => hcandidates, fun _ => hstore, fun _ hrun => absurd hrun hp, fun _ => hsession⟩
  rw [clearVolatile_eq]
  exact ⟨Nat.zero_le 64, fun h => absurd h Bool.false_ne_true⟩

theorem enterStarting_stepLaws (before : Link) {s u : State} : StepLaws s (enterStarting before u) :=
  have ⟨hlink, hcandidates, hstore, hmode, hsession⟩ := enterStarting_laws before u
  ⟨fun _ => reset_events before u, fun _ => hlink, fun _ => hcandidates, fun _ => hstore, fun _ _ => hmode, fun _ => hsession⟩

theorem Effect.laws {s t : State} (h : Effect s t) : StepLaws s t := by
  cases h
  case works hrun hwork =>
    have hkept := hwork.kept hrun
    exact ⟨(hwork.standing hrun).events, hkept.link, hkept.candidates, hkept.store, fun hs _ => hkept.mode (hs hrun), hkept.session⟩
  case stopped => exact ⟨id, id, id, id, id, id⟩
  case lines l hl =>
    refine ⟨id, id, id, fun ⟨h1, h2, h3, h4, h5, h6, h7⟩ => ?_, id, id⟩
    rcases hl with hstopped | ⟨hcrank, -⟩
    · have hidle : s.store.state = .idle := by simpa [saveInFlight] using h7 hstopped
      refine ⟨h1, fun h => ?_, fun h => ?_, h4, h5, h6, h7⟩
      · rcases h with h | h <;> cases hidle.symm.trans h
      · cases hidle.symm.trans h
    · exact ⟨h1, fun h => hcrank.trans (h2 h), fun h => hcrank.trans (h3 h), h4, h5, h6, h7⟩
  case cold => exact enterStarting_stepLaws _
  case loss => exact clearVolatile_stepLaws .off (by decide)
  case asserted => exact clearVolatile_stepLaws .inReset (by decide)
  case released => exact enterStarting_stepLaws _

/-! ### A millisecond -/

theorem advanceClock_lawful (s : State) : Lawful s (advanceClock s) :=
  .of_wheels (.of_frame (setClock_frame _ s)) (setClock_frame _ s)

theorem growEpisodes_frame (s : State) : Frame [.episodes] s (growEpisodes s) := .ite (setEpisodes_frame _ s) (.refl _ s)

theorem spendWriteTime_frame (s : State) : Frame [.store] s (spendWriteTime s) := .ite (setStore_frame _ s) (.refl _ s)

theorem spendWriteTime_lawful (s : State) : Lawful s (spendWriteTime s) :=
  .ite (fun _ => .setStore fun ⟨h1, h2, h3, h4, h5, h6, h7⟩ => ⟨h1, h2, h3, h4, (Nat.sub_le _ 1).trans h5, h6, h7⟩) fun _ => .refl s

theorem running_tick_lawful (s : State) : Lawful s (spendWriteTime (growEpisodes (advanceClock s))) :=
  ((advanceClock_lawful s).trans (.of_wheels (.of_frame (growEpisodes_frame _)) (growEpisodes_frame _))).trans (spendWriteTime_lawful _)

theorem tick_laws (s : State) : StepLaws s (tick s) := by
  cases hphase : s.phase with
  | off =>
    rw [tick, hphase]
    exact ⟨id, id, id, id, id, id⟩
  | inReset =>
    rw [tick, hphase]
    have h := (advanceClock_lawful s).kept
    exact ⟨id, h.link, h.candidates, h.store, fun _ hrun => absurd (hphase.symm.trans hrun) (by decide), h.session⟩
  | running =>
    rw [tick, hphase]
    have h := (running_tick_lawful s).kept
    have hevents : Standing (advanceClock s) (spendWriteTime (growEpisodes (advanceClock s))) :=
      (Standing.of_frame (growEpisodes_frame _)).trans (.of_frame (spendWriteTime_frame _))
    exact ⟨hevents.events, h.link, h.candidates, h.store, fun hs _ => h.mode (hs hphase), h.session⟩

/-! ### Every step -/

/-- A step is a command run on the rest of the queue, or a millisecond. -/
theorem step_cases {s t : State} (h : step s = .next t) :
    (s.pending = [] ∧ t = tick s) ∨ ∃ c rest, s.pending = c :: rest ∧ Effect (s.setPending rest) t := by
  unfold step at h
  split at h
  · next c rest hp => exact .inr ⟨c, rest, hp, exec_effect h⟩
  · next hp => exact .inl ⟨hp, (Host.Outcome.next.inj h).symm⟩

theorem step_laws {s t : State} (h : step s = .next t) : StepLaws s t := by
  rcases step_cases h with ⟨-, rfl⟩ | ⟨c, rest, -, heffect⟩
  · exact tick_laws s
  · obtain ⟨h1, h2, h3, h4, h5, h6⟩ := heffect.laws
    exact ⟨h1, h2, h3, h4, h5, h6⟩

/-- Settles O55: the four laws of the queues, the lists and the saves, each by itself. -/
theorem queuesAndSavesStayLawful : Obligations.QueuesAndSavesStayLawful := fun _ _ h =>
  have hlaws := step_laws h
  ⟨hlaws.events, hlaws.link, hlaws.candidates, hlaws.store⟩

/-- Settles O56, by the law of sessions through every operation that opens, moves or closes one. -/
theorem sessionsStayLawful : Obligations.SessionsStayLawful := fun _ _ hs h => (step_laws h).session hs

/-- Settles O58: a change of the operating state establishes what it decides, and every other effect keeps it. -/
theorem operatingStateRules : Obligations.OperatingStateRules := fun _ _ hs h => (step_laws h).mode hs

end Sys2Proof.Machine
end

section
/-! The factory tables within their ranges, and the state after reset: the settlement of O54. -/

namespace Sys2Proof.Machine

set_option Elab.async false

theorem factory_groupLegal : GroupLegal .factory := by decide

theorem factory_settingsLegal : SettingsLegal .factory := by decide

theorem factory_rosterLegal : RosterLegal (Vector.replicate 4 .free) := by
  refine ⟨fun k _ => by simp, fun j k _ h => ?_, fun k t _ => ?_⟩
  · simp [RosterEntry.free] at h
  · simp [RosterEntry.free]

theorem factory_tablesLegal : TablesLegal .factory := by
  refine ⟨factory_settingsLegal, fun g => ?_, by decide, by decide, by decide, by decide, factory_rosterLegal, fun r _ => ?_⟩
  · simpa [Tables.factory] using factory_groupLegal
  · simp [Tables.factory]

/-- The factory tables hold no sensor. -/
theorem heldIds_factory : heldIds .factory = [] := by decide

theorem factory_heldLegal : HeldLegal .factory := by
  rw [HeldLegal, heldIds_factory]
  exact ⟨.nil, rfl⟩

theorem reset_wheel (r : Row) : State.reset.wheel r = .fresh .vacant := by simp [State.wheel, State.reset]

theorem reset_rowId (r : Row) : rowId .reset r = none := by simp [rowId, State.reset, Tables.factory]

theorem reset_wheelsLegal : WheelsLegal .reset := fun r => by
  refine ⟨?_, ?_, ?_, fun _ => ?_, fun _ => ?_⟩
  · rw [reset_wheel]
    exact ringLegal_nil
  · rw [AnnouncedLegal, reset_wheel]
    exact (announcedOf_zero _).symm
  · rw [ImbalanceLegal, reset_wheel, reset_wheel]
  · rw [reset_wheel]
    exact iff_of_true rfl (reset_rowId r)
  · rw [reset_wheel]
    rfl

theorem reset_modeLegal : ModeLegal .reset := fun _ => by
  refine ⟨fun l => iff_of_true ?_ rfl, fun _ r => ?_, by decide, by decide, by decide, by decide, by decide, by decide⟩
  · simp [State.lane, State.reset, Lane.reset]
  · rw [reset_wheel]
    exact ⟨rfl, rfl⟩

theorem allTables_of_reset {law : Tables → Prop} (h : law .factory) : AllTables law .reset := by
  refine ⟨h, fun c hc => ?_, fun c crc hc => ?_⟩
  · cases hc
  · cases hc

theorem reset_identityLegal : IdentityLegal .reset := by
  refine ⟨allTables_of_reset factory_heldLegal, fun c hc => ?_, fun p hp => ?_, fun hopen => ?_, fun t ht => ?_⟩
  · cases hc
  · cases hp
  · cases hopen
  · cases ht

/-- Settles O54, law by law. -/
theorem resetIsSafe : Obligations.ResetIsSafe := by
  refine ⟨by decide, by decide, by decide, ?_, ?_, reset_wheelsLegal, by decide, reset_modeLegal, allTables_of_reset factory_tablesLegal,
    reset_identityLegal⟩
  · simp [SessionLegal, State.reset, Enrolment.reset]
  · simp [ProposalLegal, State.reset, Enrolment.reset]

end Sys2Proof.Machine
end

section
/-! What a restart leaves, row by row (R79): the records of the rows restarted whole, and of their partners outside the rows. -/

namespace Sys2Proof.Machine

set_option Elab.async false

/-! ### Rows and their partners -/

@[simp] theorem partner_partner (r : Row) : partner (partner r) = r := by revert r; decide

theorem partner_ne (r : Row) : partner r ≠ r := by revert r; decide

theorem partner_axle (r : Row) : rowAxle (partner r) = rowAxle r := by revert r; decide

theorem partner_trailer_iff (r : Row) : 20 ≤ (partner r).val ↔ 20 ≤ r.val := by revert r; decide

theorem outerRow_eq (r : Row) : outerRow r = r ∨ outerRow r = partner r := by revert r; decide

theorem mem_allRows (r : Row) : r ∈ allRows := List.mem_finRange r

theorem mem_trailerRows (r : Row) : r ∈ trailerRows ↔ 20 ≤ r.val := by simp [trailerRows, mem_allRows]

theorem mem_axleRows (a : AxleNo) (r : Row) : r ∈ axleRows a ↔ rowAxle r = a := by simp [axleRows, mem_allRows]

theorem rowHolding_eq_some {s : State} {id : SensorId} {r : Row} (h : rowHolding s id = some r) : rowId s r = some id := by
  simpa using List.find?_some h

/-! ### Condition sets -/

theorem withCond_of_hasCond {set : ConditionSet} {c : Condition} {on : Bool} (h : hasCond set c = on) : withCond set c on = set := by
  refine BitVec.eq_of_getLsbD_eq fun i hi => ?_
  have hbit : (condBit c).getLsbD i = decide (i = c.code.val) := by
    have hcode := c.code.isLt
    rw [condBit, BitVec.getLsbD_twoPow, decide_eq_true (show c.code.val < 16 by omega), Bool.true_and]
    exact decide_eq_decide.2 eq_comm
  have hat : i = c.code.val → set.getLsbD i = on := fun hic => hic ▸ h
  cases on
  · simp only [withCond, dropCond, if_neg Bool.false_ne_true, BitVec.getLsbD_and, BitVec.getLsbD_not, hbit, hi, decide_true, Bool.true_and]
    by_cases hic : i = c.code.val
    · simp [hat hic]
    · simp [hic]
  · rw [withCond, if_pos rfl, addCond, BitVec.getLsbD_or, hbit]
    by_cases hic : i = c.code.val
    · rw [hat hic, Bool.true_or]
    · rw [decide_eq_false hic, Bool.or_false]

theorem dropCond_of_absent {set : ConditionSet} {c : Condition} (h : hasCond set c = false) : dropCond set c = set :=
  withCond_of_hasCond (on := false) h

theorem dropCond_dropCond (set : ConditionSet) (c : Condition) : dropCond (dropCond set c) c = dropCond set c :=
  dropCond_of_absent (by simp)

theorem dropCond_zero (c : Condition) : dropCond 0 c = 0 := dropCond_of_absent (hasCond_zero c)

theorem highest_zero_repeats : (highest 0).repeats = false := by decide

/-! ### One record announced anew -/

/-- A record that differs in its conditions and what is announced of them alone. -/
abbrev SameReading (w v : WheelRecord) : Prop :=
  v = { w with active := v.active, counters := v.counters, announced := v.announced, repeatAt := v.repeatAt }

theorem SameReading.refl (w : WheelRecord) : SameReading w w := rfl

theorem SameReading.trans {u v w : WheelRecord} (h : SameReading u v) (k : SameReading v w) : SameReading u w := by
  unfold SameReading at *
  rw [k, h]

theorem SameReading.status {w v : WheelRecord} (h : SameReading w v) : v.status = w.status := by rw [h]

theorem SameReading.pc {w v : WheelRecord} (h : SameReading w v) : v.pc = w.pc := by rw [h]

theorem SameReading.pg {w v : WheelRecord} (h : SameReading w v) : v.pg = w.pg := by rw [h]

theorem announceAlert_wheel_quiet {r : Row} {s : State} (hlevel : (s.wheel r).announcedLevel.repeats = false)
    (hnone : (s.wheel r).repeatAt = none) (q : Row) : (announceAlert r s).wheel q = s.wheel q := by
  have hqueued : ∀ q, (queueAlert r s).wheel q = s.wheel q := fun q => (queueAlert_frame r s).wheel q
  unfold announceAlert
  dsimp only
  split
  · exact hqueued q
  · rw [putWheel_wheel, hqueued, hqueued]
    split
    · next h => rw [h, hlevel, if_neg Bool.false_ne_true, ← hnone]
    · rfl

/-- A record whose announced set will not repeat, and is not repeated, has its set alone changed. -/
theorem reannounce_wheel_quiet {r : Row} {s : State}
    (hlevel : (highest (announcedOf s.tables.announce (s.wheel r).active)).repeats = false) (hnone : (s.wheel r).repeatAt = none)
    (q : Row) : (reannounce r s).wheel q =
      if q = r then { s.wheel r with announced := announcedOf s.tables.announce (s.wheel r).active } else s.wheel q := by
  by_cases h : announcedOf s.tables.announce (s.wheel r).active = (s.wheel r).announced
  · have hsame : reannounce r s = s := if_pos h
    rw [hsame, h]
    split
    · next hq => rw [hq]
    · rfl
  · let w : WheelRecord := { s.wheel r with
      announced := announcedOf s.tables.announce (s.wheel r).active
      repeatAt := if (highest (announcedOf s.tables.announce (s.wheel r).active)).repeats then (s.wheel r).repeatAt else none }
    have hw : w = { s.wheel r with announced := announcedOf s.tables.announce (s.wheel r).active } := by
      simp only [w, hlevel, if_neg Bool.false_ne_true, ← hnone]
    have hself : (putWheel r w s).wheel r = w := by rw [putWheel_wheel, if_pos rfl]
    have hput : (putWheel r w s).wheel q = if q = r then { s.wheel r with
        announced := announcedOf s.tables.announce (s.wheel r).active } else s.wheel q := by rw [putWheel_wheel, hw]
    have hgo : reannounce r s =
        if alertDue s.osc.state (highest (s.wheel r).announced) (highest (announcedOf s.tables.announce (s.wheel r).active)) then
          announceAlert r (putWheel r w s)
        else putWheel r w s := if_neg h
    rw [hgo]
    split
    · rw [announceAlert_wheel_quiet (by rw [hself]; exact hlevel) (by rw [hself, hw]; exact hnone), hput]
    · exact hput

/-- A record announced anew: its set follows its conditions, and nothing else moves but the repeat. -/
theorem reannounce_reading (r q : Row) (s : State) : SameReading (s.wheel q) ((reannounce r s).wheel q) := by
  obtain ⟨d, hd⟩ := reannounce_wheel r s
  rw [hd]
  split
  · next h => rw [h]
  · rfl

theorem reannounce_active (r q : Row) (s : State) : ((reannounce r s).wheel q).active = (s.wheel q).active := by
  obtain ⟨d, hd⟩ := reannounce_wheel r s
  rw [hd]
  split
  · next h => rw [h]
  · rfl

theorem reannounce_other {r q : Row} (h : q ≠ r) (s : State) : (reannounce r s).wheel q = s.wheel q := by
  obtain ⟨d, hd⟩ := reannounce_wheel r s
  rw [hd, if_neg h]

theorem reannounce_announced (r : Row) (s : State) :
    ((reannounce r s).wheel r).announced = announcedOf s.tables.announce (s.wheel r).active := by
  obtain ⟨d, hd⟩ := reannounce_wheel r s
  rw [hd, if_pos rfl]

theorem reannounce_osc (r : Row) (s : State) : (reannounce r s).osc = s.osc := (reannounce_frame r s).osc

/-! ### The restart of the rows themselves -/

/-- The record of a row restarted. -/
def restartedRecord (s : State) (r : Row) : WheelRecord :=
  if (rowId s r).isSome ∧ s.osc.state = .active then withDeadlines s r s.now (.fresh .awaiting)
  else .fresh (if (rowId s r).isSome then .awaiting else .vacant)

theorem restartedRecord_congr {c : List Field} {s t : State} (h : Frame c s t) (hosc : t.osc.state = s.osc.state) (r : Row)
    (k₁ : Field.tables ∉ c := by decide) (k₂ : Field.trailer ∉ c := by decide) (k₃ : Field.vdm ∉ c := by decide)
    (k₄ : Field.clock ∉ c := by decide) : restartedRecord t r = restartedRecord s r := by
  simp only [restartedRecord, withDeadlines, h.rowId k₁ k₂, hosc, h.now k₄, h.staleMs k₁ k₂ k₃, h.missingMs k₁ k₂ k₃]

theorem restartOne_wheel (r q : Row) (s : State) :
    (restartOne r s).wheel q = if q = r then restartedRecord s r else s.wheel q := by
  unfold restartOne
  dsimp only
  generalize hfresh : (if (rowId s r).isSome = true ∧ s.osc.state = .active then
      withDeadlines s r s.now { WheelRecord.fresh (if (rowId s r).isSome = true then .awaiting else .vacant) with
        announced := (s.wheel r).announced }
    else { WheelRecord.fresh (if (rowId s r).isSome = true then .awaiting else .vacant) with announced := (s.wheel r).announced }) = fresh
  have hactive : fresh.active = 0 := by rw [← hfresh]; split <;> rfl
  have hnone : fresh.repeatAt = none := by rw [← hfresh]; split <;> rfl
  have hrecord : { fresh with announced := 0 } = restartedRecord s r := by
    rw [← hfresh, restartedRecord]
    split
    · next h =>
      rw [if_pos h.1]
      rfl
    · rfl
  have hput : ∀ q, (putEpisode r .reset (putWheel r fresh s)).wheel q = if q = r then fresh else s.wheel q := fun q => by
    rw [(putEpisode_frame r .reset (putWheel r fresh s)).wheel, putWheel_wheel]
  have hself : (putEpisode r .reset (putWheel r fresh s)).wheel r = fresh := by rw [hput, if_pos rfl]
  rw [reannounce_wheel_quiet (by rw [hself, hactive, announcedOf_zero]; exact highest_zero_repeats) (by rw [hself, hnone]), hself, hactive,
    announcedOf_zero, hrecord, hput]
  split
  · rfl
  · rfl

theorem restartOne_osc (r : Row) (s : State) : (restartOne r s).osc = s.osc := reannounce_osc r _

theorem restartOne_episode (r q : Row) (s : State) : (restartOne r s).episode q = if q = r then .reset else s.episode q := by
  have hepisodes : ∀ t : State, (reannounce r t).episode q = t.episode q := fun t => by
    simp only [State.episode, (reannounce_frame r t).episodes]
  unfold restartOne
  dsimp only
  rw [hepisodes, putEpisode_episode]
  rfl

/-- The rows restarted, each once. -/
theorem restartOnes_wheel (rows : List Row) (s : State) :
    (∀ q, (forRows restartOne rows s).wheel q = if q ∈ rows then restartedRecord s q else s.wheel q)
      ∧ (∀ q, (forRows restartOne rows s).episode q = if q ∈ rows then .reset else s.episode q)
      ∧ (forRows restartOne rows s).osc = s.osc := by
  induction rows generalizing s with
  | nil => exact ⟨fun q => rfl, fun q => rfl, rfl⟩
  | cons r rows ih =>
    obtain ⟨hwheel, hepisode, hosc⟩ := ih (restartOne r s)
    refine ⟨fun q => (hwheel q).trans ?_, fun q => (hepisode q).trans ?_, hosc.trans (restartOne_osc r s)⟩
    · rw [restartedRecord_congr (restartOne_frame r s) (by rw [restartOne_osc]), restartOne_wheel]
      by_cases hq : q = r
      · subst hq
        simp
      · simp [hq]
    · rw [restartOne_episode]
      by_cases hq : q = r
      · subst hq
        simp
      · simp [hq]

/-! ### The partners outside the rows -/

theorem clearIfActive_wheel (r q : Row) (c : Condition) (s : State) :
    SameReading (s.wheel q) ((clearIfActive r c s).wheel q)
      ∧ (q ≠ r → (clearIfActive r c s).wheel q = s.wheel q)
      ∧ ((clearIfActive r c s).wheel r).active = dropCond (s.wheel r).active c := by
  unfold clearIfActive
  split
  · refine ⟨?_, fun h => ?_, ?_⟩
    · rw [setCondition_wheel]
      split
      · next h => rw [h]
      · rfl
    · rw [setCondition_wheel, if_neg h]
    · rw [setCondition_wheel, if_pos rfl]
      rfl
  · next h => exact ⟨rfl, fun _ => rfl, (dropCond_of_absent (Bool.not_eq_true _ ▸ h)).symm⟩

theorem setCondition_false_osc (r : Row) (c : Condition) (s : State) : (setCondition r c false s).osc = s.osc := by
  unfold setCondition
  dsimp only
  rw [if_neg fun h => absurd h.1 Bool.false_ne_true]
  rfl

theorem clearIfActive_osc (r : Row) (c : Condition) (s : State) : (clearIfActive r c s).osc = s.osc := by
  unfold clearIfActive
  split
  · exact setCondition_false_osc r c s
  · rfl

/-- The record of a partner outside the rows, which the shared IMBALANCE leaves. -/
structure Uncoupled (rows : List Row) (s t : State) (q : Row) : Prop where
  outside : q ∉ rows
  imbalance : hasCond (s.wheel (partner q)).active .imbalance = true
  active : (t.wheel q).active = dropCond (s.wheel q).active .imbalance
  announced : (t.wheel q).announced = announcedOf s.tables.announce (t.wheel q).active

theorem restartPartner_wheel (rows : List Row) (r q : Row) (s : State) :
    SameReading (s.wheel q) ((restartPartner rows r s).wheel q)
      ∧ ((restartPartner rows r s).wheel q = s.wheel q ∨ (q = partner r ∧ Uncoupled rows s (restartPartner rows r s) q))
      ∧ (q = partner r → q ∉ rows → hasCond (s.wheel r).active .imbalance = true →
        ((restartPartner rows r s).wheel q).active = dropCond (s.wheel q).active .imbalance) := by
  unfold restartPartner
  split
  case isFalse h =>
    refine ⟨rfl, .inl rfl, fun hq hout himb => absurd ⟨himb, ?_⟩ h⟩
    rwa [← hq]
  case isTrue h =>
    obtain ⟨himb, hout⟩ := h
    obtain ⟨hreading, hother, hactive⟩ := clearIfActive_wheel (partner r) q .imbalance s
    have htables : (clearIfActive (partner r) .imbalance s).tables = s.tables := (clearIfActive_frame _ _ s).tables
    by_cases hq : q = partner r
    · subst hq
      have hdropped : ((reannounce (partner r) (clearIfActive (partner r) .imbalance s)).wheel (partner r)).active
          = dropCond (s.wheel (partner r)).active .imbalance := by rw [reannounce_active, hactive]
      refine ⟨hreading.trans (reannounce_reading _ _ _), .inr ⟨rfl, hout, by rwa [partner_partner], hdropped, ?_⟩, fun _ _ _ => hdropped⟩
      rw [reannounce_announced, reannounce_active, htables]
    · refine ⟨hreading.trans (reannounce_reading _ _ _), .inl ?_, fun h => absurd h hq⟩
      rw [reannounce_other hq, hother hq]

theorem restartPartner_osc (rows : List Row) (r : Row) (s : State) : (restartPartner rows r s).osc = s.osc := by
  unfold restartPartner
  split
  · rw [reannounce_osc, clearIfActive_osc]
  · rfl

theorem restartPartner_inside {rows : List Row} {q : Row} (h : q ∈ rows) (r : Row) (s : State) :
    (restartPartner rows r s).wheel q = s.wheel q := by
  rcases (restartPartner_wheel rows r q s).2.1 with hsame | ⟨-, hun⟩
  · exact hsame
  · exact absurd h hun.outside

theorem restartPartners_wheel (rows : List Row) (done : List Row) (hdone : ∀ r ∈ done, r ∈ rows) (s : State) :
    (∀ q, SameReading (s.wheel q) ((forRows (restartPartner rows) done s).wheel q))
      ∧ (∀ q, (forRows (restartPartner rows) done s).wheel q = s.wheel q
          ∨ (partner q ∈ done ∧ Uncoupled rows s (forRows (restartPartner rows) done s) q))
      ∧ (∀ q, q ∉ rows → partner q ∈ done → hasCond (s.wheel (partner q)).active .imbalance = true →
        ((forRows (restartPartner rows) done s).wheel q).active = dropCond (s.wheel q).active .imbalance)
      ∧ (forRows (restartPartner rows) done s).osc = s.osc := by
  induction done generalizing s with
  | nil => exact ⟨fun _ => rfl, fun _ => .inl rfl, fun q _ h => absurd h List.not_mem_nil, rfl⟩
  | cons r done ih =>
    let one := restartPartner rows r s
    have hone := restartPartner_wheel rows r
    have htables : one.tables = s.tables := (restartPartner_frame rows r s).tables
    obtain ⟨hreading, hsplit, hactive, hosc⟩ := ih (fun r h => hdone r (List.mem_cons_of_mem _ h)) one
    have hinside : ∀ q, partner q ∈ done → one.wheel (partner q) = s.wheel (partner q) := fun q hq =>
      restartPartner_inside (hdone _ (List.mem_cons_of_mem _ hq)) r s
    refine ⟨fun q => (hone q s).1.trans (hreading q), fun q => ?_, fun q hout hmem himb => ?_, hosc.trans (restartPartner_osc rows r s)⟩
    · rcases hsplit q with hsame | ⟨hmem, hun⟩
      · rcases (hone q s).2.1 with hfirst | ⟨hq, hfirst⟩
        · exact .inl (hsame.trans hfirst)
        · refine .inr ⟨by rw [hq, partner_partner]; exact List.mem_cons_self, hfirst.outside, hfirst.imbalance, ?_, ?_⟩
          · exact (congrArg WheelRecord.active hsame).trans hfirst.active
          · have hann := hfirst.announced
            rw [← hsame] at hann
            exact hann
      · refine .inr ⟨List.mem_cons_of_mem _ hmem, hun.outside, ?_, ?_, htables ▸ hun.announced⟩
        · rw [← hinside q hmem]
          exact hun.imbalance
        · rcases (hone q s).2.1 with hfirst | ⟨-, hfirst⟩
          · exact hun.active.trans (by rw [show one.wheel q = s.wheel q from hfirst])
          · exact hun.active.trans (by rw [show (one.wheel q).active = _ from hfirst.active, dropCond_dropCond])
    · by_cases hlater : partner q ∈ done
      · refine (hactive q hout hlater (by rwa [hinside q hlater])).trans ?_
        rcases (hone q s).2.1 with hfirst | ⟨-, hfirst⟩
        · rw [show one.wheel q = s.wheel q from hfirst]
        · rw [show (one.wheel q).active = _ from hfirst.active, dropCond_dropCond]
      · have hq : q = partner r := by
          rcases List.mem_cons.1 hmem with h | h
          · rw [← h, partner_partner]
          · exact absurd h hlater
        have hfirst := (hone q s).2.2 hq hout (by rw [hq, partner_partner] at himb; exact himb)
        rcases hsplit q with hsame | ⟨h, -⟩
        · exact (congrArg WheelRecord.active hsame).trans hfirst
        · exact absurd h hlater

/-! ### The whole restart -/

/-- What a restart of `rows` leaves of every record. -/
structure RowsRestarted (rows : List Row) (s t : State) : Prop where
  restarted : ∀ r ∈ rows, t.wheel r = restartedRecord s r
  reading : ∀ q, q ∉ rows → SameReading (s.wheel q) (t.wheel q)
  outside : ∀ q, q ∉ rows → t.wheel q = s.wheel q ∨ (partner q ∈ rows ∧ Uncoupled rows s t q)
  uncoupled : ∀ q, q ∉ rows → partner q ∈ rows → hasCond (s.wheel (partner q)).active .imbalance = true →
    (t.wheel q).active = dropCond (s.wheel q).active .imbalance
  episodes : ∀ q, t.episode q = if q ∈ rows then .reset else s.episode q
  osc : t.osc = s.osc

theorem restartRows_restarted (rows : List Row) (s : State) : RowsRestarted rows s (restartRows rows s) := by
  have hframe : Frame wheelFields s (forRows (restartPartner rows) rows s) := .forRows _ (fun r s => restartPartner_frame rows r s) rows s
  obtain ⟨hreading, hsplit, hactive, hosc⟩ := restartPartners_wheel rows rows (fun _ h => h) s
  unfold restartRows
  generalize forRows (restartPartner rows) rows s = u at hframe hreading hsplit hactive hosc
  obtain ⟨hwheel, hepisode, hosc'⟩ := restartOnes_wheel rows u
  have hout : ∀ q, q ∉ rows → (forRows restartOne rows u).wheel q = u.wheel q := fun q hq => (hwheel q).trans (if_neg hq)
  refine ⟨fun r hr => ?_, fun q hq => ?_, fun q hq => ?_, fun q hq hp himb => ?_, fun q => ?_, hosc'.trans hosc⟩
  · rw [hwheel, if_pos hr, restartedRecord_congr hframe (by rw [hosc])]
  · rw [hout q hq]
    exact hreading q
  · rcases hsplit q with hsame | ⟨hp, hun⟩
    · exact .inl ((hout q hq).trans hsame)
    · refine .inr ⟨hp, hun.outside, hun.imbalance, ?_, ?_⟩
      · rw [hout q hq]
        exact hun.active
      · rw [hout q hq]
        exact hun.announced
  · rw [hout q hq]
    exact hactive q hq hp himb
  · rw [hepisode]
    simp only [State.episode, hframe.episodes]

namespace RowsRestarted

variable {rows : List Row} {s t : State}

/-- A row neither restarted nor the partner of one keeps its record. -/
theorem kept (h : RowsRestarted rows s t) {q : Row} (hq : q ∉ rows) (hp : partner q ∉ rows) : t.wheel q = s.wheel q := by
  rcases h.outside q hq with hsame | ⟨hmem, -⟩
  · exact hsame
  · exact absurd hmem hp

end RowsRestarted

/-- A record restarted is the fresh one of its row. -/
theorem restartedRecord_restarted {s u : State} {r : Row} (hid : rowId u r = rowId s r) (h : u.wheel r = restartedRecord s r) :
    Restarted u r := by
  unfold Restarted
  rw [h, hid, restartedRecord]
  split
  · next hheld =>
    rw [if_pos hheld.1]
    exact ⟨rfl, rfl, rfl, rfl, rfl, rfl, rfl, rfl, rfl, rfl, rfl, rfl, rfl⟩
  · exact ⟨rfl, rfl, rfl, rfl, rfl, rfl, rfl, rfl, rfl, rfl, rfl, rfl, rfl⟩

theorem restartRows_trailerRows_kept {r : Row} (h : r.val < 20) (s : State) : (restartRows trailerRows s).wheel r = s.wheel r :=
  (restartRows_restarted trailerRows s).kept (by rw [mem_trailerRows]; omega)
    (by rw [mem_trailerRows, partner_trailer_iff]; omega)

end Sys2Proof.Machine
end

section
/-! A trailer identified and unloaded, and a telegram record handed to TAU by its class: the settlements of O16, O21, O22 and O23. -/

namespace Sys2Proof.Machine

set_option Elab.async false

/-! ### Events raised on the way -/

theorem raised_later {e : Event} {c : List Field} {s t u : State} (h : Raised e s t) (k : Frame c t u) : Raised e s u := by
  obtain ⟨first, later, he⟩ := h
  obtain ⟨es, hes⟩ := k.pushes
  exact ⟨first, later ++ es, by rw [hes, he, ← List.foldl_append, List.append_assoc, List.cons_append]⟩

/-- An event raised in the middle of a step. -/
theorem raised_between {c d : List Field} {kind : EventKind} {row : Option Row} {value : Option Nat} {s t u : State}
    (h : Frame c s t) (k : Frame d (raiseEvent kind row value t) u) (hc : Field.clock ∉ c := by decide) :
    Raised { kind := kind, row := row, value := value.map (BitVec.ofNat 32), time := s.now / 1000 } s u := by
  obtain ⟨first, hfirst⟩ := h.pushes
  refine raised_later ⟨first, [], ?_⟩ k
  rw [List.foldl_append, ← hfirst, ← h.now hc]
  rfl

/-! ### A trailer identified or unloaded (R21, R24) -/

/-- The rows of a trailer, as they read their slots. -/
theorem rowId_slotRow {s : State} {k : EntryNo} (h : s.trailer = .identified k) (i : SlotNo) :
    rowId s (slotRow i) = s.tables.roster[k].slots[i] := by
  have hrow : ¬ (slotRow i).val < 20 := by simp [slotRow]
  simp only [rowId, hrow, h]
  simp [slotRow]

theorem rowId_of_noTrailer {s : State} (h : ∀ k, s.trailer ≠ .identified k) {r : Row} (hr : 20 ≤ r.val) : rowId s r = none := by
  rw [rowId, dif_neg (by omega)]
  split
  · next k hk => exact absurd hk (h k)
  · rfl

theorem rowId_truck {s : State} {r : Row} (h : r.val < 20) : rowId s r = s.tables.rows[r.val] := by rw [rowId, dif_pos h]

theorem setTrailer_rowId_truck (v : TrailerState) {s : State} {r : Row} (h : r.val < 20) : rowId (s.setTrailer v) r = rowId s r := by
  rw [rowId_truck h, rowId_truck h]
  rfl

/-- The trailer rows restarted, and nothing of the other records changed. -/
structure TrailerRestarted (s u : State) : Prop where
  restarted : ∀ r : Row, 20 ≤ r.val → Restarted u r
  kept : ∀ r : Row, r.val < 20 → u.wheel r = s.wheel r
  osc : u.osc = s.osc

theorem restartTrailerRows (s : State) : TrailerRestarted s (restartRows trailerRows s) := by
  have h := restartRows_restarted trailerRows s
  have hf := restartRows_frame trailerRows s
  exact ⟨fun r hr => restartedRecord_restarted (hf.rowId (r := r)) (h.restarted r ((mem_trailerRows r).2 hr)),
    fun r hr => restartRows_trailerRows_kept hr s, h.osc⟩

/-- Nothing but records, events and trailer state separates them: the restart counts for both. -/
theorem TrailerRestarted.after {s t u v : State} (h : TrailerRestarted t u) (hwheel : ∀ r, t.wheel r = s.wheel r) (hosc : t.osc = s.osc)
    {c : List Field} (hf : Frame c u v) (k₁ : Field.wheels ∉ c := by decide) (k₂ : Field.osc ∉ c := by decide)
    (k₄ : Field.tables ∉ c := by decide) (k₅ : Field.trailer ∉ c := by decide) : TrailerRestarted s v := by
  refine ⟨fun r hr => ?_, fun r hr => (hf.wheel r k₁).trans ((h.kept r hr).trans (hwheel r)), (hf.osc k₂).trans (h.osc.trans hosc)⟩
  have hr' := h.restarted r hr
  unfold Restarted at hr' ⊢
  rwa [hf.wheel r k₁, hf.rowId k₄ k₅]

/-- What the identification of an entry brings about (R21). -/
structure Identified (k : EntryNo) (s u : State) : Prop extends TrailerRestarted s u where
  trailer : u.trailer = .identified k
  window : u.window = none
  recog : u.recog = Vector.replicate 4 .empty
  frame : Frame trailerFields s u
  raised : Raised { kind := .trailerIdentified, value := some (BitVec.ofNat 32 k.val), time := s.now / 1000 } s u

theorem identify_identified (k : EntryNo) (s : State) : Identified k s (identify k s) := by
  let named := ((s.setTrailer (.identified k)).setWindow none).setRecog noRecog
  have hnamed : Frame [.trailer, .window, .recog] s named :=
    (((setTrailer_frame _ s).mono (by decide)).trans ((setWindow_frame _ _).mono (by decide))).trans ((setRecog_frame _ _).mono (by decide))
  have hframe := restartRows_frame trailerRows named
  have hraised := raiseEvent_frame .trailerIdentified none (some k.val) (restartRows trailerRows named)
  refine ⟨(restartTrailerRows named).after (s := s) (fun _ => rfl) rfl hraised, hraised.trailer.trans hframe.trailer,
    hraised.window.trans hframe.window, hraised.recog.trans hframe.recog, identify_frame k s, ?_⟩
  exact raised_between (c := trailerFields) (value := some k.val) ((hnamed.mono (by decide)).trans (hframe.mono (by decide))) (.refl [] _)

theorem identify_enc (k : EntryNo) (s : State) : (identify k s).enc = s.enc := by
  let named := ((s.setTrailer (.identified k)).setWindow none).setRecog noRecog
  exact (raiseEvent_frame _ _ _ _).enc.trans (restartRows_frame trailerRows named).enc

theorem Identified.slots {k : EntryNo} {s u : State} (h : Identified k s u) (i : SlotNo) :
    rowId u (slotRow i) = s.tables.roster[k].slots[i] := by
  rw [rowId_slotRow h.trailer, h.frame.tables]

/-- Work on the proposal alone keeps what was said of an identified trailer. -/
theorem Identified.searched {k : EntryNo} {s t u : State} (h : Identified k s t) (hf : Frame searchFields t u) :
    Identified k s u := by
  refine ⟨⟨fun r hr => ?_, fun r hr => (hf.wheel r).trans (h.kept r hr), hf.osc.trans h.osc⟩,
    hf.trailer.trans h.trailer, hf.window.trans h.window, hf.recog.trans h.recog, h.frame.trans (hf.mono (by decide)),
    raised_later h.raised hf⟩
  have hr' := h.restarted r hr
  unfold Restarted at hr' ⊢
  rwa [hf.wheel r, hf.rowId]

/-- An entry unloaded: its rows hold nothing and restart (R24). -/
theorem unload_restarted (next : TrailerState) (s : State) : TrailerRestarted s (unload next s) :=
  (restartTrailerRows (s.setTrailer next)).after (fun _ => rfl) rfl (.refl [] _)

theorem unload_trailer (next : TrailerState) (s : State) : (unload next s).trailer = next :=
  (restartRows_frame trailerRows (s.setTrailer next)).trailer

/-- Settling a proposal changes the enrolment in the proposal alone. -/
theorem settleProposal_enc (s : State) : ∃ p, (settleProposal s).enc = { s.enc with proposal := p } := by
  unfold settleProposal
  split
  · split
    · exact ⟨_, rfl⟩
    · obtain ⟨p, hp⟩ := search_enc (withdraw s)
      exact ⟨p, by rw [hp, withdraw_enc]⟩
  · exact ⟨_, rfl⟩

/-- Without a proposal there is none to settle. -/
theorem settleProposal_of_none {s : State} (h : s.enc.proposal = none) : settleProposal s = s := by
  simp only [settleProposal, h]

/-! ### A record handed to TAU -/

/-- The part with the record taken from those handed on. -/
theorem takeHanded_of_handed {s : State} {before after : List TelegramRecord} {t : TelegramRecord} (h : Handed s before t after)
    {isFor : State → TelegramRecord → Bool} (hfor : isFor s t = true) :
    takeHanded t.lane isFor s = acceptRecord t (s.setHanded (before ++ after)) := by
  obtain ⟨hlist, hbefore⟩ := h
  have hskip : ∀ x ∈ before, ¬ decide (x.lane = t.lane) = true := fun x hx => by simpa using hbefore x hx
  have hfind : s.handed.find? (fun x => decide (x.lane = t.lane)) = some t := by
    rw [hlist, List.find?_append, List.find?_eq_none.2 hskip]
    simp
  have herase : s.handed.eraseP (fun x => decide (x.lane = t.lane)) = before ++ after := by
    rw [hlist, List.eraseP_append_right _ hskip]
    simp
  simp only [takeHanded, hfind, hfor, herase, if_true]

theorem exec_telegramRecord_of_handed {s : State} {before after : List TelegramRecord} {t : TelegramRecord} (hrun : s.phase = .running)
    (h : Handed s before t after) :
    exec (.telegramRecord t.lane) s = .next (acceptRecord t (s.setHanded (before ++ after))) :=
  (whileRunning_running hrun _).trans (congrArg Host.Outcome.next (takeHanded_of_handed h rfl))

section
variable {s : State} {t : TelegramRecord}

theorem tauListens_iff (s : State) : tauListens s = true ↔ s.osc.state = .active ∨ s.osc.state = .parkWatch := by
  simp [tauListens]

theorem acceptRecord_of_deaf (h : ¬ (s.osc.state = .active ∨ s.osc.state = .parkWatch)) : acceptRecord t s = s := by
  rw [acceptRecord, if_pos]
  rw [Bool.not_eq_true', ← Bool.not_eq_true, tauListens_iff]
  exact h

theorem acceptRecord_of_tool (hl : Listening s) (htool : inToolBlock t.id = true) :
    acceptRecord t s = handToEnc (takeTool t.pressure.toNat) t s := by
  simp only [acceptRecord, (tauListens_iff s).2 hl.2, classify, htool, Bool.not_true, Bool.false_eq_true, if_false, if_true]

theorem acceptRecord_of_enrolled {r : Row} (hl : Listening s) (htool : inToolBlock t.id = false) (hr : rowHolding s t.id = some r) :
    acceptRecord t s = takeEnrolled r t s := by
  simp only [acceptRecord, (tauListens_iff s).2 hl.2, classify, htool, hr, Bool.not_true, Bool.false_eq_true, if_false]

theorem acceptRecord_of_foreign {k : EntryNo} {slot : SlotNo} {rest : List (EntryNo × SlotNo)} (hl : Listening s)
    (htool : inToolBlock t.id = false) (hr : rowHolding s t.id = none) (hslots : slotsWith s t.id = (k, slot) :: rest) :
    acceptRecord t s = takeForeign k slot t s := by
  simp only [acceptRecord, (tauListens_iff s).2 hl.2, classify, htool, hr, hslots, Bool.not_true, Bool.false_eq_true, if_false]

theorem acceptRecord_of_unknown (hl : Listening s) (h : UnknownId s t.id) : acceptRecord t s = takeUnknown t s := by
  obtain ⟨htool, hr, hslots⟩ := h
  simp only [acceptRecord, (tauListens_iff s).2 hl.2, classify, htool, hr, hslots, Bool.not_true, Bool.false_eq_true, if_false]

theorem handToEnc_of_closed (act : State → State) (h : sessionOpen s = false) : handToEnc act t s = s := if_neg (by simp [h])

theorem handToEnc_of_copy (act : State → State) (h : sessionCopy s t = true) : handToEnc act t s = s := if_neg (by simp [h])

theorem handToEnc_of_new (act : State → State) (hopen : s.enc.session ≠ none) (h : sessionCopy s t = false) :
    handToEnc act t s = act (s.setEnc { s.enc with copies := remembered t s.enc.copies }) :=
  if_pos ⟨(sessionOpen_iff s).2 hopen, by simp [h]⟩

theorem sessionCopy_of_mem {copy : HeardCopy} (hmem : copy ∈ s.enc.copies) (hid : copy.id = t.id) (hseq : copy.sequence = t.sequence)
    (htime : absDiff copy.arrival t.arrival ≤ s.setting .duplicateWindowMs) : sessionCopy s t = true :=
  List.any_eq_true.2 ⟨copy, hmem, by simp [isCopy, hid, hseq, htime]⟩

theorem takeEnrolled_of_copy {r : Row} (h : enrolledCopy s r t = true) : takeEnrolled r t s = noteRssi r t s := by
  simp [takeEnrolled, h]

theorem takeForeign_of_uncounted {k : EntryNo} {slot : SlotNo} (h : s.trailer ≠ .recognising ∨ slotCopy s k slot t = true) :
    takeForeign k slot t s = if t.mode = .triggered then handToEnc (takeAnswer .foreign t.id) t s else s := by
  have hcount : ¬ (s.trailer = .recognising ∧ (!slotCopy s k slot t) = true) := by
    rintro ⟨htrailer, hnew⟩
    rcases h with h | h
    · exact h htrailer
    · simp [h] at hnew
  rw [takeForeign, if_neg hcount]

theorem takeForeign_of_counted {k : EntryNo} {slot : SlotNo} (htrailer : s.trailer = .recognising) (h : slotCopy s k slot t = false) :
    takeForeign k slot t s =
      if t.mode = .triggered then handToEnc (takeAnswer .foreign t.id) t (countTelegram k slot t s) else countTelegram k slot t s := by
  have hcount : s.trailer = .recognising ∧ (!slotCopy s k slot t) = true := ⟨htrailer, by rw [h]; rfl⟩
  rw [takeForeign, if_pos hcount]

end

/-! ### Recognition -/

/-- The recognition data of an entry with a telegram counted. -/
def countedEntry (slot : SlotNo) (t : TelegramRecord) (g : RecogEntry) : RecogEntry :=
  { heard := if t.id ∈ g.heard then g.heard else g.heard ++ [t.id]
    sequence := g.sequence.set slot (some (t.sequence, t.arrival)) }

theorem countTelegram_eq (k : EntryNo) (slot : SlotNo) (t : TelegramRecord) (s : State) :
    countTelegram k slot t s = checkRecognition k (s.setRecog (s.recog.set k (countedEntry slot t s.recog[k]))) := rfl

/-- The entry takes part and has heard enough (R20). -/
abbrev Reached (k : EntryNo) (s : State) : Prop :=
  s.trailer = .recognising ∧ takesPart s.tables.roster[k] = true ∧ threshold s.tables.roster[k] ≤ s.recog[k].heard.length

theorem checkRecognition_of_reached {k : EntryNo} {s : State} (h : Reached k s) :
    checkRecognition k s = settleProposal (identify k s) := if_pos h

theorem checkRecognition_of_short {k : EntryNo} {s : State} (h : ¬ Reached k s) : checkRecognition k s = s := if_neg h

/-- With no proposal open, recognition keeps the session and the controller, and the records of the truck. -/
theorem checkRecognition_kept {k : EntryNo} {s : State} (h : s.enc.proposal = none) :
    (checkRecognition k s).enc = s.enc ∧ (checkRecognition k s).osc = s.osc
      ∧ ∀ q : Row, q.val < 20 → (checkRecognition k s).wheel q = s.wheel q := by
  by_cases hreached : Reached k s
  · have hid := identify_identified k s
    rw [checkRecognition_of_reached hreached, settleProposal_of_none (by rw [identify_enc, h])]
    exact ⟨identify_enc k s, hid.osc, hid.kept⟩
  · rw [checkRecognition_of_short hreached]
    exact ⟨rfl, rfl, fun _ _ => rfl⟩

theorem isCopy_iff {s : State} {q : BitVec 4} {time : Millis} {t : TelegramRecord} :
    isCopy s q time t = true ↔ q = t.sequence ∧ absDiff time t.arrival ≤ s.setting .duplicateWindowMs := by simp [isCopy]

theorem slotCopy_iff {s : State} {k : EntryNo} {slot : SlotNo} {t : TelegramRecord} :
    slotCopy s k slot t = true ↔ ∃ time, s.recog[k].sequence[slot] = some (t.sequence, time)
      ∧ absDiff time t.arrival ≤ s.setting .duplicateWindowMs := by
  unfold slotCopy
  cases h : s.recog[k].sequence[slot] with
  | none => simp
  | some p =>
    obtain ⟨q, time⟩ := p
    simp only [isCopy_iff, Option.some.injEq, Prod.mk.injEq]
    exact ⟨fun ⟨hq, htime⟩ => ⟨time, ⟨hq, rfl⟩, htime⟩, fun ⟨_, ⟨hq, ht⟩, htime⟩ => ⟨hq, ht ▸ htime⟩⟩

theorem slot_of_slotsWith {s : State} {id : SensorId} {k : EntryNo} {slot : SlotNo} {rest : List (EntryNo × SlotNo)}
    (h : slotsWith s id = (k, slot) :: rest) : s.tables.roster[k].slots[slot] = some id := by
  have hmem : (k, slot) ∈ slotsWith s id := by rw [h]; exact List.mem_cons_self
  simpa [slotsWith] using hmem

theorem takesPart_of_slot {e : RosterEntry} {slot : SlotNo} {id : SensorId} (htag : e.tag ≠ 0) (h : e.slots[slot] = some id) :
    takesPart e = true := by
  have hmem : some id ∈ e.slots.toList := h ▸ Vector.mem_toList_iff.2 (Vector.getElem_mem _)
  have hcount : 0 < slotCount e := List.length_pos_of_mem (List.mem_filter.2 ⟨hmem, rfl⟩)
  rw [takesPart, RosterEntry.isFree, decide_eq_false htag, decide_eq_true hcount]
  rfl

/-- Settles O21, by whether the telegram is counted, and the count reaches the threshold. -/
theorem recognitionIdentifiesTheTrailer : Obligations.RecognitionIdentifiesTheTrailer := by
  intro s before after t k slot rest hl hh htool hr hslots hmode heard counted duplicate
  let b := s.setHanded (before ++ after)
  let c := b.setRecog (b.recog.set k (countedEntry slot t b.recog[k]))
  have hexec : exec (.telegramRecord t.lane) s = .next (takeForeign k slot t b) := by
    rw [exec_telegramRecord_of_handed hl.1 hh, acceptRecord_of_foreign (s := b) hl htool hr hslots]
  have hpass : ∀ u : State, u.enc.session = s.enc.session →
      (if t.mode = .triggered then handToEnc (takeAnswer .foreign t.id) t u else u) = u := fun u hsession => by
    split
    · next hm =>
      refine handToEnc_of_closed _ ?_
      rw [sessionOpen, hsession, hmode.resolve_left (not_not.2 hm)]
      rfl
    · rfl
  have hdup : slotCopy b k slot t = true ↔ duplicate := slotCopy_iff
  have hentry : c.recog[k] = counted := Vector.getElem_set_self k.isLt
  rw [hexec]
  refine ⟨fun h => ?_, fun htrailer hnew hshort => ?_, fun htrailer hnew htag hreached => ?_⟩
  · rw [takeForeign_of_uncounted (h.imp_right hdup.2), hpass b rfl]
    rfl
  · have hcheck : countTelegram k slot t b = c := by
      rw [countTelegram_eq]
      refine checkRecognition_of_short fun h => absurd h.2.2 ?_
      rw [show c.recog[k] = counted from hentry]
      exact Nat.not_le.2 hshort
    rw [takeForeign_of_counted (s := b) htrailer (Bool.not_eq_true _ ▸ mt hdup.1 hnew), hcheck, hpass c rfl]
    rfl
  · have hdone : Reached k c := by
      refine ⟨htrailer, takesPart_of_slot htag (slot_of_slotsWith hslots), ?_⟩
      rw [hentry]
      exact hreached
    have hcheck : countTelegram k slot t b = settleProposal (identify k c) := by
      rw [countTelegram_eq]
      exact checkRecognition_of_reached hdone
    obtain ⟨p, hp⟩ := settleProposal_enc (identify k c)
    have hsession : (settleProposal (identify k c)).enc.session = s.enc.session := by rw [hp, identify_enc]; rfl
    have hid := (identify_identified k c).searched (settleProposal_frame _)
    rw [takeForeign_of_counted (s := b) htrailer (Bool.not_eq_true _ ▸ mt hdup.1 hnew), hcheck, hpass _ hsession]
    exact ⟨_, rfl, hid.frame.handed, hid.trailer, hid.window, hid.recog, hid.frame.tables, hid.slots, hid.restarted, hid.kept,
      hid.frame.candidates, hsession, hid.raised⟩

/-! ### Records that bring nothing further (R43 to R49) -/

/-- Settles O16, by the class of the record. -/
theorem discardedAndDuplicateRecords : Obligations.DiscardedAndDuplicateRecords := by
  intro s before after t hrun hh
  let b := s.setHanded (before ++ after)
  have hexec : exec (.telegramRecord t.lane) s = .next (acceptRecord t b) := exec_telegramRecord_of_handed hrun hh
  rw [hexec]
  refine ⟨fun hstate => ?_, fun hl htool hclosed => ?_, fun r a hl htool hr hseq hacc htime => ?_,
    fun copy hmem hl hopen hid hseq htime => ?_⟩
  · rw [acceptRecord_of_deaf (s := b) ?_]
    · rfl
    · rcases hstate with h | h | h <;> simp [b, h]
  · rw [acceptRecord_of_tool (s := b) hl htool, handToEnc_of_closed (s := b) _ hclosed]
    rfl
  · have hcopy : enrolledCopy b r t = true := by
      have hq : (b.wheel r).lastSequence = some t.sequence := hseq
      have ht : (b.wheel r).lastAccepted = some a := hacc
      simp only [enrolledCopy, hq, ht]
      exact isCopy_iff.2 ⟨rfl, htime⟩
    rw [acceptRecord_of_enrolled (s := b) hl htool hr, takeEnrolled_of_copy hcopy]
    rfl
  · have hcopy : sessionCopy b t = true := sessionCopy_of_mem (s := b) hmem hid hseq htime
    refine ⟨fun hclass => ?_, fun hmode htool hr hslots htrailer hlegal => ?_⟩
    · have hsame : acceptRecord t b = b := by
        rcases hclass with htool | ⟨hmode, hunknown⟩ | ⟨hmode, htool, hr, hslots, htrailer⟩
        · rw [acceptRecord_of_tool (s := b) hl htool, handToEnc_of_copy _ hcopy]
        · have hto : t.mode = .triggered ∧ sessionOpen b = true := ⟨hmode, (sessionOpen_iff b).2 hopen⟩
          rw [acceptRecord_of_unknown (s := b) hl hunknown, takeUnknown, if_pos hto, handToEnc_of_copy _ hcopy]
        · obtain ⟨⟨k, slot⟩, rest, hcons⟩ := List.exists_cons_of_ne_nil hslots
          rw [acceptRecord_of_foreign (s := b) hl htool hr hcons, takeForeign_of_uncounted (s := b) (.inl htrailer), if_pos hmode,
            handToEnc_of_copy _ hcopy]
      rw [hsame]
      rfl
    · obtain ⟨⟨k, slot⟩, rest, hcons⟩ := List.exists_cons_of_ne_nil hslots
      rw [acceptRecord_of_foreign (s := b) hl htool hr hcons]
      obtain ⟨i, hi⟩ := Option.ne_none_iff_exists'.1 hopen
      obtain ⟨-, -, -, hopened⟩ := hlegal
      obtain ⟨-, -, -, -, -, hproposal, -⟩ := hopened i hi
      cases hnew : slotCopy b k slot t with
      | true =>
        rw [takeForeign_of_uncounted (s := b) (.inr hnew), if_pos hmode, handToEnc_of_copy _ hcopy]
        exact ⟨b, rfl, rfl, rfl, rfl, rfl, rfl, rfl, rfl, fun _ _ => rfl⟩
      | false =>
        have hf := countTelegram_frame k slot t b
        obtain ⟨henc, hosc, hwheel⟩ : (countTelegram k slot t b).enc = b.enc ∧ (countTelegram k slot t b).osc = b.osc
            ∧ ∀ q : Row, q.val < 20 → (countTelegram k slot t b).wheel q = b.wheel q := checkRecognition_kept hproposal
        have hstill : sessionCopy (countTelegram k slot t b) t = true := by
          rw [← hcopy]
          simp only [sessionCopy, isCopy, henc, hf.setting]
        rw [takeForeign_of_counted (s := b) htrailer hnew, if_pos hmode, handToEnc_of_copy _ hstill]
        exact ⟨_, rfl, hf.handed, henc, hf.tables, hf.candidates, hosc, hf.store, hf.vdm, hwheel⟩

end Sys2Proof.Machine
end

section
/-! The search for a replacement (R126 to R128), said once for every list of rows: the settlement of O25. -/

namespace Sys2Proof.Machine

set_option Elab.async false

/-! ### Due rows and eligible candidates -/

theorem rowIsDue_iff (s : State) (r : Row) : rowIsDue s r = true ↔ DueRow s r := by simp [rowIsDue]

theorem eligible_eq (s : State) (r : Row) : eligible s r = candidatesFor s r := by
  refine List.filter_congr fun c _ => ?_
  rw [eligibleFor, Bool.eq_iff_iff, decide_eq_true_eq, EligibleFor]
  split <;> simp_all [and_assoc]

theorem maySearch_iff (s : State) : maySearch s = true ↔ SearchAllowed s := by
  simp [maySearch, sessionOpen, and_assoc]

/-- What the search reads: two states that differ in the `ambiguous` and `dueTaken` flags of their episodes, in events and in the
proposal alone are searched in the same way. -/
structure SearchAlike (s t : State) : Prop where
  frame : Frame searchFields s t
  episodes : ∀ q, (t.episode q).movingMs = (s.episode q).movingMs ∧ (t.episode q).rejected = (s.episode q).rejected

namespace SearchAlike

variable {s t u : State}

theorem refl (s : State) : SearchAlike s s := ⟨.refl _ s, fun _ => ⟨rfl, rfl⟩⟩

theorem trans (h : SearchAlike s t) (k : SearchAlike t u) : SearchAlike s u :=
  ⟨h.frame.trans k.frame, fun q => ⟨(k.episodes q).1.trans (h.episodes q).1, (k.episodes q).2.trans (h.episodes q).2⟩⟩

theorem due (h : SearchAlike s t) (q : Row) : DueRow t q ↔ DueRow s q := by
  rw [DueRow, DueRow, h.frame.wheel, h.frame.setting, (h.episodes q).1]

theorem candidatesFor (h : SearchAlike s t) (q : Row) : candidatesFor t q = candidatesFor s q := by
  unfold Machine.candidatesFor EligibleFor
  rw [h.frame.candidates]
  refine List.filter_congr fun c _ => ?_
  simp only [h.frame.axleOf, h.frame.wheel, (h.episodes q).2]

end SearchAlike

theorem raiseEvent_alike (kind : EventKind) (row : Option Row) (value : Option Nat) (s : State) :
    SearchAlike s (raiseEvent kind row value s) := ⟨(raiseEvent_frame kind row value s).mono (by decide), fun _ => ⟨rfl, rfl⟩⟩

theorem setProposal_alike (p : Option (Row × SensorId)) (s : State) : SearchAlike s (s.setEnc { s.enc with proposal := p }) :=
  ⟨(setEnc_frame _ s).mono (by decide), fun _ => ⟨rfl, rfl⟩⟩

/-- An episode written with its time and its list kept. -/
theorem putEpisode_alike {r : Row} {e : Episode} {s : State} (hmoving : e.movingMs = (s.episode r).movingMs)
    (hrejected : e.rejected = (s.episode r).rejected) : SearchAlike s (putEpisode r e s) := by
  refine ⟨(putEpisode_frame r e s).mono (by decide), fun q => ?_⟩
  rw [putEpisode_episode]
  split
  · next h => exact h ▸ ⟨hmoving, hrejected⟩
  · exact ⟨rfl, rfl⟩

theorem withdraw_alike (s : State) : SearchAlike s (withdraw s) := by
  unfold withdraw
  split
  · exact (setProposal_alike none s).trans (raiseEvent_alike _ _ _ _)
  · exact .refl s

/-! ### A row reported as ambiguous (R128) -/

theorem reportAmbiguous_alike (r : Row) (n : Nat) (s : State) : SearchAlike s (reportAmbiguous r n s) := by
  unfold reportAmbiguous
  dsimp only
  split
  · exact .refl s
  · exact (putEpisode_alike (e := { s.episode r with ambiguous := true }) rfl rfl).trans (raiseEvent_alike _ _ _ _)

theorem reportAmbiguous_ambiguous (r q : Row) (n : Nat) (s : State) :
    ((reportAmbiguous r n s).episode q).ambiguous = ((s.episode q).ambiguous || decide (q = r)) := by
  unfold reportAmbiguous
  dsimp only
  split
  · next h =>
    by_cases hq : q = r
    · simp [hq, h]
    · simp [hq]
  · have hput : ((raiseEvent .proposalAmbiguous (some r) (some n) (putEpisode r { s.episode r with ambiguous := true } s)).episode q)
        = (putEpisode r { s.episode r with ambiguous := true } s).episode q := rfl
    rw [hput, putEpisode_episode]
    by_cases hq : q = r <;> simp [hq]

theorem reportAmbiguous_raised {r : Row} {n : Nat} {s : State} (h : (s.episode r).ambiguous = false) :
    Raised { kind := .proposalAmbiguous, row := some r, value := some (BitVec.ofNat 32 n), time := s.now / 1000 } s
      (reportAmbiguous r n s) := by
  rw [reportAmbiguous, if_neg (by simp [h])]
  exact raised_between (value := some n) (putEpisode_frame r _ s) (.refl [] _)

/-! ### The rows in order -/

/-- What the search of `rows` leaves. -/
structure RowsSearched (rows : List Row) (s u : State) : Prop where
  alike : SearchAlike s u
  proposal : u.enc.proposal =
    ((rows.filter fun q => decide (DueRow s q)).find? fun q => decide ((candidatesFor s q).length = 1)).bind
      (fun q => (candidatesFor s q).head?.map (fun c => (q, c.id)))
  opened : ∀ p, u.enc.proposal = some p →
    p.1 ∈ rows ∧ Raised { kind := .proposalOpen, row := some p.1, value := some p.2, time := s.now / 1000 } s u
  ambiguous : ∀ q, (u.episode q).ambiguous = true ↔ (s.episode q).ambiguous = true
    ∨ (q ∈ rows ∧ DueRow s q ∧ 2 ≤ (candidatesFor s q).length ∧ ∀ p, u.enc.proposal = some p → q < p.1)
  reported : ∀ q, (u.episode q).ambiguous ≠ (s.episode q).ambiguous →
    Raised { kind := .proposalAmbiguous, row := some q, value := some (BitVec.ofNat 32 (candidatesFor s q).length)
             time := s.now / 1000 } s u

namespace RowsSearched

variable {rows : List Row} {r : Row} {s u : State}

/-- A row that is not due, or has no eligible candidate, is passed over. -/
theorem skip (hr : ¬ (DueRow s r ∧ candidatesFor s r ≠ [])) (h : RowsSearched rows s u) : RowsSearched (r :: rows) s u := by
  obtain ⟨halike, hproposal, hopened, hambiguous, hreported⟩ := h
  refine ⟨halike, hproposal.trans ?_, fun p hp => ⟨List.mem_cons_of_mem _ (hopened p hp).1, (hopened p hp).2⟩, fun q => ?_, hreported⟩
  · by_cases hdue : DueRow s r
    · have hempty : candidatesFor s r = [] := not_not.1 fun h => hr ⟨hdue, h⟩
      rw [List.filter_cons_of_pos (by simpa using hdue), List.find?_cons_of_neg (by simp [hempty])]
    · rw [List.filter_cons_of_neg (by simpa using hdue)]
  · rw [hambiguous]
    refine or_congr Iff.rfl ⟨fun h => ⟨List.mem_cons_of_mem _ h.1, h.2⟩, fun ⟨hq, hdue, hlen, hp⟩ => ⟨?_, hdue, hlen, hp⟩⟩
    rcases List.mem_cons.1 hq with rfl | hq
    · refine absurd ⟨hdue, fun hempty => ?_⟩ hr
      rw [hempty] at hlen
      exact absurd hlen (by decide)
    · exact hq

/-- The first row with exactly one eligible candidate has its proposal opened, and ends the search. -/
theorem open_ {c : Candidate} (hdue : DueRow s r) (hone : candidatesFor s r = [c]) (hsorted : (r :: rows).Pairwise (· < ·)) :
    RowsSearched (r :: rows) s (openProposal r c.id s) := by
  have hproposal : (openProposal r c.id s).enc.proposal = some (r, c.id) := rfl
  have hepisode : ∀ q, (openProposal r c.id s).episode q = s.episode q := fun q => rfl
  refine ⟨(setProposal_alike _ s).trans (raiseEvent_alike _ _ _ _), ?_, fun p hp => ?_, fun q => ?_, fun q hq => absurd rfl hq⟩
  · rw [hproposal, List.filter_cons_of_pos (by simpa using hdue), List.find?_cons_of_pos (by simp [hone])]
    simp only [Option.bind_some, hone, List.head?_cons, Option.map_some]
  · obtain rfl : (r, c.id) = p := Option.some.inj (hproposal.symm.trans hp)
    refine ⟨List.mem_cons_self, ?_⟩
    have hraised := raised_between (kind := .proposalOpen) (row := some r) (value := some c.id.toNat)
      (setEnc_frame { s.enc with proposal := some (r, c.id) } s) (.refl [] _)
    rw [Option.map_some, BitVec.ofNat_toNat, BitVec.setWidth_eq] at hraised
    exact hraised
  · rw [hepisode, hproposal]
    refine ⟨.inl, fun h => h.resolve_right ?_⟩
    rintro ⟨hmem, -, -, hbefore⟩
    have hlt := hbefore _ rfl
    rcases List.mem_cons.1 hmem with rfl | hmem
    · exact lt_irrefl _ hlt
    · exact lt_asymm hlt (List.rel_of_pairwise_cons hsorted hmem)

/-- A row with two or more is reported, and the search goes on. -/
theorem report (hdue : DueRow s r) (htwo : 2 ≤ (candidatesFor s r).length) (hsorted : (r :: rows).Pairwise (· < ·))
    (h : RowsSearched rows (reportAmbiguous r (candidatesFor s r).length s) u) : RowsSearched (r :: rows) s u := by
  have hfirst := reportAmbiguous_alike r (candidatesFor s r).length s
  have hflag := fun q => reportAmbiguous_ambiguous r q (candidatesFor s r).length s
  have hraised : (s.episode r).ambiguous = false → _ := reportAmbiguous_raised (r := r) (n := (candidatesFor s r).length) (s := s)
  generalize reportAmbiguous r (candidatesFor s r).length s = t at hfirst hflag hraised h
  obtain ⟨halike, hproposal, hopened, hambiguous, hreported⟩ := h
  simp only [hfirst.due, hfirst.candidatesFor, hfirst.frame.now] at hproposal hopened hambiguous hreported
  have hlater : ∀ {e}, Raised e t u → Raised e s u := fun ⟨first, later, he⟩ => by
    obtain ⟨es, hes⟩ := hfirst.frame.pushes
    exact ⟨es ++ first, later, by rw [he, hes, ← List.foldl_append, List.append_assoc]⟩
  refine ⟨hfirst.trans halike, hproposal.trans ?_, fun p hp => ⟨List.mem_cons_of_mem _ (hopened p hp).1, hlater (hopened p hp).2⟩,
    fun q => ?_, fun q hq => ?_⟩
  · rw [List.filter_cons_of_pos (by simpa using hdue), List.find?_cons_of_neg (by simp; omega)]
  · rw [hambiguous, hflag]
    by_cases hq : q = r
    · subst hq
      have hbefore : ∀ p, u.enc.proposal = some p → q < p.1 := fun p hp => List.rel_of_pairwise_cons hsorted (hopened p hp).1
      simp only [decide_true, Bool.or_true, true_or, true_iff]
      exact .inr ⟨List.mem_cons_self, hdue, htwo, hbefore⟩
    · simp [hq]
  · by_cases hchanged : (u.episode q).ambiguous = (t.episode q).ambiguous
    · rw [hchanged, hflag] at hq
      have hqr : q = r := by
        by_contra hne
        simp [hne] at hq
      subst hqr
      have hfalse : (s.episode q).ambiguous = false := by
        by_contra htrue
        simp [Bool.not_eq_false _ ▸ htrue] at hq
      exact raised_later (hraised hfalse) halike.frame
    · exact hlater (hreported q hchanged)

end RowsSearched

theorem searchRows_searched (rows : List Row) (s : State) (hnone : s.enc.proposal = none) (hsorted : rows.Pairwise (· < ·)) :
    RowsSearched rows s (searchRows rows s) := by
  induction rows generalizing s with
  | nil =>
    refine ⟨.refl s, hnone, fun p hp => ?_, fun q => by simp [searchRows], fun q hq => absurd rfl hq⟩
    rw [searchRows, hnone] at hp
    cases hp
  | cons r rows ih =>
    have hrest := (List.pairwise_cons.1 hsorted).2
    rw [searchRows]
    split
    · next hdue =>
      refine (ih s hnone hrest).skip fun h => ?_
      simp [(rowIsDue_iff s r).2 h.1] at hdue
    · next hdue =>
      have hdue : DueRow s r := (rowIsDue_iff s r).1 (by simpa using hdue)
      split
      · next hempty => exact (ih s hnone hrest).skip fun h => h.2 (eligible_eq s r ▸ hempty)
      · next c hone => exact .open_ hdue (eligible_eq s r ▸ hone) hsorted
      · next hzero hone =>
        rw [eligible_eq] at hzero hone ⊢
        have htwo : 2 ≤ (candidatesFor s r).length := by
          match hlist : candidatesFor s r with
          | [] => exact absurd hlist hzero
          | [c] => exact absurd hlist (hone c)
          | _ :: _ :: _ => exact Nat.le_add_left 2 _
        refine .report hdue htwo hsorted (ih _ ?_ hrest)
        rw [reportAmbiguous_enc, hnone]

theorem allRows_sorted : allRows.Pairwise (· < ·) := List.pairwise_lt_finRange 32

theorem search_searched {s : State} (h : SearchAllowed s) : RowsSearched allRows s (search s) := by
  rw [search, if_pos ((maySearch_iff s).2 h)]
  exact searchRows_searched allRows s h.1 allRows_sorted

theorem search_of_forbidden {s : State} (h : ¬ SearchAllowed s) : search s = s := if_neg (mt (maySearch_iff s).1 h)

theorem search_alike (s : State) : SearchAlike s (search s) := by
  by_cases h : SearchAllowed s
  · exact (search_searched h).alike
  · rw [search_of_forbidden h]
    exact .refl s

/-- The search of a state that was searched alike says the same of the one before. -/
theorem RowsSearched.searched {s t u : State} (halike : SearchAlike s t) (hflag : ∀ q, (t.episode q).ambiguous = (s.episode q).ambiguous)
    (hevq : t.evq = s.evq) (h : RowsSearched allRows t u) : Searched s u := by
  obtain ⟨hafter, hproposal, hopened, hambiguous, hreported⟩ := h
  simp only [halike.due, halike.candidatesFor, halike.frame.now, hflag, mem_allRows, true_and] at hproposal hopened hambiguous hreported
  have hraised : ∀ {e}, Raised e t u → Raised e s u := fun ⟨first, later, he⟩ => ⟨first, later, by rw [he, hevq]⟩
  exact ⟨hproposal, fun p hp => hraised (hopened p hp), hambiguous, fun q hq => hraised (hreported q hq), (halike.trans hafter).episodes⟩

/-- A proposal that a search leaves was open before it, or is of a due row and an eligible candidate. -/
theorem search_proposed {s : State} {p : Row × SensorId} (h : (search s).enc.proposal = some p) :
    s.enc.proposal = some p ∨ (DueRow s p.1 ∧ ∃ c ∈ candidatesFor s p.1, c.id = p.2) := by
  by_cases hallowed : SearchAllowed s
  · refine .inr ?_
    rw [(search_searched hallowed).proposal, Option.bind_eq_some_iff] at h
    obtain ⟨q, hq, hc⟩ := h
    obtain ⟨c, hhead, rfl⟩ := Option.map_eq_some_iff.1 hc
    exact ⟨of_decide_eq_true (List.mem_filter.1 (List.mem_of_find?_eq_some hq)).2, c, List.mem_of_mem_head? hhead, rfl⟩
  · rw [search_of_forbidden hallowed] at h
    exact .inl h

/-- A proposal that a search leaves was open before it, or is of a due row and a listed candidate. -/
theorem search_proposal {s : State} {p : Row × SensorId} (h : (search s).enc.proposal = some p) :
    s.enc.proposal = some p ∨ (DueRow s p.1 ∧ p.2 ∈ s.candidates.map Candidate.id) := by
  rcases search_proposed h with hopen | ⟨hdue, c, hc, hid⟩
  · exact .inl hopen
  · exact .inr ⟨hdue, List.mem_map.2 ⟨c, (List.mem_filter.1 hc).1, hid⟩⟩

/-- What settling leaves open is sound (R129). -/
theorem settleProposal_proposal {s : State} {p : Row × SensorId} (h : (settleProposal s).enc.proposal = some p) :
    (s.wheel p.1).status = .missing ∧ p.2 ∈ s.candidates.map Candidate.id := by
  unfold settleProposal at h
  split at h
  · next r id hopen =>
    split at h
    · next hsound =>
      obtain rfl : (r, id) = p := Option.some.inj (hopen.symm.trans h)
      refine ⟨hsound.1, ?_⟩
      obtain ⟨c, hc, hid⟩ := List.any_eq_true.1 hsound.2
      exact List.mem_map.2 ⟨c, hc, of_decide_eq_true hid⟩
    · have hf := withdraw_frame s
      rcases search_proposal h with hstill | ⟨hdue, hlisted⟩
      · rw [withdraw_enc] at hstill
        cases hstill
      · rw [DueRow, hf.wheel] at hdue
        rw [hf.candidates] at hlisted
        exact ⟨hdue.1, hlisted⟩
  · next hnone =>
    rw [hnone] at h
    cases h

/-! ### ROW_DUE (R125, R127) -/

/-- Settles O25: the flag of the row is set, and the search runs where its conditions allow it. -/
theorem rowDueSearchesForAReplacement : Obligations.RowDueSearchesForAReplacement := by
  intro s r hrun
  have hexec : exec (.rowDue r) s = .next (takeRowDue r s) := whileRunning_running hrun _
  rw [hexec]
  refine ⟨fun h => ?_, fun hdue htaken => ?_⟩
  · rw [takeRowDue, if_neg]
    rintro ⟨hdue, htaken⟩
    rcases h with h | h
    · exact h ((rowIsDue_iff s r).1 hdue)
    · simp [h] at htaken
  · let flagged := putEpisode r { s.episode r with dueTaken := true } s
    have htake : takeRowDue r s = search flagged := if_pos ⟨(rowIsDue_iff s r).2 hdue, by simp [htaken]⟩
    have halike : SearchAlike s flagged := putEpisode_alike rfl rfl
    have hflag : ∀ q, (flagged.episode q).ambiguous = (s.episode q).ambiguous := fun q => by
      rw [putEpisode_episode]
      split
      · next h => rw [h]
      · rfl
    rw [htake]
    refine ⟨fun hforbidden => ?_, fun hallowed => ?_⟩
    · rw [search_of_forbidden (s := flagged) hforbidden]
      rfl
    · refine ⟨search flagged, rfl, (search_searched (s := flagged) hallowed).searched halike hflag rfl, ?_⟩
      have hf := search_frame flagged
      obtain ⟨p, hp⟩ := search_enc flagged
      refine eq_of_agree fun f => ?_
      have hkeeps := hf.keeps f
      cases f
      case enc =>
        show (search flagged).enc = { s.enc with proposal := (search flagged).enc.proposal }
        rw [hp]
        rfl
      case evq | episodes => rfl
      all_goals exact hkeeps (by decide)

end Sys2Proof.Machine
end

section
/-! The candidate list: a new candidate, one heard again, and one that ages out: the settlements of O18, O19 and O20. -/

namespace Sys2Proof.Machine

set_option Elab.async false

/-! ### The record evicted (R54) -/

/-- The order of eviction: fewest hits, then heard longest ago. -/
abbrev EvictsFirst (v c : Candidate) : Prop := v.hits < c.hits ∨ (v.hits = c.hits ∧ v.lastHeard ≤ c.lastHeard)

theorem evictsFirst_iff (v c : Candidate) :
    EvictsFirst v c ↔ toLex (v.hits, v.lastHeard) ≤ toLex (c.hits, c.lastHeard) :=
  (Prod.Lex.toLex_le_toLex (x := (v.hits, v.lastHeard)) (y := (c.hits, c.lastHeard))).symm

theorem evictsBefore_iff (a b : Candidate) :
    evictsBefore a b = true ↔ toLex (a.hits, a.lastHeard) < toLex (b.hits, b.lastHeard) := by
  simp [evictsBefore, Prod.Lex.toLex_lt_toLex]

theorem evicts_foldl (rest : List Candidate) (best : Candidate) :
    let v := rest.foldl (fun best x => if evictsBefore x best then x else best) best
    EvictsFirst v best ∧ ∀ c ∈ rest, EvictsFirst v c := by
  induction rest generalizing best with
  | nil => exact ⟨.inr ⟨rfl, le_rfl⟩, fun c hc => absurd hc List.not_mem_nil⟩
  | cons x rest ih =>
    obtain ⟨hbest, hrest⟩ := ih (if evictsBefore x best then x else best)
    dsimp only [List.foldl_cons]
    generalize rest.foldl _ _ = v at hbest hrest
    have hnew : EvictsFirst v best ∧ EvictsFirst v x := by
      simp only [evictsFirst_iff] at hbest ⊢
      split at hbest
      · next h => exact ⟨hbest.trans ((evictsBefore_iff x best).1 h).le, hbest⟩
      · next h => exact ⟨hbest, hbest.trans (not_lt.1 (mt (evictsBefore_iff x best).2 h))⟩
    exact ⟨hnew.1, List.forall_mem_cons.2 ⟨hnew.2, hrest⟩⟩

theorem evictee_first {l : List Candidate} {v : Candidate} (h : evictee l = some v) : ∀ c ∈ l, EvictsFirst v c := by
  cases l with
  | nil => cases h
  | cons c rest =>
    obtain rfl := Option.some.inj h
    obtain ⟨hfirst, hrest⟩ := evicts_foldl rest c
    exact List.forall_mem_cons.2 ⟨hfirst, hrest⟩

theorem makeRoom_of_short {l : List Candidate} (h : l.length < 16) : makeRoom l = l := if_pos h

theorem makeRoom_of_full {l : List Candidate} (h : 16 ≤ l.length) :
    ∃ v ∈ l, (∀ c ∈ l, EvictsFirst v c) ∧ makeRoom l = l.filter fun c => decide (c.id ≠ v.id) := by
  have hfull : ¬ l.length < candidateCapacity := Nat.not_lt.2 h
  rw [makeRoom, if_neg hfull]
  cases hv : evictee l with
  | none =>
    cases l with
    | nil => exact absurd h (by decide)
    | cons c rest => cases hv
  | some v => exact ⟨v, evictee_mem hv, evictee_first hv, rfl⟩

/-! ### A record of an unknown sensor -/

section
variable {s : State} {t : TelegramRecord}

theorem takeUnknown_of_candidate (h : sessionOpen s = false ∨ t.mode ≠ .triggered) : takeUnknown t s = takeCandidate t s := by
  refine if_neg fun hto => ?_
  rcases h with h | h
  · exact absurd (h.symm.trans hto.2) (by decide)
  · exact h hto.1

theorem exec_telegramRecord_of_unknown {before after : List TelegramRecord} (hl : Listening s) (hh : Handed s before t after)
    (hu : UnknownId s t.id) (hto : sessionOpen s = false ∨ t.mode ≠ .triggered) :
    exec (.telegramRecord t.lane) s = .next (takeCandidate t (s.setHanded (before ++ after))) := by
  rw [exec_telegramRecord_of_handed hl.1 hh, acceptRecord_of_unknown (s := s.setHanded (before ++ after)) hl hu,
    takeUnknown_of_candidate (s := s.setHanded (before ++ after)) hto]

theorem movingHit_iff : movingHit s t = true ↔ t.mode = .rolling ∧ moving s = true := by simp [movingHit]

theorem takeCandidate_of_new (h : t.id ∉ s.candidates.map Candidate.id) :
    takeCandidate t s = search (settleProposal (s.setCandidates (makeRoom s.candidates ++ [newCandidate s t]))) := by
  have hfind : s.candidates.find? (fun c => decide (c.id = t.id)) = none :=
    List.find?_eq_none.2 fun c hc hid => h (List.mem_map.2 ⟨c, hc, of_decide_eq_true hid⟩)
  simp only [takeCandidate, hfind]

theorem takeCandidate_of_listed {front back : List Candidate} {c : Candidate} (hlist : s.candidates = front ++ c :: back)
    (hid : c.id = t.id) (hnodup : (s.candidates.map Candidate.id).Nodup) :
    ∃ u, takeCandidate t s = u ∧ Frame searchFields (s.setCandidates (front ++ updateCandidate s t c :: back)) u := by
  rw [hlist, List.map_append, List.map_cons, List.nodup_append] at hnodup
  obtain ⟨-, hback, hapart⟩ := hnodup
  have hother : ∀ x ∈ front ++ back, x.id ≠ t.id := fun x hx heq => by
    rcases List.mem_append.1 hx with hx | hx
    · exact hapart x.id (List.mem_map_of_mem hx) c.id List.mem_cons_self (heq.trans hid.symm)
    · exact (List.nodup_cons.1 hback).1 (hid.trans heq.symm ▸ List.mem_map_of_mem hx)
  have hfind : s.candidates.find? (fun x => decide (x.id = t.id)) = some c := by
    rw [hlist, List.find?_append, List.find?_eq_none.2 fun x hx => by simpa using hother x (List.mem_append_left _ hx)]
    rw [Option.none_or, List.find?_cons_of_pos (by simp [hid])]
  have hkept : ∀ l : List Candidate, (∀ x ∈ l, x.id ≠ t.id) →
      (l.map fun x => if x.id = t.id then updateCandidate s t c else x) = l := fun l hl =>
    (List.map_congr_left fun x hx => if_neg (hl x hx)).trans (List.map_id l)
  have hmap : (s.candidates.map fun x => if x.id = t.id then updateCandidate s t c else x)
      = front ++ updateCandidate s t c :: back := by
    rw [hlist, List.map_append, List.map_cons, if_pos hid, hkept front fun x hx => hother x (List.mem_append_left _ hx),
      hkept back fun x hx => hother x (List.mem_append_right _ hx)]
  refine ⟨_, rfl, ?_⟩
  simp only [takeCandidate, hfind, hmap]
  exact .ite (search_frame _) (.refl _ _)

end

/-- Settles O18, by the room of the list. -/
theorem unknownSensorBecomesCandidate : Obligations.UnknownSensorBecomesCandidate := by
  intro s before after t hl hh hu hto hnew
  rw [exec_telegramRecord_of_unknown hl hh hu hto, takeCandidate_of_new (s := s.setHanded (before ++ after)) hnew]
  generalize hc : (s.setHanded (before ++ after)).setCandidates _ = c
  have hf := (settleProposal_frame c).trans (search_frame _)
  subst hc
  refine ⟨_, rfl, hf.handed, hf.wheels, hf.tables, makeRoom s.candidates, hf.candidates.trans ?_, makeRoom_of_short, makeRoom_of_full⟩
  simp only [newCandidate, movingHit_iff]
  rfl

/-- Settles O19, by whether the record is a duplicate. -/
theorem candidateIsUpdatedInPlace : Obligations.CandidateIsUpdatedInPlace := by
  intro s before after t front back c hl hh hu hto hlist hid hnodup
  obtain ⟨u, hu', hf⟩ := takeCandidate_of_listed (s := s.setHanded (before ++ after)) hlist hid hnodup
  rw [exec_telegramRecord_of_unknown hl hh hu hto, hu']
  refine ⟨u, _, rfl, hf.handed, hf.wheels, hf.tables, hf.candidates, updateCandidate_id _ t c, ?_⟩
  have hcopy := isCopy_iff (s := s.setHanded (before ++ after)) (q := c.lastSequence) (time := c.lastTime) (t := t)
  by_cases hd : isCopy (s.setHanded (before ++ after)) c.lastSequence c.lastTime t = true
  · have hdup := hcopy.1 hd
    simp only [updateCandidate, if_pos hd]
    exact ⟨trivial, trivial, trivial, fun h => by simp [h], fun h => by simp [Nat.not_lt.2 h], fun _ => ⟨trivial, trivial, trivial, trivial⟩,
      fun h => absurd hdup h⟩
  · have hdup := mt hcopy.2 hd
    simp only [updateCandidate, if_neg hd, movingHit_iff]
    exact ⟨trivial, trivial, trivial, fun h => by simp [h], fun h => by simp [Nat.not_lt.2 h], fun h => absurd h hdup,
      fun _ => ⟨rfl, rfl, trivial, trivial⟩⟩

/-! ### Candidates that age out -/

/-- With the records of the list distinct, an expired candidate goes alone. -/
theorem filter_expired {s : State} {c : Candidate} (hc : c ∈ s.candidates) (hnodup : (s.candidates.map Candidate.id).Nodup)
    (hold : candidateExpired s c = true) :
    (s.candidates.filter fun x => !(decide (x.id = c.id) && candidateExpired s x))
      = s.candidates.filter fun x => decide (x.id ≠ c.id) := by
  refine List.filter_congr fun x hx => ?_
  by_cases hid : x.id = c.id
  · obtain rfl := List.inj_on_of_nodup_map hnodup hx hc hid
    simp [hold]
  · simp [hid]

theorem settleProposal_of_sound {s : State} (h : ProposalLegal s) : settleProposal s = s := by
  cases hp : s.enc.proposal with
  | none => exact settleProposal_of_none hp
  | some p =>
    obtain ⟨hmissing, hlisted⟩ := h p hp
    obtain ⟨c, hc, hid⟩ := List.mem_map.1 hlisted
    simp only [settleProposal, hp]
    exact if_pos ⟨hmissing, List.any_eq_true.2 ⟨c, hc, decide_eq_true hid⟩⟩

theorem settleProposal_of_unsound {s : State} {p : Row × SensorId} (hp : s.enc.proposal = some p)
    (h : ¬ ((s.wheel p.1).status = .missing ∧ p.2 ∈ s.candidates.map Candidate.id)) :
    settleProposal s = search (withdraw s) := by
  simp only [settleProposal, hp]
  refine if_neg fun hsound => h ⟨hsound.1, ?_⟩
  obtain ⟨c, hc, hid⟩ := List.any_eq_true.1 hsound.2
  exact List.mem_map.2 ⟨c, hc, of_decide_eq_true hid⟩

theorem withdraw_raised {s : State} {p : Row × SensorId} (hp : s.enc.proposal = some p) :
    Raised { kind := .proposalWithdrawn, row := some p.1, value := some p.2, time := s.now / 1000 } s (withdraw s) := by
  have hraised := raised_between (kind := .proposalWithdrawn) (row := some p.1) (value := some p.2.toNat)
    (setEnc_frame { s.enc with proposal := none } s) (.refl [] _)
  rw [Option.map_some, BitVec.ofNat_toNat, BitVec.setWidth_eq] at hraised
  simpa only [withdraw, hp] using hraised

/-- Settles O20: the proposal whose candidate it was goes with it, and no other does. -/
theorem candidateAgeAndRecognitionWindow : Obligations.CandidateAgeAndRecognitionWindow := by
  refine ⟨fun s c hrun hc hlegal hsound hage => ?_, fun s d hrun htrailer hwindow hd => ?_⟩
  · let b := s.setCandidates (s.candidates.filter fun x => decide (x.id ≠ c.id))
    have hexec : exec (.candidateAgeExpiry c.id) s = .next (settleProposal b) := by
      have hrunning : exec (.candidateAgeExpiry c.id) s = .next (candidateAgeExpiry c.id s) := whileRunning_running hrun _
      rw [hrunning, candidateAgeExpiry, filter_expired hc hlegal.2 (decide_eq_true hage)]
    have hlisted : ∀ id : SensorId, id ∈ b.candidates.map Candidate.id ↔ id ∈ s.candidates.map Candidate.id ∧ id ≠ c.id := fun id => by
      simp only [b, State.setCandidates_candidates, List.mem_map, List.mem_filter, decide_eq_true_eq]
      exact ⟨fun ⟨x, ⟨hx, hne⟩, hid⟩ => ⟨⟨x, hx, hid⟩, hid ▸ hne⟩, fun ⟨⟨x, hx, hid⟩, hne⟩ => ⟨x, ⟨hx, hid ▸ hne⟩, hid⟩⟩
    rw [hexec]
    refine ⟨fun hother => ?_, fun r hopen => ?_⟩
    · rw [settleProposal_of_sound]
      · rfl
      · intro p hp
        obtain ⟨hmissing, hmem⟩ := hsound p hp
        exact ⟨hmissing, (hlisted p.2).2 ⟨hmem, fun hid => hother p.1 (by rw [← hid]; exact hp)⟩⟩
    · have hf := settleProposal_frame b
      refine ⟨_, rfl, hf.candidates, fun q hq => ?_, hf.wheels, hf.tables, ?_⟩
      · obtain ⟨-, hmem⟩ := settleProposal_proposal hq
        exact ((hlisted c.id).1 hmem).2 rfl
      · rw [settleProposal_of_unsound (s := b) hopen fun h => ((hlisted c.id).1 h.2).2 rfl]
        have hraised := raised_later (withdraw_raised (s := b) hopen) (search_frame _)
        exact hraised
  · have hrunning : exec .recognitionWindowExpiry s = .next (windowExpiry s) := whileRunning_running hrun _
    have hdue : due s s.window = true := hwindow ▸ due_of_le hd
    rw [hrunning, windowExpiry, if_pos ⟨htrailer, hdue⟩]
    rfl

end Sys2Proof.Machine
end

section
/-! The tool actions and the answers at a step of a session (R111 to R114, R119): the settlements of O22 and O23. -/

namespace Sys2Proof.Machine

set_option Elab.async false

/-! ### Tool actions (R113) -/

section
variable {s : State} {before after : List TelegramRecord} {t : TelegramRecord} {i : Nat}

theorem toolAction_of_new (hl : Listening s) (htool : inToolBlock t.id = true) (hopen : s.enc.session = some i)
    (hnew : sessionCopy s t = false) : toolAction t.pressure.toNat s t = true := by
  have hsession : sessionOpen s = true := by rw [sessionOpen, hopen]; rfl
  simp [toolAction, (tauListens_iff s).2 hl.2, htool, hsession, hnew]

/-- The part when a session is handed a record, with the record in the duplicate memory (R46). -/
abbrev heardInSession (before after : List TelegramRecord) (t : TelegramRecord) (s : State) : State :=
  (s.setHanded (before ++ after)).setEnc { s.enc with copies := remembered t s.enc.copies }

theorem takeHanded_of_tool (hl : Listening s) (hh : Handed s before t after) (htool : inToolBlock t.id = true)
    (hopen : s.enc.session = some i) (hnew : sessionCopy s t = false) :
    takeHanded t.lane (toolAction t.pressure.toNat) s = takeTool t.pressure.toNat (heardInSession before after t s) := by
  have hne : (s.setHanded (before ++ after)).enc.session ≠ none := by simp [hopen]
  rw [takeHanded_of_handed hh (toolAction_of_new hl htool hopen hnew), acceptRecord_of_tool (s := s.setHanded (before ++ after)) hl htool,
    handToEnc_of_new (s := s.setHanded (before ++ after)) _ hne hnew]
  rfl

theorem takeTool_of_open (code : Nat) (hopen : s.enc.session = some i) :
    takeTool code s =
      if code = 1 then advance i (raiseEvent .enrolStep (stepRow s i) none s)
      else if code = 2 then stepBack i s
      else if code = 3 then endSession .abortedTool s
      else s := by
  simp only [takeTool, hopen]

theorem advance_of_before (h : i + 1 < s.enc.walk.length) :
    advance i s = s.setEnc { s.enc with session := some (i + 1), stepDeadline := stepDeadlineFrom s } := if_pos h

end

/-- Settles O22, by the action. -/
theorem toolActionsAndTheStepDeadline : Obligations.ToolActionsAndTheStepDeadline := by
  refine ⟨fun s before after t i hl hh htool hopen hnew => ?_, fun s i d hrun hopen hdeadline hd hlegal => ?_⟩
  · let b := heardInSession before after t s
    have hb : b.enc.session = some i := hopen
    have htaken := takeHanded_of_tool hl hh htool hopen hnew
    rw [takeTool_of_open (s := heardInSession before after t s) _ hb] at htaken
    have hskip : exec (.skip t.lane) s = .next (takeHanded t.lane (toolAction 1) s) := whileRunning_running hl.1 _
    have hback : exec (.back t.lane) s = .next (takeHanded t.lane (toolAction 2) s) := whileRunning_running hl.1 _
    have habort : exec (.abort t.lane) s = .next (takeHanded t.lane (toolAction 3) s) := whileRunning_running hl.1 _
    refine ⟨fun hcode hlast => ?_, fun hcode hpos => ?_, fun hcode hzero => ?_, fun hcode => ?_⟩
    · rw [hcode, if_pos rfl, advance_of_before (s := raiseEvent _ _ _ b) hlast] at htaken
      rw [hskip, htaken]
      rfl
    · rw [hcode, if_neg (by decide), if_pos rfl, stepBack, if_neg hpos.ne'] at htaken
      rw [hback, htaken]
      rfl
    · rw [hcode, if_neg (by decide), if_pos rfl, stepBack, if_pos hzero] at htaken
      rw [hback, htaken]
      rfl
    · rw [hcode, if_neg (by decide), if_neg (by decide), if_pos rfl] at htaken
      rw [habort, htaken]
      have hawake : b.osc.state ≠ .dormant := fun h => by
        have hstate := hl.2
        rw [show s.osc.state = .dormant from h] at hstate
        exact absurd hstate (by decide)
      exact ⟨_, rfl, (endSession_frame .abortedTool b).handed, endSession_ended .abortedTool hb hawake⟩
  · obtain ⟨-, -, -, hopened⟩ := hlegal
    obtain ⟨-, hactive, -⟩ := hopened i hopen
    have hexec : exec .stepDeadlineExpiry s = .next (stepDeadlineExpiry s) := whileRunning_running hrun _
    have hsession : sessionOpen s = true := by rw [sessionOpen, hopen]; rfl
    rw [hexec, stepDeadlineExpiry, if_pos ⟨hsession, hdeadline ▸ due_of_le hd⟩]
    exact ⟨_, rfl, endSession_ended .timedOut hopen (by rw [hactive]; decide)⟩

/-! ### Answers (R111) -/

section
variable {s : State} {i : Nat} {r : Row} {id : SensorId}

/-- An answer whose ID a pair holds already. -/
theorem takeAnswer_of_repeat (c : AnswerClass) (hopen : s.enc.session = some i) (hr : s.enc.walk[i]? = some r)
    (h : id ∈ s.enc.pairs.map EnrolPair.id) : takeAnswer c id s = raiseEvent .enrolRepeat (some r) (some id.toNat) s := by
  obtain ⟨p, hp, hid⟩ := List.mem_map.1 h
  simp only [takeAnswer, hopen, stepRow, hr]
  rw [if_pos (List.any_eq_true.2 ⟨p, hp, decide_eq_true hid⟩), stepEvent, stepRow, hr]

/-- An answer whose ID no pair holds. -/
theorem takeAnswer_of_fresh (hopen : s.enc.session = some i) (hr : s.enc.walk[i]? = some r)
    (h : id ∉ s.enc.pairs.map EnrolPair.id) :
    takeAnswer .unknown id s = acceptAnswer i r id none s
    ∧ takeAnswer .foreign id s = raiseEvent .enrolForeign (some r) (some id.toNat) s
    ∧ takeAnswer (.enrolled r) id s = acceptAnswer i r id none s
    ∧ ∀ q, q ≠ r → takeAnswer (.enrolled q) id s =
        if s.enc.allowMove = true then acceptAnswer i r id (some q) s else raiseEvent .enrolInUse (some r) (some id.toNat) s := by
  have hany : ¬ s.enc.pairs.any (fun p => decide (p.id = id)) = true := fun hany => by
    obtain ⟨p, hp, hid⟩ := List.any_eq_true.1 hany
    exact h (List.mem_map.2 ⟨p, hp, of_decide_eq_true hid⟩)
  simp only [takeAnswer, hopen, stepRow, hr, if_neg hany, stepEvent, if_true]
  exact ⟨trivial, trivial, trivial, fun q hq => by rw [if_neg hq]⟩

theorem acceptAnswer_of_before (source : Option Row) (h : i + 1 < s.enc.walk.length) (hr : s.enc.walk[i]? = some r) :
    acceptAnswer i r id source s = raiseEvent .enrolStep (some r) (some id.toNat) (s.setEnc { s.enc with
      session := some (i + 1), stepDeadline := some (s.now + s.setting .stepTimeoutS * 1000)
      pairs := s.enc.pairs ++ [{ row := r, id := id, source := source }] }) := by
  let added := s.setEnc { s.enc with pairs := s.enc.pairs ++ [{ row := r, id := id, source := source }] }
  have hrow : stepRow added i = some r := hr
  have hadvance := advance_of_before (s := stepEvent .enrolStep i id added) h
  rw [stepEvent, hrow] at hadvance
  rw [acceptAnswer, stepEvent, hrow, hadvance]
  rfl

/-- The enrolled sensor's answer follows its measurement, which the session does not see. -/
theorem takeEnrolled_of_answer {q : Row} {t : TelegramRecord} (hnew : enrolledCopy s q t = false) (hopen : s.enc.session = some i)
    (hmode : t.mode = .triggered) :
    ∃ m, takeEnrolled q t s = settleProposal (takeAnswer (.enrolled q) t.id m) ∧ Frame (.episodes :: wheelFields) s m := by
  have hf : Frame (.episodes :: wheelFields) s (measure q t (noteRssi q t s)) :=
    ((putWheel_frame q _ s).mono (by decide)).trans (measure_frame q t _)
  refine ⟨_, ?_, hf⟩
  have hsession : sessionOpen (measure q t (noteRssi q t s)) = true := by rw [sessionOpen, hf.enc, hopen]; rfl
  simp only [takeEnrolled, hnew, Bool.false_eq_true, if_false]
  rw [if_pos ⟨hsession, hmode⟩]

end

section
variable {s : State} {before after : List TelegramRecord} {t : TelegramRecord} {i : Nat}

theorem exec_telegramRecord_of_answer (hl : Listening s) (hh : Handed s before t after) (hmode : t.mode = .triggered)
    (hopen : s.enc.session = some i) (hu : UnknownId s t.id) (hnew : sessionCopy s t = false) :
    exec (.telegramRecord t.lane) s = .next (takeAnswer .unknown t.id (heardInSession before after t s)) := by
  have hsession : sessionOpen (s.setHanded (before ++ after)) = true := by rw [sessionOpen, State.setHanded_enc, hopen]; rfl
  rw [exec_telegramRecord_of_handed hl.1 hh, acceptRecord_of_unknown (s := s.setHanded (before ++ after)) hl hu, takeUnknown,
    if_pos ⟨hmode, hsession⟩, handToEnc_of_new (s := s.setHanded (before ++ after)) _ (by simp [hopen]) hnew]
  rfl

theorem exec_telegramRecord_of_foreign_answer (hl : Listening s) (hh : Handed s before t after) (hmode : t.mode = .triggered)
    (hopen : s.enc.session = some i) (htool : inToolBlock t.id = false) (hr : rowHolding s t.id = none) (hslots : slotsWith s t.id ≠ [])
    (htrailer : s.trailer ≠ .recognising) (hnew : sessionCopy s t = false) :
    exec (.telegramRecord t.lane) s = .next (takeAnswer .foreign t.id (heardInSession before after t s)) := by
  obtain ⟨⟨k, slot⟩, rest, hcons⟩ := List.exists_cons_of_ne_nil hslots
  rw [exec_telegramRecord_of_handed hl.1 hh, acceptRecord_of_foreign (s := s.setHanded (before ++ after)) hl htool hr hcons,
    takeForeign_of_uncounted (s := s.setHanded (before ++ after)) (.inl htrailer), if_pos hmode,
    handToEnc_of_new (s := s.setHanded (before ++ after)) _ (by simp [hopen]) hnew]
  rfl

end

/-- Settles O23, by the class of the sensor. -/
theorem answersToAStep : Obligations.AnswersToAStep := by
  intro s before after t i r hl hh hmode hopen hr hlast
  let b := heardInSession before after t s
  refine ⟨fun hu hnew hfresh => ?_, fun hu hnew hheld => ?_, fun htool hnone hslots htrailer hnew hfresh => ?_,
    fun q htool hq hnew hfresh => ?_⟩
  · obtain ⟨hunknown, -⟩ := takeAnswer_of_fresh (s := b) hopen hr hfresh
    rw [exec_telegramRecord_of_answer hl hh hmode hopen hu hnew, hunknown, acceptAnswer_of_before (s := b) none hlast hr]
    rfl
  · rw [exec_telegramRecord_of_answer hl hh hmode hopen hu hnew, takeAnswer_of_repeat (s := b) _ hopen hr hheld]
    rfl
  · obtain ⟨-, hforeign, -⟩ := takeAnswer_of_fresh (s := b) hopen hr hfresh
    rw [exec_telegramRecord_of_foreign_answer hl hh hmode hopen htool hnone hslots htrailer hnew, hforeign]
    rfl
  · obtain ⟨m, htake, hf⟩ := takeEnrolled_of_answer (s := s.setHanded (before ++ after)) hnew hopen hmode
    have henc : m.enc = s.enc := hf.enc
    rw [← henc] at hopen hr hlast hfresh
    obtain ⟨-, -, hself, hmoved⟩ := takeAnswer_of_fresh hopen hr hfresh
    obtain ⟨p, hsettled⟩ := settleProposal_enc (takeAnswer (.enrolled q) t.id m)
    have hsettle := settleProposal_frame (takeAnswer (.enrolled q) t.id m)
    have hkept : (takeAnswer (.enrolled q) t.id m).handed = m.handed ∧ (takeAnswer (.enrolled q) t.id m).tables = m.tables := by
      by_cases hqr : q = r
      · subst hqr
        rw [hself, acceptAnswer_of_before none hlast hr]
        exact ⟨rfl, rfl⟩
      · rw [hmoved q hqr, acceptAnswer_of_before _ hlast hr]
        split <;> exact ⟨rfl, rfl⟩
    rw [exec_telegramRecord_of_handed hl.1 hh, acceptRecord_of_enrolled (s := s.setHanded (before ++ after)) hl htool hq, htake]
    refine ⟨_, rfl, hsettle.handed.trans (hkept.1.trans hf.handed), hsettle.tables.trans (hkept.2.trans hf.tables),
      fun hqr => ?_, fun hqr hmove => ?_, fun hqr hmove => ?_⟩
    · subst hqr
      rw [hsettled, hself, acceptAnswer_of_before none hlast hr, ← henc]
      exact ⟨rfl, rfl⟩
    · rw [hsettled, hmoved q hqr, henc, if_pos hmove, acceptAnswer_of_before _ hlast hr, ← henc]
      exact ⟨rfl, rfl⟩
    · have hstay : ¬ s.enc.allowMove = true := by simp [hmove]
      rw [hsettled, hmoved q hqr, henc, if_neg hstay, ← henc]
      exact ⟨hopen, rfl⟩

end Sys2Proof.Machine
end

section
/-! GO_OFFLINE and GO_ACTIVE (R148, R150): the settlement of O38. -/

namespace Sys2Proof.Machine

set_option Elab.async false

/-! ### A record restarted, seen later -/

theorem restarted_congr {s u : State} {r : Row} (hw : u.wheel r = s.wheel r) (hid : rowId u r = rowId s r) (h : Restarted s r) :
    Restarted u r := by
  unfold Restarted at h ⊢
  rwa [hw, hid]

/-- Outside ACTIVE a record restarted has no deadline. -/
theorem restartedRecord_of_not_active {s : State} (h : s.osc.state ≠ .active) (r : Row) :
    restartedRecord s r = .fresh (if (rowId s r).isSome then .awaiting else .vacant) := if_neg fun hactive => h hactive.2

/-- A frame without one of its fields, where that field was kept. -/
theorem Frame.sharpen {c d : List Field} {s t : State} (h : Frame c s t) {f : Field} (hf : Agree s t f)
    (hd : ∀ g ∈ c, g = f ∨ g ∈ d := by decide) : Frame d s t := by
  refine ⟨fun g hg => ?_, h.pushes⟩
  by_cases hgf : g = f
  · exact hgf ▸ hf
  · exact h.keeps g fun hc => (hd g hc).elim hgf hg

/-- A restart leaves the operating state. -/
theorem restartRows_frame_kept (rows : List Row) (s : State) : Frame [.episodes, .wheels, .evq, .link] s (restartRows rows s) :=
  (restartRows_frame rows s).sharpen (f := .osc) (restartRows_restarted rows s).osc

/-! ### The entered state, by what it leaves -/

/-- A part that neither sleeps nor goes to sleep keeps its vehicle data. -/
theorem enterState_frame_of_awake {n : OpState} {s : State} (hn : n ≠ .dormant) (hold : s.osc.state ≠ .dormant) :
    Frame [.evq, .osc, .lanes, .wheels, .link] s (enterState n s) :=
  (enterState_frame n s).sharpen (f := .vdm) (enterState_vdm hn hold)

theorem enterState_raised (n : OpState) (s : State) :
    Raised { kind := .stateChange, value := some (BitVec.ofNat 32 n.code), time := s.now / 1000 } s (enterState n s) := by
  obtain ⟨-, hevq, -⟩ := enterState_entered n s
  exact ⟨[], [], hevq⟩

/-- What came before a later step is raised still. -/
theorem raised_earlier {e : Event} {c : List Field} {s t u : State} (h : Frame c s t) (k : Raised e t u) : Raised e s u := by
  obtain ⟨es, hes⟩ := h.pushes
  obtain ⟨first, later, he⟩ := k
  exact ⟨es ++ first, later, by rw [he, hes, ← List.foldl_append, List.append_assoc]⟩

/-- A fresh record enters a state with its deadline for MISSING alone. -/
theorem enterState_wheel_of_fresh {n : OpState} {s : State} {r : Row} (hw : s.wheel r = restartedRecord s r)
    (hold : s.osc.state = .offline) :
    (enterState n s).wheel r = { restartedRecord s r with
      base := if n = .active ∧ (rowId s r).isSome then some s.now else none
      missingAt := if n = .active ∧ (rowId s r).isSome then some (s.now + missingMs s r) else none } := by
  obtain ⟨-, -, -, hwheels, -⟩ := enterState_entered n s
  rw [hwheels r, hw, restartedRecord_of_not_active (by rw [hold]; decide), hold]
  have hlevel : highest 0#16 = .none := by decide
  cases rowId s r <;> simp [WheelRecord.fresh, holdsMissing, WheelRecord.announcedLevel, hlevel]

/-! ### The requests -/

/-- Settles O38: GO_OFFLINE by the order of its checks, GO_ACTIVE by the restart of all rows and the entered state. -/
theorem offlineAndBack : Obligations.OfflineAndBack := by
  intro s data b
  refine ⟨fun hw => ?offline, fun hw => ?active⟩
  case offline =>
    have hexec : exec .goOffline s = .next (deliver data (goOffline data b)) := serveRequest_waitingFor hw _
    rw [hexec, goOffline]
    refine ⟨fun h => ?_, fun h => ?_, fun h => ?_⟩
    · rw [if_pos h]
      rfl
    · rw [if_neg (by rw [h]; decide), if_pos h]
      rfl
    · have hstarting : b.osc.state ≠ .starting := by rcases h with h | h <;> rw [h] <;> decide
      have hoffline : b.osc.state ≠ .offline := by rcases h with h | h <;> rw [h] <;> decide
      rw [if_neg hstarting, if_neg hoffline]
      refine ⟨fun hdeferred => ?_, fun hdeferred hopen => ?_, fun hdeferred hclosed hbusy => ?_, fun hdeferred hclosed hidle => ?_⟩
      · rw [if_pos (Option.isSome_iff_ne_none.2 hdeferred)]
        rfl
      · rw [if_neg (by simp [hdeferred]), if_pos ((sessionOpen_iff b).2 hopen)]
        rfl
      · rw [if_neg (by simp [hdeferred]), if_neg (by simp [sessionOpen, hclosed]), if_pos ((saveInFlight_iff b).2 hbusy)]
        rfl
      · rw [if_neg (by simp [hdeferred]), if_neg (by simp [sessionOpen, hclosed]), if_neg (by simp [saveInFlight_of_idle hidle])]
        exact ⟨_, rfl, enterState_entered .offline b⟩
  case active =>
    have hexec : exec .goActive s = .next (deliver data (goActive data b)) := serveRequest_waitingFor hw _
    rw [hexec, goActive]
    refine ⟨fun h => ?_, fun hoff => ?_⟩
    · rw [if_pos h]
      rfl
    · rw [if_neg (not_not.2 hoff)]
      let c := restartRows allRows b
      let n := stateByIgnition b
      let e := enterState n c
      have hn : n = .active ∨ n = .parkWatch := by
        show stateByIgnition b = _ ∨ stateByIgnition b = _
        unfold stateByIgnition
        split
        · exact .inl rfl
        · exact .inr rfl
      have hrestart := restartRows_restarted allRows b
      have hrows := restartRows_frame allRows b
      have hcoff : c.osc.state = .offline := by rw [show c.osc = b.osc from hrestart.osc]; exact hoff
      have hentered := enterState_frame_of_awake (n := n) (s := c) (by rcases hn with h | h <;> rw [h] <;> decide)
        (by rw [hcoff]; decide)
      have hsettled := settleProposal_frame e
      have hwheel : ∀ r, e.wheel r = { restartedRecord b r with
          base := if n = .active ∧ (rowId b r).isSome then some b.now else none
          missingAt := if n = .active ∧ (rowId b r).isSome then some (b.now + missingMs b r) else none } := fun r => by
        have hcongr := restartedRecord_congr hrows (by rw [hrestart.osc]) r
        have hc : c.wheel r = restartedRecord c r := (hrestart.restarted r (mem_allRows r)).trans hcongr.symm
        have hfresh := enterState_wheel_of_fresh (n := n) hc hcoff
        rw [hcongr, hrows.rowId, hrows.now, hrows.missingMs] at hfresh
        exact hfresh
      have hrecord := fun r => restartedRecord_of_not_active (s := b) (by rw [hoff]; decide) r
      have hkept : Frame [.episodes, .wheels, .evq, .osc, .link, .lanes, .enc] b (settleProposal e) :=
        ((hrows.mono (by decide)).trans (hentered.mono (by decide))).trans (hsettled.mono (by decide))
      have hstate : (settleProposal e).osc.state = n := by rw [hsettled.osc]; exact enterState_osc_state n c
      obtain ⟨p, hp⟩ := settleProposal_enc e
      have henc : e.enc = b.enc := hentered.enc.trans hrows.enc
      refine ⟨settleProposal e, rfl, hstate, fun r => ?_, fun r => ?_, ?_, ?_, ?_, hkept.tables, hkept.candidates, hkept.trailer,
        hkept.store, hkept.vdm, hkept.mgu, hkept.lines⟩
      · unfold Restarted
        rw [hsettled.wheel, hwheel, hkept.rowId, hrecord]
        exact ⟨rfl, rfl, rfl, rfl, rfl, rfl, rfl, rfl, rfl, rfl, rfl, rfl, rfl⟩
      · rw [hstate, hsettled.wheel, hwheel, hkept.missingMs, hrecord]
        cases rowId b r <;> simp [WheelRecord.fresh]
      · rw [hstate]
        have hraised := raised_later (raised_earlier hrows (enterState_raised n c)) hsettled
        rwa [show c.now = b.now from hrows.now] at hraised
      · cases hopen : (settleProposal e).enc.proposal with
        | none => rfl
        | some q =>
          obtain ⟨hmissing, -⟩ := settleProposal_proposal hopen
          rw [hwheel, hrecord] at hmissing
          have hnot : (WheelRecord.fresh (if (rowId b q.1).isSome then .awaiting else .vacant)).status ≠ .missing := by
            split <;> decide
          exact absurd hmissing hnot
      · rw [hp, henc]

end Sys2Proof.Machine
end

section
/-! WRITE_ROW, CLEAR_ROW and the acceptance and rejection of a proposal: the settlements of O41 and O46. -/

namespace Sys2Proof.Machine

set_option Elab.async false

/-! ### An ID held elsewhere (R8) -/

theorem mem_truckRowsWith {s : State} {id : SensorId} {q : Row} : q ∈ truckRowsWith s id ↔ q.val < 20 ∧ rowId s q = some id := by
  simp [truckRowsWith, mem_allRows]

theorem mem_slotsWith {s : State} {id : SensorId} {k : EntryNo} {t : SlotNo} :
    (k, t) ∈ slotsWith s id ↔ s.tables.roster[k].slots[t] = some id := by
  simp [slotsWith]

theorem slotRow_val (t : SlotNo) : (slotRow t).val = 20 + t.val := rfl

theorem slotRow_eq_iff {t : SlotNo} {r : Row} (hr : 20 ≤ r.val) : slotRow t = r ↔ t = rowSlot r := by
  simp only [Fin.ext_iff, slotRow_val, rowSlot]
  omega

theorem any_truckRowsWith {s : State} {id : SensorId} {r : Row} :
    (truckRowsWith s id).any (fun q => decide (q ≠ r)) = true ↔ ∃ q : Row, q.val < 20 ∧ q ≠ r ∧ rowId s q = some id := by
  simp only [List.any_eq_true, mem_truckRowsWith, decide_eq_true_eq]
  exact ⟨fun ⟨q, ⟨hq, hid⟩, hne⟩ => ⟨q, hq, hne, hid⟩, fun ⟨q, hq, hne, hid⟩ => ⟨q, ⟨hq, hid⟩, hne⟩⟩

theorem heldElsewhereSlot_iff {s : State} {k : EntryNo} {t : SlotNo} {id : SensorId} :
    heldElsewhereSlot s k t id = true ↔ (∃ q : Row, q.val < 20 ∧ rowId s q = some id)
      ∨ ∃ (j : EntryNo) (x : SlotNo), (j, x) ≠ (k, t) ∧ s.tables.roster[j].slots[x] = some id := by
  rw [heldElsewhereSlot, Bool.or_eq_true, Bool.not_eq_true', List.isEmpty_eq_false_iff_exists_mem]
  refine or_congr (exists_congr fun q => mem_truckRowsWith) ?_
  simp only [List.any_eq_true, decide_eq_true_eq, Prod.exists, mem_slotsWith]
  exact exists_congr fun j => exists_congr fun x => and_comm

theorem heldElsewhereRow_iff {s : State} {r : Row} {id : SensorId} (h : r.val < 20 ∨ ∃ k, s.trailer = .identified k) :
    heldElsewhereRow s r id = true ↔ HeldElsewhere s r id := by
  unfold heldElsewhereRow HeldElsewhere
  by_cases hr : r.val < 20
  · rw [if_pos hr, Bool.or_eq_true, any_truckRowsWith, Bool.not_eq_true', List.isEmpty_eq_false_iff_exists_mem]
    refine or_congr Iff.rfl ?_
    simp only [Prod.exists, mem_slotsWith]
    refine exists_congr fun k => exists_congr fun t => ⟨fun hid => ⟨hid, ?_⟩, And.left⟩
    rintro ⟨-, rfl⟩
    rw [slotRow_val] at hr
    omega
  · obtain ⟨k, hk⟩ := h.resolve_left hr
    simp only [if_neg hr, hk, heldElsewhereSlot_iff]
    refine or_congr (exists_congr fun q => and_congr_right fun hq => ?_) (exists_congr fun j => exists_congr fun x => ?_)
    · have hne : q ≠ r := fun heq => hr (heq ▸ hq)
      simp [hne]
    · rw [slotRow_eq_iff (by omega), and_comm, Ne, Prod.mk.injEq, TrailerState.identified.injEq, eq_comm (a := k)]

/-! ### A row rewritten (R10, R56, R79) -/

/-- The part with the ID of a row written, the candidates of `ids` gone, and the row restarted. -/
abbrev rewritten (r : Row) (id : Option SensorId) (ids : List SensorId) (s : State) : State :=
  restartRows [r] (dropCandidates ids (writeRowId r id s))

theorem writeRowId_tables (r : Row) (id : Option SensorId) (s : State) :
    (writeRowId r id s).tables = { s.tables with rows := (writeRowId r id s).tables.rows
                                                 roster := (writeRowId r id s).tables.roster } := by
  unfold writeRowId
  split
  · rfl
  · split <;> rfl

structure RowRewritten (r : Row) (id : Option SensorId) (ids : List SensorId) (s u : State) : Prop where
  rowIds : ∀ q, rowId u q = if q = r then id else rowId s q
  tables : u.tables = { s.tables with rows := u.tables.rows, roster := u.tables.roster }
  candidates : u.candidates = s.candidates.filter fun c => decide (c.id ∉ ids)
  restarted : Restarted u r
  kept : ∀ q, q ≠ r → q ≠ partner r → u.wheel q = s.wheel q
  episode : u.episode r = .reset
  frame : Frame [.tables, .candidates, .episodes, .wheels, .evq, .link] s u

theorem dropCandidates_frame (ids : List SensorId) (s : State) : Frame [.candidates] s (dropCandidates ids s) := setCandidates_frame _ s

theorem rewritten_rewritten {r : Row} {s : State} (h : r.val < 20 ∨ ∃ k, s.trailer = .identified k) (id : Option SensorId)
    (ids : List SensorId) : RowRewritten r id ids s (rewritten r id ids s) := by
  let w := writeRowId r id s
  have hwrite := writeRowId_frame r id s
  have hdrop : Frame [.tables, .candidates] s (dropCandidates ids w) :=
    (hwrite.mono (by decide)).trans ((dropCandidates_frame ids w).mono (by decide))
  have hrestart := restartRows_restarted [r] (dropCandidates ids w)
  have hrows := restartRows_frame_kept [r] (dropCandidates ids w)
  have htables : (rewritten r id ids s).tables = w.tables := hrows.tables.trans (dropCandidates_frame ids w).tables
  refine ⟨fun q => ?_, ?_, ?_, ?_, fun q hq hp => ?_, ?_, (hdrop.mono (by decide)).trans (hrows.mono (by decide))⟩
  · rw [hrows.rowId, (dropCandidates_frame ids w).rowId]
    exact writeRowId_rowId r q id s h
  · rw [htables]
    exact writeRowId_tables r id s
  · rw [hrows.candidates, dropCandidates, State.setCandidates_candidates, hwrite.candidates]
  · exact restartedRecord_restarted (hrows.rowId (r := r)) (hrestart.restarted r List.mem_cons_self)
  · rw [hrestart.kept (by simpa using hq) (fun hmem => hp (by rw [← List.mem_singleton.1 hmem, partner_partner])), hdrop.wheel]
  · rw [hrestart.episodes, if_pos List.mem_cons_self]

/-- A change of a row ends a proposal on it (R129): the row is not MISSING. -/
theorem changeRow_eq (r : Row) (id : Option SensorId) (s : State) :
    changeRow r id s = settleProposal (markDirty (rewritten r id id.toList s)) := rfl

theorem Restarted.not_missing {u : State} {r : Row} (h : Restarted u r) : (u.wheel r).status ≠ .missing := by
  obtain ⟨hstatus, -⟩ := h
  rw [hstatus]
  split <;> decide

theorem RowRewritten.mono {r : Row} {id : Option SensorId} {ids : List SensorId} {s t u : State} (h : RowRewritten r id ids s t)
    {c : List Field} (k : Frame c t u) (k₁ : Field.tables ∉ c := by decide) (k₂ : Field.trailer ∉ c := by decide)
    (k₃ : Field.candidates ∉ c := by decide) (k₄ : Field.wheels ∉ c := by decide) :
    (∀ q, rowId u q = if q = r then id else rowId s q)
      ∧ u.tables = { s.tables with rows := u.tables.rows, roster := u.tables.roster }
      ∧ u.candidates = s.candidates.filter (fun c => decide (c.id ∉ ids)) ∧ Restarted u r
      ∧ ∀ q, q ≠ r → q ≠ partner r → u.wheel q = s.wheel q := by
  refine ⟨fun q => (k.rowId k₁ k₂ q).trans (h.rowIds q), ?_, (k.candidates k₃).trans h.candidates,
    restarted_congr (k.wheel r k₄) (k.rowId k₁ k₂ r) h.restarted, fun q hq hp => (k.wheel q k₄).trans (h.kept q hq hp)⟩
  rw [k.tables k₁]
  exact h.tables

structure RowChanged (r : Row) (id : Option SensorId) (s u : State) : Prop where
  rowIds : ∀ q, rowId u q = if q = r then id else rowId s q
  tables : u.tables = { s.tables with rows := u.tables.rows, roster := u.tables.roster }
  candidates : u.candidates = s.candidates.filter fun c => decide (c.id ∉ id.toList)
  restarted : Restarted u r
  kept : ∀ q, q ≠ r → q ≠ partner r → u.wheel q = s.wheel q
  withdrawn : ∀ c, s.enc.proposal = some (r, c) →
    Raised { kind := .proposalWithdrawn, row := some r, value := some c, time := s.now / 1000 } s u
  store : u.store = { s.store with dirty := true }
  osc : u.osc = s.osc
  trailer : u.trailer = s.trailer
  vdm : u.vdm = s.vdm

theorem changeRow_changed {r : Row} {s : State} (h : r.val < 20 ∨ ∃ k, s.trailer = .identified k) (id : Option SensorId) :
    RowChanged r id s (changeRow r id s) := by
  rw [changeRow_eq]
  have hrow := rewritten_rewritten h id id.toList
  generalize rewritten r id id.toList s = w at hrow
  have hsettle := settleProposal_frame (markDirty w)
  have hlater : Frame [.store, .evq, .enc, .episodes] w (settleProposal (markDirty w)) :=
    ((markDirty_frame w).mono (by decide)).trans (hsettle.mono (by decide))
  obtain ⟨hids, htables, hcandidates, hrestarted, hkept⟩ := hrow.mono hlater
  refine ⟨hids, htables, hcandidates, hrestarted, hkept, fun c hc => ?_, ?_, hlater.osc.trans hrow.frame.osc,
    hlater.trailer.trans hrow.frame.trailer, hlater.vdm.trans hrow.frame.vdm⟩
  · have hopen : (markDirty w).enc.proposal = some (r, c) := by
      rw [(markDirty_frame w).enc, hrow.frame.enc, hc]
    have hmissing : ((markDirty w).wheel r).status ≠ .missing := hrow.restarted.not_missing
    rw [settleProposal_of_unsound hopen fun hsound => hmissing hsound.1]
    have hraised := raised_later (raised_earlier (markDirty_frame w) (withdraw_raised hopen)) (search_frame _)
    rw [(markDirty_frame w).now, hrow.frame.now] at hraised
    exact raised_earlier hrow.frame hraised
  · rw [hsettle.store]
    show { w.store with dirty := true } = _
    rw [hrow.frame.store]

theorem isSensor_iff (id : SensorId) : isSensor id = true ↔ id ≠ 0 ∧ id.toNat < 0xFFFFFF00 := by
  simp [isSensor, inToolBlock]

/-- Settles O41, by the order of the checks. -/
theorem rowWrites : Obligations.RowWrites := by
  intro s data hclosed b id
  have hopen : sessionOpen b = false := by rw [sessionOpen_takeOff, sessionOpen, hclosed]; rfl
  have habsent : ∀ r : Row, r.val < 20 ∨ (∃ k, b.trailer = .identified k) → rowAbsent b r = false := fun r h => by
    rw [← Bool.not_eq_true, rowAbsent_iff]
    rintro ⟨hr, hnone⟩
    rcases h with h | ⟨k, hk⟩
    · omega
    · exact hnone k hk
  refine ⟨fun hw => ?write, fun hw => ?clear⟩
  case write =>
    have hexec : exec .writeRow s = .next (deliver data (writeRow data b)) := serveRequest_waitingFor hw _
    rw [hexec, writeRow]
    refine ⟨fun hbad => ?_, fun r hr hzero hblock => ?_⟩
    · rcases hbad with hbad | hbad
      · rw [indexAt_none hbad]
        rfl
      · have hsensor : isSensor (idAt data 3) = false := by
          rw [← Bool.not_eq_true, isSensor_iff]
          rintro ⟨hne, hlt⟩
          exact hbad.elim hne (Nat.not_le.2 hlt)
        cases indexAt 32 data 2 <;> simp [hsensor]
    · have hsensor : isSensor (idAt data 3) = true := (isSensor_iff _).2 ⟨hzero, hblock⟩
      simp only [indexAt_eq r hr, hsensor, hopen, Bool.not_true, Bool.false_eq_true, if_false]
      refine ⟨fun htrailer hnone => ?_, fun hthere => ?_⟩
      · rw [if_pos ((rowAbsent_iff b r).2 ⟨htrailer, hnone⟩)]
        rfl
      · simp only [habsent r hthere, Bool.false_eq_true, if_false]
        have helse := heldElsewhereRow_iff (id := id) hthere
        refine ⟨fun husable => ?_, fun husable hheld => ?_, fun husable hfree hsame => ?_, fun husable hfree hnew => ?_⟩
        · rw [husable]
          rfl
        · rw [husable, if_neg (by decide), if_pos (helse.2 hheld)]
          rfl
        · rw [husable, if_neg (by decide), if_neg (mt helse.1 hfree), if_pos hsame]
          rfl
        · rw [husable, if_neg (by decide), if_neg (mt helse.1 hfree), if_neg hnew]
          obtain ⟨hids, htables, hcandidates, hrestarted, hkept, hwithdrawn, hstore, hosc, htrailer, hvdm⟩ :=
            changeRow_changed hthere (some id)
          exact ⟨changeRow r (some id) b, rfl, hids, htables, by simpa using hcandidates, hrestarted, hkept, hwithdrawn, hstore, hosc, htrailer, hvdm⟩
  case clear =>
    have hexec : exec .clearRow s = .next (deliver data (clearRow data b)) := serveRequest_waitingFor hw _
    rw [hexec, clearRow]
    refine ⟨fun hbad => ?_, fun r hr => ?_⟩
    · rw [indexAt_none hbad]
      rfl
    · simp only [indexAt_eq r hr, hopen, Bool.false_eq_true, if_false]
      refine ⟨fun htrailer hnone => ?_, fun hthere => ⟨fun hempty => ?_, fun held hheld => ?_⟩⟩
      · rw [if_pos ((rowAbsent_iff b r).2 ⟨htrailer, hnone⟩)]
        rfl
      · simp only [habsent r hthere, Bool.false_eq_true, if_false, hempty]
        rfl
      · simp only [habsent r hthere, Bool.false_eq_true, if_false, hheld]
        obtain ⟨hids, htables, hcandidates, hrestarted, hkept, hwithdrawn, hstore, hosc, htrailer, hvdm⟩ :=
          changeRow_changed hthere none
        exact ⟨changeRow r none b, rfl, hids, htables, by simpa using hcandidates, hrestarted, hkept, hwithdrawn, hstore, hosc, htrailer, hvdm⟩

/-! ### A proposal accepted or rejected (R130, R131) -/

theorem requestSave_store {before : Store} {s : State} (h : s.store = { before with dirty := true }) :
    (before.state = .idle → SaveBegun before (requestSave s))
      ∧ (before.state ≠ .idle → (requestSave s).store = { before with dirty := true, saveAgain := true }) := by
  have hstate : s.store.state = before.state := by rw [h]
  refine ⟨fun hidle => ?_, fun hbusy => ?_⟩
  · rw [requestSave_of_idle (hstate.trans hidle)]
    exact startSave_begun (by rw [h]) (by rw [h])
  · rw [requestSave_of_busy (by rwa [hstate])]
    show { s.store with saveAgain := true } = _
    rw [h]

/-- What the acceptance of a proposal leaves. -/
structure ProposalAccepted (r : Row) (id : SensorId) (s u : State) : Prop where
  rowIds : ∀ q, rowId u q = if q = r then some id else rowId s q
  candidates : u.candidates = s.candidates.filter fun c => decide (c.id ∉ [id])
  restarted : Restarted u r
  episode : (u.episode r).movingMs = 0 ∧ (u.episode r).rejected = []
  kept : ∀ q, q ≠ r → q ≠ partner r → u.wheel q = s.wheel q
  elsewhere : ∀ p, u.enc.proposal = some p → p.1 ≠ r
  begun : s.store.state = .idle → SaveBegun s.store u
  again : s.store.state ≠ .idle → u.store = { s.store with dirty := true, saveAgain := true }
  raised : Raised { kind := .proposalAccepted, row := some r, value := some id, time := s.now / 1000 } s u
  osc : u.osc = s.osc
  trailer : u.trailer = s.trailer
  vdm : u.vdm = s.vdm

theorem acceptProposal_accepted {r : Row} {s : State} (h : r.val < 20 ∨ ∃ k, s.trailer = .identified k) (id : SensorId) :
    ProposalAccepted r id s (acceptProposal r id s) := by
  let c := s.setEnc { s.enc with proposal := none }
  have hrow := rewritten_rewritten (s := c) h (some id) [id]
  have heq : acceptProposal r id s = search (raiseEvent .proposalAccepted (some r) (some id.toNat)
    (requestSave (markDirty (rewritten r (some id) [id] c)))) := rfl
  rw [heq]
  generalize rewritten r (some id) [id] c = w at hrow
  let saved := requestSave (markDirty w)
  let told := raiseEvent .proposalAccepted (some r) (some id.toNat) saved
  have hsave : Frame [.store, .saves] w saved := ((markDirty_frame w).mono (by decide)).trans (requestSave_frame _)
  have hsearched : Frame [.evq, .enc, .episodes] saved (search told) :=
    ((raiseEvent_frame _ _ _ _).mono (by decide)).trans ((search_frame told).mono (by decide))
  have halike : SearchAlike saved (search told) := (raiseEvent_alike _ _ _ _).trans (search_alike told)
  have hlater : Frame [.store, .saves, .evq, .enc, .episodes] w (search told) :=
    (hsave.mono (by decide)).trans (hsearched.mono (by decide))
  obtain ⟨hids, -, hcandidates, hrestarted, hkept⟩ := hrow.mono hlater
  have hepisode : saved.episode r = .reset := (hsave.episode r).trans hrow.episode
  obtain ⟨hbegun, hagain⟩ := requestSave_store (before := s.store) (s := markDirty w)
    (by show { w.store with dirty := true } = _; rw [hrow.frame.store]; rfl)
  refine ⟨hids, hcandidates, hrestarted, ?_, hkept, fun p hp hpr => ?_, fun hidle => ?_, fun hbusy => ?_, ?_, ?_, ?_, ?_⟩
  · obtain ⟨hmoving, hrejected⟩ := halike.episodes r
    rw [hmoving, hrejected, hepisode]
    exact ⟨rfl, rfl⟩
  · rcases search_proposal hp with hopen | ⟨⟨hmissing, -⟩, -⟩
    · have hnone : told.enc.proposal = none := by
        show saved.enc.proposal = none
        rw [hsave.enc, hrow.frame.enc]
        rfl
      rw [hnone] at hopen
      cases hopen
    · refine hrow.restarted.not_missing ?_
      rw [← hsave.wheel, ← hpr]
      exact hmissing
  · have hsaved := hbegun hidle
    unfold SaveBegun at hsaved ⊢
    rw [hsearched.store, hsearched.lines, hsearched.tables]
    exact hsaved
  · exact hsearched.store.trans (hagain hbusy)
  · have hf : Frame [.enc, .tables, .candidates, .episodes, .wheels, .evq, .link, .store, .saves] s saved :=
      (((setEnc_frame _ s).mono (by decide)).trans (hrow.frame.mono (by decide))).trans (hsave.mono (by decide))
    have hraised := raised_between (kind := .proposalAccepted) (row := some r) (value := some id.toNat) hf (search_frame told)
    rwa [Option.map_some, BitVec.ofNat_toNat, BitVec.setWidth_eq] at hraised
  · exact hlater.osc.trans hrow.frame.osc
  · exact hlater.trailer.trans hrow.frame.trailer
  · exact hlater.vdm.trans hrow.frame.vdm

theorem addRejected_of_room {id : SensorId} {l : List SensorId} (h : l.length < 8) : addRejected id l = l ++ [id] := by
  rw [addRejected, if_pos h]

theorem addRejected_of_full {id : SensorId} {l : List SensorId} (h : l.length = 8) : addRejected id l = l.tail ++ [id] := by
  rw [addRejected, if_neg (by omega), h, List.drop_one]

/-- Settles O46: a rejected candidate is not eligible again, so no search proposes it for the row. -/
theorem proposalRequests : Obligations.ProposalRequests := by
  intro s data b id
  refine ⟨fun hw => ?accept, fun hw => ?reject⟩
  case accept =>
    have hexec : exec .proposalAccept s = .next (deliver data (proposalAccept data b)) := serveRequest_waitingFor hw _
    rw [hexec, proposalAccept]
    refine ⟨fun hbad => ?_, fun r hr hzero hblock => ?_⟩
    · rcases hbad with hbad | hbad
      · rw [indexAt_none hbad]
        rfl
      · have hsensor : isSensor (idAt data 3) = false := by
          rw [← Bool.not_eq_true, isSensor_iff]
          rintro ⟨hne, hlt⟩
          exact hbad.elim hne (Nat.not_le.2 hlt)
        cases indexAt 32 data 2 <;> simp [hsensor]
    · have hsensor : isSensor (idAt data 3) = true := (isSensor_iff _).2 ⟨hzero, hblock⟩
      simp only [indexAt_eq r hr, hsensor, Bool.not_true, Bool.false_eq_true, if_false]
      refine ⟨fun hother => ?_, fun hopen hthere => ?_⟩
      · rw [if_pos hother]
        rfl
      · rw [if_neg (not_not.2 hopen)]
        obtain ⟨hids, hcandidates, hrestarted, ⟨hmoving, hrejected⟩, hkept, helsewhere, hbegun, hagain, hraised, hosc, htrailer, hvdm⟩ :=
          acceptProposal_accepted hthere id
        exact ⟨acceptProposal r id b, rfl, hids, by simpa using hcandidates, hrestarted, hmoving, hrejected, hkept, helsewhere, hbegun,
          hagain, hraised, hosc, htrailer, hvdm⟩
  case reject =>
    have hexec : exec .proposalReject s = .next (deliver data (proposalReject data b)) := serveRequest_waitingFor hw _
    rw [hexec, proposalReject]
    refine ⟨fun hbad => ?_, fun r hr => ?_⟩
    · rw [indexAt_none hbad]
      rfl
    · simp only [indexAt_eq r hr]
      refine ⟨fun hother => ?_, fun hopen => ?_⟩
      · rw [if_pos hother]
        rfl
      · rw [if_neg (not_not.2 hopen)]
        let listed := putEpisode r { b.episode r with rejected := addRejected id (b.episode r).rejected }
          (b.setEnc { b.enc with proposal := none })
        let told := raiseEvent .proposalRejected (some r) (some id.toNat) listed
        have hlisted : Frame [.enc, .episodes] b listed := ((setEnc_frame _ b).mono (by decide)).trans ((putEpisode_frame _ _ _).mono (by decide))
        have hf : Frame [.enc, .episodes, .evq] b (search told) :=
          ((hlisted.mono (by decide)).trans ((raiseEvent_frame _ _ _ _).mono (by decide))).trans ((search_frame told).mono (by decide))
        have hrejected : ((search told).episode r).rejected = addRejected id (b.episode r).rejected := by
          have hepisode : told.episode r = { b.episode r with rejected := addRejected id (b.episode r).rejected } := by
            show listed.episode r = _
            rw [putEpisode_episode, if_pos rfl]
          rw [((search_alike told).episodes r).2, hepisode]
        refine ⟨search told, rfl, fun hroom => ?_, fun hfull => ?_, fun hagain => ?_, ?_, hf.candidates, hf.wheels, hf.tables, hf.store,
          hf.osc, hf.link⟩
        · rw [hrejected, addRejected_of_room hroom]
        · rw [hrejected, addRejected_of_full hfull]
        · rcases search_proposed hagain with hstill | ⟨-, c, hc, hid⟩
          · cases hstill
          · obtain ⟨-, -, -, hnot⟩ : EligibleFor told r c := of_decide_eq_true (List.mem_filter.1 hc).2
            refine hnot ?_
            rw [← ((search_alike told).episodes r).2, hrejected, hid, addRejected]
            exact List.mem_append_right _ List.mem_cons_self
        · have hraised := raised_between (kind := .proposalRejected) (row := some r) (value := some id.toNat) hlisted (search_frame told)
          rwa [Option.map_some, BitVec.ofNat_toNat, BitVec.setWidth_eq] at hraised

end Sys2Proof.Machine
end

section
/-! SET_AXLE (R4 to R6): the settlement of O40. -/

namespace Sys2Proof.Machine

set_option Elab.async false

/-! ### An axle record as it is sent -/

theorem axleAt_of_fields {data : List Byte} {i : Nat} {a : AxleRecord} (h : AxleFields data i a) : axleAt data i = some a := by
  obtain ⟨hlayout, hgroup, hlift, hlane⟩ := h
  obtain ⟨layout, group, liftable, lane⟩ := a
  have hl : natAt data (i + 2) ≤ 1 ∧ decide (natAt data (i + 2) = 1) = liftable := by
    rw [hlift]
    cases liftable <;> simp
  have hgroup : natAt data (i + 1) = group.val := hgroup
  have hlane : natAt data (i + 3) = lane.val := hlane
  cases layout <;> simp [axleAt, hlayout, hgroup, hlane, hl, Layout.code]

theorem axleAt_of_bad {data : List Byte} {i : Nat} (h : AxleFieldsBad data i) : axleAt data i = none := by
  rw [axleAt]
  split
  · rfl
  · next layout hlayout =>
    have hcode : natAt data i ≤ 2 := by
      by_contra hlt
      split at hlayout
      · omega
      · omega
      · omega
      · cases hlayout
    split
    · split
      · rw [if_neg]
        rcases h with h | h | h | h <;> omega
      · rfl
    · rfl

/-! ### Rows emptied -/

theorem emptyRows_frame (rows : List Row) (s : State) : Frame [.tables] s (forRows (fun r => writeRowId r none) rows s) :=
  .forRows _ (fun r s => writeRowId_frame r none s) rows s

theorem emptyRows_rowId {rows : List Row} {s : State} (h : ∀ r ∈ rows, r.val < 20 ∨ ∃ k, s.trailer = .identified k) (q : Row) :
    rowId (forRows (fun r => writeRowId r none) rows s) q = if q ∈ rows then none else rowId s q := by
  induction rows generalizing s with
  | nil => rfl
  | cons r rows ih =>
    have htrailer := (writeRowId_frame r none s).trailer
    have hrest := ih (s := writeRowId r none s) fun r' hr' => by
      rw [htrailer]
      exact h r' (List.mem_cons_of_mem _ hr')
    refine hrest.trans ?_
    rw [writeRowId_rowId r q none s (h r List.mem_cons_self)]
    by_cases hq : q = r
    · simp [hq]
    · simp [hq]

/-- Truck rows emptied leave every table but the rows. -/
theorem emptyRows_tables {rows : List Row} (h : ∀ r ∈ rows, r.val < 20) (s : State) :
    (forRows (fun r => writeRowId r none) rows s).tables
      = { s.tables with rows := (forRows (fun r => writeRowId r none) rows s).tables.rows } := by
  induction rows generalizing s with
  | nil => rfl
  | cons r rows ih =>
    have hone : (writeRowId r none s).tables = { s.tables with rows := (writeRowId r none s).tables.rows } := by
      rw [writeRowId, dif_pos (h r List.mem_cons_self)]
      rfl
    have hrest := ih (fun r' hr' => h r' (List.mem_cons_of_mem _ hr')) (writeRowId r none s)
    rw [hone] at hrest
    exact hrest

/-! ### The write of a truck axle -/

/-- The rows of axle `a` that the layout `new` makes unusable. -/
abbrev axleLost (a : Fin 5) (old new : Layout) (r : Row) : Bool :=
  r.val / 4 = a.val && placeUsable old (r.val % 4) && !placeUsable new (r.val % 4)

theorem rowUsable_writeAxle {a : Fin 5} {rec : AxleRecord} {s t : State} (htables : t.tables.axles = s.tables.axles.set a rec)
    (hroster : t.tables.roster = s.tables.roster) (htrailer : t.trailer = s.trailer) (r : Row) :
    rowUsable t r = if r.val / 4 = a.val then placeUsable rec.layout (r.val % 4) else rowUsable s r := by
  have haxle : axleOf t (rowAxle r) = if r.val / 4 = a.val then rec else axleOf s (rowAxle r) := by
    unfold axleOf
    rw [htables, htrailer, hroster]
    by_cases htruck : (rowAxle r).val < 5
    · rw [dif_pos htruck, dif_pos htruck]
      simp only [Vector.getElem_set, rowAxle, eq_comm (a := a.val)]
    · have hne : r.val / 4 ≠ a.val := by
        have hnot : ¬ r.val / 4 < 5 := htruck
        have ha := a.isLt
        omega
      rw [dif_neg htruck, if_neg hne, dif_neg htruck]
  unfold rowUsable rowPlace
  rw [haxle]
  split <;> rfl

theorem rowUsable_of_axle {a : Fin 5} (s : State) {r : Row} (h : r.val / 4 = a.val) :
    rowUsable s r = placeUsable s.tables.axles[a].layout (r.val % 4) := by
  have haxle : rowAxle r = a.castLE (by decide) := Fin.ext h
  rw [rowUsable, haxle, axleOf_truck]
  rfl

/-- What the write of a truck axle leaves. -/
structure AxleWritten (a : Fin 5) (new : AxleRecord) (s u : State) : Prop where
  tables : u.tables = { s.tables with axles := s.tables.axles.set a new, rows := u.tables.rows }
  rowIds : ∀ r, rowId u r = if axleLost a s.tables.axles[a].layout new.layout r then none else rowId s r
  restarted : ∀ r : Row, r.val / 4 = a.val →
    placeUsable s.tables.axles[a].layout (r.val % 4) ≠ placeUsable new.layout (r.val % 4) → Restarted u r
  reading : ∀ r : Row, r.val / 4 ≠ a.val ∨
    placeUsable s.tables.axles[a].layout (r.val % 4) = placeUsable new.layout (r.val % 4) → SameReading (s.wheel r) (u.wheel r)
  kept : ∀ r : Row, r.val / 4 ≠ a.val → u.wheel r = s.wheel r
  store : u.store = { s.store with dirty := true }
  frame : Frame [.tables, .store, .episodes, .wheels, .evq, .link, .enc] s u

theorem mem_usabilityChanged {s t : State} {r : Row} : r ∈ usabilityChanged s t ↔ rowUsable s r ≠ rowUsable t r := by
  simp [usabilityChanged, mem_allRows]

theorem writeAxle_of_change {a : Fin 5} {new : AxleRecord} {s : State} (hne : new ≠ s.tables.axles[a]) :
    ∃ u, writeAxle a new s = answered .ok
        (be8 (allRows.filter fun r => axleLost a s.tables.axles[a].layout new.layout r && (rowId s r).isSome).length) u
      ∧ AxleWritten a new s u := by
  let written := writeTables { s.tables with axles := s.tables.axles.set a new } s
  have hwritten : ∀ r, rowUsable written r = if r.val / 4 = a.val then placeUsable new.layout (r.val % 4) else rowUsable s r :=
    rowUsable_writeAxle rfl rfl rfl
  have hid : ∀ r, rowId written r = rowId s r := fun r => rfl
  have hlost : strandedRows s written
      = allRows.filter fun r => axleLost a s.tables.axles[a].layout new.layout r && (rowId s r).isSome := by
    refine List.filter_congr fun r _ => ?_
    rw [hwritten, hid]
    by_cases hr : r.val / 4 = a.val
    · simp [rowUsable_of_axle s hr, axleLost, hr]
    · simp [axleLost, hr]
  have hmem : ∀ r, r ∈ strandedRows s written ↔
      axleLost a s.tables.axles[a].layout new.layout r = true ∧ (rowId s r).isSome = true := fun r => by
    rw [hlost, List.mem_filter, Bool.and_eq_true]
    exact and_iff_right (mem_allRows r)
  have htruck : ∀ r ∈ strandedRows s written, r.val < 20 := fun r hr => by
    have hbits := ((hmem r).1 hr).1
    simp only [Bool.and_eq_true, decide_eq_true_eq] at hbits
    have ha := a.isLt
    omega
  let emptied := forRows (fun r => writeRowId r none) (strandedRows s written) written
  have htables : emptied.tables = { s.tables with axles := s.tables.axles.set a new, rows := emptied.tables.rows } :=
    emptyRows_tables htruck written
  have hframe : Frame [.tables, .store] s emptied :=
    (writeTables_frame _ s).trans ((emptyRows_frame _ written).mono (by decide))
  have husable : ∀ r, rowUsable emptied r = if r.val / 4 = a.val then placeUsable new.layout (r.val % 4) else rowUsable s r :=
    rowUsable_writeAxle (by rw [htables]) (by rw [htables]) hframe.trailer
  have hrowId : ∀ r, rowId emptied r = if axleLost a s.tables.axles[a].layout new.layout r then none else rowId s r := fun r => by
    refine (emptyRows_rowId (s := written) (fun r hr => .inl (htruck r hr)) r).trans ?_
    rw [hid]
    by_cases hr : axleLost a s.tables.axles[a].layout new.layout r = true
    · rw [if_pos hr]
      split
      · rfl
      · next hnot =>
        by_contra hsome
        exact hnot ((hmem r).2 ⟨hr, Option.isSome_iff_ne_none.2 hsome⟩)
    · rw [if_neg hr, if_neg fun hin => hr ((hmem r).1 hin).1]
  have hchanged : ∀ r, r ∈ usabilityChanged s emptied ↔ r.val / 4 = a.val
      ∧ placeUsable s.tables.axles[a].layout (r.val % 4) ≠ placeUsable new.layout (r.val % 4) := fun r => by
    rw [mem_usabilityChanged, husable]
    by_cases hr : r.val / 4 = a.val
    · rw [if_pos hr, rowUsable_of_axle s hr]
      exact (and_iff_right hr).symm
    · simp [hr]
  let rows := usabilityChanged s emptied
  have hrestart := restartRows_restarted rows emptied
  have hrows := restartRows_frame_kept rows emptied
  have hsettle := settleProposal_frame (restartRows rows emptied)
  have hlater : Frame [.episodes, .wheels, .evq, .link, .enc] emptied (settleProposal (restartRows rows emptied)) :=
    (hrows.mono (by decide)).trans (hsettle.mono (by decide))
  refine ⟨settleProposal (restartRows rows emptied), ?_, ?_⟩
  · rw [writeAxle, if_neg hne, ← hlost]
  · refine ⟨?_, fun r => (hlater.rowId (r := r)).trans (hrowId r), fun r hr hplace => ?_, fun r hr => ?_, fun r hr => ?_, ?_,
      (hframe.mono (by decide)).trans (hlater.mono (by decide))⟩
    · rw [hlater.tables]
      exact htables
    · exact restarted_congr (hsettle.wheel r) (hsettle.rowId (r := r))
        (restartedRecord_restarted (hrows.rowId (r := r)) (hrestart.restarted r ((hchanged r).2 ⟨hr, hplace⟩)))
    · rw [hsettle.wheel, ← hframe.wheel r]
      exact hrestart.reading r fun hin => (hr.elim (fun hne => hne ((hchanged r).1 hin).1) ((hchanged r).1 hin).2)
    · have hout : ∀ q, q.val / 4 ≠ a.val → q ∉ rows := fun q hq hin => hq ((hchanged q).1 hin).1
      have hpartner : (partner r).val / 4 = r.val / 4 := congrArg Fin.val (partner_axle r)
      rw [hsettle.wheel, hrestart.kept (hout r hr) (hout _ (by rw [hpartner]; exact hr)), hframe.wheel]
    · rw [hlater.store, (emptyRows_frame _ written).store]
      rfl

/-- Settles O40, by the order of the checks. -/
theorem setAxleWrites : Obligations.SetAxleWrites := by
  intro s data hw b
  have hexec : exec .setAxle s = .next (deliver data (setAxle data b)) := serveRequest_waitingFor hw _
  rw [hexec, setAxle]
  refine ⟨fun hbad => ?_, fun a new ha hfields => ?_⟩
  · rcases hbad with hbad | hbad
    · rw [indexAt_none hbad]
      rfl
    · rw [axleAt_of_bad hbad]
      cases indexAt 5 data 2 <;> rfl
  · simp only [indexAt_eq a ha, axleAt_of_fields hfields]
    refine ⟨fun hstate => ?_, fun hoff hsame => ?_, fun hoff hne => ?_⟩
    · rw [if_pos hstate]
      rfl
    · rw [if_neg (not_not.2 hoff), writeAxle, if_pos hsame]
      rfl
    · rw [if_neg (not_not.2 hoff)]
      obtain ⟨u, hwrite, htables, hids, hrestarted, hreading, hkept, hstore, hf⟩ := writeAxle_of_change hne
      rw [hwrite]
      exact ⟨u, rfl, htables, hids, hrestarted, fun r hr => ⟨(hreading r hr).status, (hreading r hr).pc, by rw [hreading r hr]⟩, hkept,
        hstore, hf.candidates, hf.trailer, hf.osc, hf.vdm, hf.image, hf.lanes⟩

end Sys2Proof.Machine
end

section
/-! ROSTER_CLEAR and TRAILER_SELECT, without and beside a session: the settlement of O43. -/

namespace Sys2Proof.Machine

set_option Elab.async false

/-! ### An entry identified, unloaded or not -/

theorem isFree_iff (e : RosterEntry) : e.isFree = true ↔ e.tag = 0 := decide_eq_true_iff

theorem identifiedAs_iff (s : State) (k : EntryNo) : identifiedAs s k = true ↔ s.trailer = .identified k := by
  cases h : s.trailer <;> simp [identifiedAs, TrailerState.entry?, h]

theorem entry_isSome_iff (s : State) : s.trailer.entry?.isSome = true ↔ ∃ k, s.trailer = .identified k := by
  cases h : s.trailer <;> simp [TrailerState.entry?]

theorem unload_frame_kept (next : TrailerState) (s : State) :
    Frame [.trailer, .episodes, .wheels, .evq, .link] s (unload next s) :=
  ((setTrailer_frame _ s).mono (by decide)).trans ((restartRows_frame_kept _ _).mono (by decide))

theorem identify_frame_kept (k : EntryNo) (s : State) :
    Frame [.trailer, .window, .recog, .episodes, .wheels, .evq, .link] s (identify k s) :=
  ((identify_frame k s).sharpen (d := [.trailer, .window, .recog, .episodes, .osc, .wheels, .evq, .link]) (f := .enc)
    (identify_enc k s)).sharpen (f := .osc) (identify_identified k s).osc

/-! ### ROSTER_CLEAR (R18, R24) -/

theorem rosterClear_of_entry {data : List Byte} {s : State} {k : EntryNo} (hk : natAt data 2 = k.val) (hclosed : sessionOpen s = false) :
    rosterClear data s = answered .ok [] (if s.tables.roster[k].isFree then s else clearFollows k (writeEntry k .free s)) := by
  simp only [rosterClear, indexAt_eq k hk, hclosed, Bool.false_eq_true, if_false]

/-- An identified entry cleared: its rows hold nothing, restart, and the trailer is not known. -/
structure TrailerUnloaded (s u : State) : Prop extends TrailerRestarted s u where
  trailer : u.trailer = .unknown
  frame : Frame [.trailer, .episodes, .wheels, .evq, .link, .enc] s u
  raised : Raised { kind := .trailerUnknown, time := s.now / 1000 } s u

theorem clearFollows_of_identified {k : EntryNo} {s : State} (h : s.trailer = .identified k) : TrailerUnloaded s (clearFollows k s) := by
  let gone := unload .unknown s
  let told := raiseEvent .trailerUnknown none none gone
  have heq : clearFollows k s = settleProposal told := if_pos ((identifiedAs_iff s k).2 h)
  have hsettle := settleProposal_frame told
  have htold := raiseEvent_frame .trailerUnknown none none gone
  have hlater : Frame searchFields gone (settleProposal told) := (htold.mono (by decide)).trans hsettle
  rw [heq]
  refine ⟨(unload_restarted .unknown s).after (fun _ => rfl) rfl hlater, hlater.trailer.trans (unload_trailer _ s),
    ((unload_frame_kept .unknown s).mono (by decide)).trans (hlater.mono (by decide)), ?_⟩
  exact raised_between (value := none) (unload_frame_kept .unknown s) hsettle

theorem clearFollows_of_recognising (k : EntryNo) {s : State} (h : s.trailer = .recognising) :
    clearFollows k s = s.setRecog (s.recog.set k .empty) := by
  have hnot : ¬ identifiedAs s k = true := by
    rw [identifiedAs_iff, h]
    exact TrailerState.noConfusion
  rw [clearFollows, if_neg hnot, if_pos h]

theorem clearFollows_of_other {k : EntryNo} {s : State} (h : s.trailer ≠ .identified k) (hrecog : s.trailer ≠ .recognising) :
    clearFollows k s = s := by
  rw [clearFollows, if_neg (mt (identifiedAs_iff s k).1 h), if_neg hrecog]

/-! ### TRAILER_SELECT (R21, R23) -/

theorem selectTrailer_of_known {k : EntryNo} {s : State} (h : s.trailer = .identified k) : selectTrailer k s = s :=
  if_pos ((identifiedAs_iff s k).2 h)

/-- The part when the entry to select is identified: an entry identified before it is unloaded, which may end a session. -/
def selecting (s : State) : State :=
  if s.trailer.entry?.isSome then sessionTrailerLost (unload .unknown s) else s

theorem selectTrailer_of_other {k : EntryNo} {s : State} (h : s.trailer ≠ .identified k) :
    selectTrailer k s = settleProposal (identify k (selecting s)) := if_neg (mt (identifiedAs_iff s k).1 h)

theorem selectTrailer_identified {k : EntryNo} {s : State} (h : s.trailer ≠ .identified k) :
    Identified k (selecting s) (selectTrailer k s) := by
  rw [selectTrailer_of_other h]
  exact (identify_identified k _).searched (settleProposal_frame _)

theorem sessionTrailerLost_of_off {s : State} (h : sessionOnTrailer s = false) : sessionTrailerLost s = s := if_neg (by simp [h])

theorem sessionOnTrailer_of_closed {s : State} (h : s.enc.session = none) : sessionOnTrailer s = false := by
  simp [sessionOnTrailer, sessionOpen, h]

/-- A session whose walk keeps to the truck concerns the trailer by the sources of its pairs. -/
theorem sessionOnTrailer_iff {s : State} {i : Nat} (hopen : s.enc.session = some i) (hwalk : ∀ r ∈ s.enc.walk, r.val < 20) :
    sessionOnTrailer s = true ↔ ∃ p ∈ s.enc.pairs, ∃ q, p.source = some q ∧ 20 ≤ q.val := by
  have hnone : s.enc.walk.any isTrailerRow = false :=
    List.any_eq_false.2 fun r hr => by simpa [isTrailerRow] using hwalk r hr
  have hsession : sessionOpen s = true := by rw [sessionOpen, hopen]; rfl
  rw [sessionOnTrailer, hsession, hnone, Bool.true_and, Bool.false_or, List.any_eq_true]
  refine exists_congr fun p => and_congr_right fun _ => ?_
  cases p.source <;> simp [isTrailerRow]

/-- Where no session is lost, an unloaded entry is all that precedes the identification. -/
theorem selecting_of_kept {s : State} (h : (∃ j, s.trailer = .identified j) → sessionOnTrailer (unload .unknown s) = false) :
    Frame [.trailer, .episodes, .wheels, .evq, .link] s (selecting s)
      ∧ ∀ r : Row, r.val < 20 → (selecting s).wheel r = s.wheel r := by
  unfold selecting
  split
  · next hsome =>
    rw [sessionTrailerLost_of_off (h ((entry_isSome_iff s).1 hsome))]
    exact ⟨unload_frame_kept _ s, (unload_restarted _ s).kept⟩
  · exact ⟨.refl _ s, fun _ _ => rfl⟩

/-- A selection that ends no session. -/
structure EntrySelected (k : EntryNo) (s u : State) : Prop extends Identified k s u where
  kept_enc : s.enc.proposal = none → u.enc = s.enc

theorem selectTrailer_of_kept {k : EntryNo} {s : State} (hother : s.trailer ≠ .identified k)
    (h : (∃ j, s.trailer = .identified j) → sessionOnTrailer (unload .unknown s) = false) :
    EntrySelected k s (selectTrailer k s) := by
  obtain ⟨hf, hkept⟩ := selecting_of_kept h
  have hid := selectTrailer_identified hother
  refine ⟨⟨⟨hid.restarted, fun r hr => (hid.kept r hr).trans (hkept r hr), hid.osc.trans hf.osc⟩, hid.trailer, hid.window, hid.recog,
    (hf.mono (by decide)).trans hid.frame, ?_⟩, fun hnone => ?_⟩
  · have hraised := hid.raised
    rw [hf.now] at hraised
    exact raised_earlier hf hraised
  · have henc : (identify k (selecting s)).enc = s.enc := (identify_enc k _).trans hf.enc
    rw [selectTrailer_of_other hother, settleProposal_of_none (by rw [henc]; exact hnone), henc]

/-- A selection that ends the session with TRAILER_LOST (R116). -/
structure SelectedAndLost (k : EntryNo) (i : Nat) (s u : State) : Prop where
  restarted : ∀ r : Row, 20 ≤ r.val → Restarted u r
  trailer : u.trailer = .identified k
  window : u.window = none
  recog : u.recog = Vector.replicate 4 .empty
  slots : ∀ i : SlotNo, rowId u (slotRow i) = s.tables.roster[k].slots[i]
  identified : Raised { kind := .trailerIdentified, value := some (BitVec.ofNat 32 k.val), time := s.now / 1000 } s u
  same : u.tables = s.tables ∧ u.store = s.store ∧ u.candidates = s.candidates ∧ u.vdm = s.vdm
  session : u.enc.session = none ∧ u.enc.pairs = [] ∧ u.enc.copies = [] ∧ u.enc.stepDeadline = none ∧ u.enc.walk = s.enc.walk
    ∧ u.enc.lastEnding = .trailerLost ∧ u.enc.applied = 0 ∧ u.enc.leftVacant = 0
  ended : Raised { kind := .enrolEnded, row := s.enc.walk[i]?, value := some 6, time := s.now / 1000 } s u
  parking : s.osc.parkPending = true ∧ s.lines.ignition = false → u.osc.state = .parkWatch
  staying : ¬ (s.osc.parkPending = true ∧ s.lines.ignition = false) →
    u.osc.state = s.osc.state ∧ ∀ r : Row, r.val < 20 → u.wheel r = s.wheel r

theorem selectedAndLost_of_ended {k : EntryNo} {i : Nat} {s gone u : State} (hgone : Frame [.trailer, .episodes, .wheels, .evq, .link] s gone)
    (hkept : ∀ r : Row, r.val < 20 → gone.wheel r = s.wheel r) (hopen : s.enc.session = some i) (hawake : s.osc.state ≠ .dormant)
    (hid : Identified k (endSession .trailerLost gone) u)
    (henc : ∃ p, u.enc = { (endSession .trailerLost gone).enc with proposal := p }) : SelectedAndLost k i s u := by
  have hended := endSession_ended (s := gone) .trailerLost (i := i) (by rw [hgone.enc]; exact hopen) (by rw [hgone.osc]; exact hawake)
  have hframe := endSession_frame .trailerLost gone
  obtain ⟨p, hp⟩ := henc
  generalize endSession .trailerLost gone = v at hended hframe hid hp
  obtain ⟨⟨hsession, hpairs, hcopies, hdeadline, hlast, happlied, hleft, hwalk, htables, hcandidates, -, hstore, hvdm, hraised, hparking,
    hstaying⟩, hwheels⟩ := hended
  rw [hgone.osc, hgone.lines] at hparking hstaying hwheels
  rw [hgone.enc, hgone.now] at hraised
  have hroster : v.tables = s.tables := htables.trans hgone.tables
  refine ⟨hid.restarted, hid.trailer, hid.window, hid.recog, fun i => ?_, ?_, ⟨hid.frame.tables.trans hroster,
    hid.frame.store.trans (hstore.trans hgone.store), hid.frame.candidates.trans (hcandidates.trans hgone.candidates),
    hid.frame.vdm.trans (hvdm.trans hgone.vdm)⟩, ?_, ?_, fun hpark => ?_, fun hstay => ⟨?_, fun r hr => ?_⟩⟩
  · rw [hid.slots, hroster]
  · have hnamed := hid.raised
    rw [hframe.now, hgone.now] at hnamed
    exact raised_earlier hgone (raised_earlier hframe hnamed)
  · rw [hp]
    exact ⟨hsession, hpairs, hcopies, hdeadline, hwalk.trans (by rw [hgone.enc]), hlast, happlied, hleft⟩
  · exact raised_later (raised_earlier hgone hraised) hid.frame
  · rw [hid.osc]
    exact hparking hpark
  · rw [hid.osc]
    exact hstaying hstay
  · rw [hid.kept r hr, State.wheel, hwheels hstay]
    exact hkept r hr

theorem selectTrailer_of_lost {k j : EntryNo} {i : Nat} {s : State} (hother : s.trailer ≠ .identified k) (hj : s.trailer = .identified j)
    (hopen : s.enc.session = some i) (hawake : s.osc.state ≠ .dormant) (hlost : sessionOnTrailer (unload .unknown s) = true) :
    SelectedAndLost k i s (selectTrailer k s) := by
  have hselecting : selecting s = endSession .trailerLost (unload .unknown s) := by
    rw [selecting, if_pos ((entry_isSome_iff s).2 ⟨j, hj⟩)]
    exact if_pos hlost
  have hid := selectTrailer_identified hother
  rw [hselecting] at hid
  refine selectedAndLost_of_ended (unload_frame_kept .unknown s) (unload_restarted .unknown s).kept hopen hawake hid ?_
  obtain ⟨p, hp⟩ := settleProposal_enc (identify k (selecting s))
  rw [identify_enc, hselecting] at hp
  exact ⟨p, by rw [selectTrailer_of_other hother, hselecting, hp]⟩

theorem trailerSelect_of_entry {data : List Byte} {s : State} {k : EntryNo} (hk : natAt data 2 = k.val) :
    trailerSelect data s = if s.trailer = .none ∨ sessionWalksTrailer s then refuse .wrongState s
      else if s.tables.roster[k].isFree then refuse .notFound s else answered .ok [] (selectTrailer k s) := by
  simp only [trailerSelect, indexAt_eq k hk]

/-- Settles O43: TRAILER_SELECT by whether it ends the session. -/
theorem rosterClearAndSelect : Obligations.RosterClearAndSelect := by
  intro s data b
  refine ⟨fun hw hclosed => ?clear, fun hw => ?select⟩
  case clear =>
    have hexec : exec .rosterClear s = .next (deliver data (rosterClear data b)) := serveRequest_waitingFor hw _
    have hopen : sessionOpen b = false := by rw [sessionOpen_takeOff, sessionOpen, hclosed]; rfl
    rw [hexec]
    refine ⟨fun hbad => ?_, fun k hk => ?_⟩
    · rw [rosterClear, indexAt_none hbad]
      rfl
    · rw [rosterClear_of_entry hk hopen]
      let c := writeEntry k .free b
      refine ⟨fun hfree => ?_, fun htag hid => ?_, fun htag hrecog => ?_, fun htag hother hrecog => ?_⟩
      · rw [if_pos ((isFree_iff _).2 hfree)]
        rfl
      · rw [if_neg ((isFree_eq_false_iff _).2 htag)]
        obtain ⟨⟨hrestarted, hkept, -⟩, htrailer, hf, hraised⟩ := clearFollows_of_identified (s := c) hid
        have hgone : ∀ j, (clearFollows k c).trailer ≠ .identified j := fun j => by
          rw [htrailer]
          exact TrailerState.noConfusion
        exact ⟨clearFollows k c, rfl, hf.tables, hf.store, htrailer, hf.candidates,
          fun r hr => ⟨rowId_of_noTrailer hgone hr, hrestarted r hr⟩, hkept, hraised⟩
      · rw [if_neg ((isFree_eq_false_iff _).2 htag), clearFollows_of_recognising k (s := c) hrecog]
        rfl
      · rw [if_neg ((isFree_eq_false_iff _).2 htag), clearFollows_of_other (s := c) hother hrecog]
        rfl
  case select =>
    have hexec : exec .trailerSelect s = .next (deliver data (trailerSelect data b)) := serveRequest_waitingFor hw _
    have henc : b.enc = s.enc := (takeOff_frame s).enc
    rw [hexec]
    refine ⟨fun hbad => ?_, fun k hk => ?_⟩
    · rw [trailerSelect, indexAt_none hbad]
      rfl
    · rw [trailerSelect_of_entry hk]
      refine ⟨fun hnone => ?_, fun hthere hclosed => ?_, fun i hthere hopen hwalk hlegal => ?_⟩
      · rw [if_pos (.inl hnone)]
        rfl
      · have hserved : ¬ (b.trailer = .none ∨ sessionWalksTrailer b = true) := by
          rw [sessionWalksTrailer, sessionOpen_takeOff, sessionOpen, hclosed]
          exact fun h => h.elim hthere (by simp)
        rw [if_neg hserved]
        refine ⟨fun hfree => ?_, fun htag hid => ?_, fun htag hother => ?_⟩
        · rw [if_pos ((isFree_iff _).2 hfree)]
          rfl
        · rw [if_neg ((isFree_eq_false_iff _).2 htag), selectTrailer_of_known hid]
          rfl
        · rw [if_neg ((isFree_eq_false_iff _).2 htag)]
          have hsel := (selectTrailer_of_kept hother fun _ => sessionOnTrailer_of_closed (by
            rw [(unload_frame_kept .unknown b).enc, henc, hclosed])).toIdentified
          exact ⟨_, rfl, hsel.trailer, hsel.window, hsel.recog, hsel.slots, hsel.restarted, hsel.kept, hsel.frame.tables, hsel.frame.store,
            hsel.frame.candidates, hsel.frame.vdm, hsel.raised⟩
      · have hsession : b.enc.session = some i := by rw [henc]; exact hopen
        have hserved : ¬ (b.trailer = .none ∨ sessionWalksTrailer b = true) := by
          have hnone : b.enc.walk.any isTrailerRow = false := by
            rw [henc]
            exact List.any_eq_false.2 fun r hr => by simpa [isTrailerRow] using hwalk r hr
          rw [sessionWalksTrailer, hnone, Bool.and_false]
          exact fun h => h.elim hthere Bool.false_ne_true
        have hconcerned : sessionOnTrailer (unload .unknown b) = true ↔ ∃ p ∈ b.enc.pairs, ∃ q, p.source = some q ∧ 20 ≤ q.val := by
          have hgone : (unload .unknown b).enc = b.enc := (unload_frame_kept .unknown b).enc
          rw [sessionOnTrailer_iff (s := unload .unknown b) (i := i) (by rw [hgone, hsession]) (by rw [hgone, henc]; exact hwalk), hgone]
        obtain ⟨-, -, -, hlaw⟩ := hlegal
        obtain ⟨-, -, -, -, -, hproposal, -⟩ := hlaw i hopen
        rw [if_neg hserved]
        refine ⟨fun hfree => ?_, fun htag hid => ?_, fun htag hother => ?_⟩
        · rw [if_pos ((isFree_iff _).2 hfree)]
          rfl
        · rw [if_neg ((isFree_eq_false_iff _).2 htag), selectTrailer_of_known hid]
          rfl
        · rw [if_neg ((isFree_eq_false_iff _).2 htag)]
          intro lost
          by_cases hlost : lost
          · obtain ⟨⟨j, hj⟩, hpair⟩ := hlost
            obtain ⟨hrestarted, htrailer, hwindow, hrecog, hslots, hid, ⟨htables, hstore, hcandidates, hvdm⟩, hclosed, hended, hparking,
              hstaying⟩ := selectTrailer_of_lost hother hj hsession (takeOff_not_dormant s) (hconcerned.2 hpair)
            obtain ⟨hnone, hpairs, hcopies, hdeadline, hwalked, hlast, happlied, hleft⟩ := hclosed
            exact ⟨_, rfl, htrailer, hwindow, hrecog, hslots, hrestarted, htables, hstore, hcandidates, hvdm, hid,
              fun hkept => absurd ⟨⟨j, hj⟩, hpair⟩ hkept,
              fun _ => ⟨hnone, hpairs, hcopies, hdeadline, hwalked, hlast, happlied, hleft, hended, hparking, hstaying⟩⟩
          · obtain ⟨hsel, hsame⟩ := selectTrailer_of_kept hother fun hj => by
              rw [← Bool.not_eq_true, hconcerned]
              exact fun hpair => hlost ⟨hj, hpair⟩
            exact ⟨_, rfl, hsel.trailer, hsel.window, hsel.recog, hsel.slots, hsel.restarted, hsel.frame.tables, hsel.frame.store,
              hsel.frame.candidates, hsel.frame.vdm, hsel.raised, fun _ => ⟨hsame (by rw [henc]; exact hproposal), hsel.osc, hsel.kept⟩,
              fun h => absurd h hlost⟩

end Sys2Proof.Machine
end

section
/-! FRAME_TIMEOUT_EXPIRY (R135, R139, R142): the settlement of O29. -/

namespace Sys2Proof.Machine

set_option Elab.async false

/-- With the speed unknown the vehicle does not move, and no session ends. -/
theorem sessionMoved_of_unknown {s : State} (h : s.vdm.speed = none) : sessionMoved s = s :=
  if_neg fun hmoving => by simp [moving, h] at hmoving

theorem setSpeed_none (s : State) :
    Frame (.vdm :: wheelFields) s (setSpeed none s) ∧ (setSpeed none s).vdm = { s.vdm with speed := none }
      ∧ (setSpeed none s).osc.state = s.osc.state := by
  by_cases h : none = s.vdm.speed
  · rw [setSpeed_of_same h]
    exact ⟨.refl _ s, by rw [h], rfl⟩
  · have hf := retime_frame s (s.setVdm { s.vdm with speed := none })
    have hw := retime_work s (s.setVdm { s.vdm with speed := none })
    rw [setSpeed_of_change h, sessionMoved_of_unknown (by rw [hf.vdm]; rfl)]
    refine ⟨((setVdm_frame _ s).mono (by decide)).trans (hf.mono (by decide)), hf.vdm, ?_⟩
    rw [hw.osc_state, State.setVdm_osc]

/-- Settles O29. -/
theorem frameTimeoutLosesTheData : Obligations.FrameTimeoutLosesTheData := by
  intro s d hrun hdeadline hd
  have hexec : exec .frameTimeoutExpiry s = .next (frameTimeout s) := whileRunning_running hrun _
  have hdue : due s s.vdm.frameDeadline = true := hdeadline ▸ due_of_le hd
  rw [hexec, frameTimeout, if_pos hdue]
  refine ⟨fun hpresent => ?_, fun hlost => ?_⟩
  · let lost := s.setVdm { s.vdm with status := .lost, frameDeadline := none }
    let told := raiseEvent .vehicleDataLost none none lost
    obtain ⟨hspeed, hvdm, hstate⟩ := setSpeed_none told
    let truck := reportLoad .truck .unknown (setSpeed none told)
    have htruck := reportLoad_frame .truck .unknown (setSpeed none told)
    have htrailer := reportLoad_frame .trailer .unknown truck
    have hlater : Frame (.vdm :: wheelFields) told (reportLoad .trailer .unknown truck) := (hspeed.trans (htruck.mono (by decide))).trans (htrailer.mono (by decide))
    rw [if_neg hpresent]
    refine ⟨reportLoad .trailer .unknown truck, rfl, ?_, ?_, hlater.tables, hlater.trailer, hlater.candidates, ?_, ?_⟩
    · rw [reportLoad_vdm, reportLoad_vdm, hvdm]
      rfl
    · exact raised_between (kind := .vehicleDataLost) (row := none) (value := none) (t := lost) (setVdm_frame _ s) hlater
    · rw [hlater.enc]
      rfl
    · rw [(reportLoad_work _ _ _).osc_state, (reportLoad_work _ _ _).osc_state, hstate]
      rfl
  · rw [if_pos hlost, ← hlost]
    rfl

end Sys2Proof.Machine
end

section
/-! Work on conditions: a record judged keeps its reading, what is announced of it, and the laws that a pair and a vacant row
obey (R7, R91 to R95). -/

namespace Sys2Proof.Machine

set_option Elab.async false

/-- A record that differs in its conditions alone. -/
abbrev Rejudged (w v : WheelRecord) : Prop := v = { w with active := v.active, counters := v.counters }

theorem Rejudged.refl (w : WheelRecord) : Rejudged w w := rfl

theorem Rejudged.trans {u v w : WheelRecord} (h : Rejudged u v) (k : Rejudged v w) : Rejudged u w := by
  unfold Rejudged at *
  rw [k, h]

theorem Rejudged.status {w v : WheelRecord} (h : Rejudged w v) : v.status = w.status := by rw [h]

theorem Rejudged.pc {w v : WheelRecord} (h : Rejudged w v) : v.pc = w.pc := by rw [h]

theorem Rejudged.pg {w v : WheelRecord} (h : Rejudged w v) : v.pg = w.pg := by rw [h]

theorem Rejudged.announced {w v : WheelRecord} (h : Rejudged w v) : v.announced = w.announced := by rw [h]

theorem Rejudged.reading {w v : WheelRecord} (h : Rejudged w v) : SameReading w v := by
  unfold SameReading
  rw [h]

/-- Conditions judged on the rows that `P` names. -/
structure Judging (P : Row → Prop) (s t : State) : Prop where
  frame : Frame [.wheels, .evq, .osc] s t
  osc_state : t.osc.state = s.osc.state
  rejudged : ∀ q, Rejudged (s.wheel q) (t.wheel q)
  outside : ∀ q, ¬ P q → t.wheel q = s.wheel q
  imbalance : (∀ q, ImbalanceLegal s q) → ∀ q, ImbalanceLegal t q
  vacant : ∀ q, (s.wheel q).status = .vacant → (s.wheel q).active = 0 → (t.wheel q).active = 0

namespace Judging

variable {P Q : Row → Prop} {s t u : State} {r : Row} {c : Condition}

theorem refl (s : State) : Judging P s s :=
  ⟨.refl _ s, rfl, fun _ => rfl, fun _ _ => rfl, fun h => h, fun _ _ h => h⟩

theorem trans (h : Judging P s t) (k : Judging P t u) : Judging P s u :=
  ⟨h.frame.trans k.frame, k.osc_state.trans h.osc_state, fun q => (h.rejudged q).trans (k.rejudged q),
    fun q hq => (k.outside q hq).trans (h.outside q hq), fun hi => k.imbalance (h.imbalance hi),
    fun q hv ha => k.vacant q ((h.rejudged q).status.trans hv) (h.vacant q hv ha)⟩

theorem mono (h : Judging P s t) (hPQ : ∀ q, P q → Q q) : Judging Q s t :=
  ⟨h.frame, h.osc_state, h.rejudged, fun q hq => h.outside q (mt (hPQ q) hq), h.imbalance, h.vacant⟩

theorem ite {p : Prop} [Decidable p] (h : p → Judging P s t) (k : ¬ p → Judging P s u) : Judging P s (if p then t else u) := by
  split
  · next hp => exact h hp
  · next hp => exact k hp

/-- Row after row, where a step keeps the statuses that the next one relies on. -/
theorem forRows {f : Row → State → State} {rows : List Row} (hf : ∀ r ∈ rows, ∀ t, Judging P s t → Judging P t (f r t)) :
    Judging P s (Machine.forRows f rows s) := by
  suffices h : ∀ (l : List Row), (∀ r ∈ l, r ∈ rows) → ∀ t, Judging P s t → Judging P s (Machine.forRows f l t) from
    h rows (fun _ h => h) s (.refl s)
  intro l hl
  induction l with
  | nil => exact fun t ht => ht
  | cons r l ih =>
    intro t ht
    exact ih (fun q hq => hl q (List.mem_cons_of_mem _ hq)) (f r t) (ht.trans (hf r (hl r List.mem_cons_self) t ht))

theorem foldl {f : State → Condition → State} {conditions : List Condition} (hf : ∀ c ∈ conditions, ∀ t, Judging P s t → Judging P t (f t c)) :
    Judging P s (conditions.foldl f s) := by
  suffices h : ∀ (l : List Condition), (∀ c ∈ l, c ∈ conditions) → ∀ t, Judging P s t → Judging P s (l.foldl f t) from
    h conditions (fun _ h => h) s (.refl s)
  intro l hl
  induction l with
  | nil => exact fun t ht => ht
  | cons c l ih =>
    intro t ht
    exact ih (fun d hd => hl d (List.mem_cons_of_mem _ hd)) (f t c) (ht.trans (hf c (hl c List.mem_cons_self) t ht))

end Judging

/-! ### One condition, and the condition of a pair -/

theorem setCondition_osc_state (r : Row) (c : Condition) (on : Bool) (s : State) : (setCondition r c on s).osc.state = s.osc.state := by
  unfold setCondition
  dsimp only
  split
  · exact notice_osc_state _ _
  · rfl

theorem setCondition_judging {r : Row} {c : Condition} {on : Bool} {s : State} (hc : c ≠ .imbalance)
    (hon : on = true → (s.wheel r).status ≠ .vacant) : Judging (· = r) s (setCondition r c on s) := by
  have hwheel := fun q => setCondition_wheel r q c on s
  have hbit : ∀ q, hasCond ((setCondition r c on s).wheel q).active .imbalance = hasCond (s.wheel q).active .imbalance := fun q => by
    rw [hwheel]
    split
    · next h => simp [h, hc.symm]
    · rfl
  refine ⟨setCondition_frame r c on s, setCondition_osc_state r c on s, fun q => ?_, fun q hq => (hwheel q).trans (if_neg hq),
    fun hi q => ?_, fun q hv ha => ?_⟩
  · rw [hwheel]
    split
    · next h => rw [h]
    · rfl
  · rw [ImbalanceLegal, hbit, hbit]
    exact hi q
  · rw [hwheel]
    split
    · next h =>
      subst h
      cases on
      · show dropCond (s.wheel q).active c = 0
        rw [ha, dropCond_zero]
      · exact absurd hv (hon rfl)
    · exact ha

theorem clearIfActive_judging {r : Row} {c : Condition} (hc : c ≠ .imbalance) (s : State) : Judging (· = r) s (clearIfActive r c s) :=
  .ite (fun _ => setCondition_judging hc nofun) fun _ => .refl s

theorem setCounter_judging (r : Row) (c : Condition) (n : Nat) (s : State) : Judging (· = r) s (setCounter r c n s) := by
  have hwheel := fun q => setCounter_wheel r q c n s
  have hactive : ∀ q, ((setCounter r c n s).wheel q).active = (s.wheel q).active := fun q => by
    rw [hwheel]
    split
    · next h => rw [h]
    · rfl
  refine ⟨(setCounter_frame r c n s).mono (by decide), rfl, fun q => ?_, fun q hq => (hwheel q).trans (if_neg hq),
    fun hi q => ?_, fun q _ ha => (hactive q).trans ha⟩
  · rw [hwheel]
    split
    · next h => rw [h]
    · rfl
  · rw [ImbalanceLegal, hactive, hactive]
    exact hi q

theorem outerRow_cases (r : Row) : (outerRow r = r ∧ partner (outerRow r) = partner r) ∨ (outerRow r = partner r ∧ partner (outerRow r) = r) := by
  rcases outerRow_eq r with h | h
  · exact .inl ⟨h, by rw [h]⟩
  · exact .inr ⟨h, by rw [h, partner_partner]⟩

theorem setImbalance_wheel (r q : Row) (on : Bool) (s : State) :
    (setImbalance r on s).wheel q =
      if q = r ∨ q = partner r then
        { s.wheel q with active := withCond (s.wheel q).active .imbalance on
                         counters := (s.wheel q).counters.set Condition.imbalance.code 0 }
      else s.wheel q := by
  unfold setImbalance
  dsimp only
  rw [setCondition_wheel, setCondition_wheel, setCondition_wheel]
  have hne := partner_ne (outerRow r)
  have hpair : (q = r ∨ q = partner r) ↔ (q = outerRow r ∨ q = partner (outerRow r)) := by
    rcases outerRow_cases r with ⟨h₁, h₂⟩ | ⟨h₁, h₂⟩
    · rw [h₁]
    · rw [h₂, h₁, or_comm]
  rw [if_neg hne]
  by_cases hq : q = partner (outerRow r)
  · subst hq
    rw [if_pos rfl, if_pos (hpair.2 (.inr rfl))]
  · rw [if_neg hq]
    by_cases ho : q = outerRow r
    · subst ho
      rw [if_pos rfl, if_pos (hpair.2 (.inl rfl))]
    · rw [if_neg ho, if_neg fun h => (hpair.1 h).elim ho hq]

theorem setImbalance_judging {r : Row} {on : Bool} {s : State}
    (hon : on = true → (s.wheel r).status ≠ .vacant ∧ (s.wheel (partner r)).status ≠ .vacant) :
    Judging (fun q => q = r ∨ q = partner r) s (setImbalance r on s) := by
  have hwheel := fun q => setImbalance_wheel r q on s
  refine ⟨setImbalance_frame r on s, (setCondition_osc_state _ _ _ _).trans (setCondition_osc_state _ _ _ _), fun q => ?_,
    fun q hq => (hwheel q).trans (if_neg hq), fun hi q => ?_, fun q hv ha => ?_⟩
  · rw [hwheel]
    split <;> rfl
  · have hmem : (partner q = r ∨ partner q = partner r) ↔ (q = r ∨ q = partner r) := by
      constructor
      · rintro (h | h)
        · exact .inr (by rw [← h, partner_partner])
        · exact .inl (by rw [← partner_partner q, h, partner_partner])
      · rintro (h | h)
        · exact .inr (by rw [h])
        · exact .inl (by rw [h, partner_partner])
    rw [ImbalanceLegal, hwheel, hwheel]
    by_cases hq : q = r ∨ q = partner r
    · rw [if_pos hq, if_pos (hmem.2 hq)]
      simp
    · rw [if_neg hq, if_neg (mt hmem.1 hq)]
      exact hi q
  · rw [hwheel]
    split
    · next hq =>
      cases on
      · show dropCond (s.wheel q).active .imbalance = 0
        rw [ha, dropCond_zero]
      · obtain ⟨hr, hp⟩ := hon rfl
        rcases hq with rfl | rfl
        · exact absurd hv hr
        · exact absurd hv hp
    · exact ha

end Sys2Proof.Machine
end

section
/-! Re-evaluation (R99, R100): what each row of a scope is left with, and the rows out of scope as they were. -/

namespace Sys2Proof.Machine

set_option Elab.async false

/-! ### Counters -/

theorem code_injective : Function.Injective Condition.code := by
  intro c d h
  revert h
  cases c <;> cases d <;> decide

theorem setCounter_counter (r : Row) (c d : Condition) (n : Nat) (s : State) :
    ((setCounter r c n s).wheel r).counters[d.code] = if d = c then n else (s.wheel r).counters[d.code] := by
  rw [setCounter_wheel, if_pos rfl]
  by_cases h : d = c
  · subst h
    simp
  · have hne : c.code.val ≠ d.code.val := fun hcode => h (code_injective (Fin.ext hcode)).symm
    simp [h, Vector.getElem_set_ne _ _ hne]

theorem clearCounters (r : Row) (conditions : List Condition) (s : State) :
    Judging (· = r) s (conditions.foldl (fun s c => setCounter r c 0 s) s)
      ∧ (∀ q, ((conditions.foldl (fun s c => setCounter r c 0 s) s).wheel q).active = (s.wheel q).active)
      ∧ ∀ d : Condition, ((conditions.foldl (fun s c => setCounter r c 0 s) s).wheel r).counters[d.code] =
          if d ∈ conditions then 0 else (s.wheel r).counters[d.code] := by
  induction conditions generalizing s with
  | nil => exact ⟨.refl s, fun _ => rfl, fun _ => rfl⟩
  | cons c conditions ih =>
    obtain ⟨hj, hactive, hcounter⟩ := ih (setCounter r c 0 s)
    refine ⟨(setCounter_judging r c 0 s).trans hj, fun q => (hactive q).trans ?_, fun d => (hcounter d).trans ?_⟩
    · rw [setCounter_wheel]
      split
      · next h => rw [h]
      · rfl
    · rw [setCounter_counter]
      by_cases hd : d = c <;> simp [hd]

/-! ### One condition re-evaluated -/

theorem reevaluateOne_judging {r : Row} {c : Condition} {s : State} (hc : c ≠ .imbalance) (hv : (s.wheel r).status ≠ .vacant) :
    Judging (· = r) s (reevaluateOne r c s) := by
  unfold reevaluateOne
  refine .ite (fun _ => clearIfActive_judging (by decide) s) fun _ => .ite (fun _ => .refl s) fun _ => ?_
  dsimp only
  rw [if_neg hc]
  exact .ite (fun _ => .ite (fun _ => setCondition_judging hc nofun) fun _ => .refl s) fun _ =>
    .ite (fun _ => setCondition_judging hc fun _ => hv) fun _ => .refl s

theorem judged_imbalance_live {s : State} {r : Row} (h : judged s r .imbalance = true) :
    (s.wheel r).status = .live ∧ (s.wheel (partner r)).status = .live := by
  simp only [judged, Bool.and_eq_true, decide_eq_true_eq] at h
  obtain ⟨⟨⟨-, hr⟩, hp⟩, -⟩ := h
  exact ⟨hr, hp⟩

/-- IMBALANCE is left alone, or left by a pair that is LIVE whole. -/
theorem reevaluateOne_imbalance (r : Row) (s : State) :
    Judging (fun q => q = r ∨ (q = partner r ∧ (s.wheel q).status = .live)) s (reevaluateOne r .imbalance s) := by
  unfold reevaluateOne
  rw [if_neg fun h => absurd h.1 (by decide)]
  by_cases hj : judged s r .imbalance = true
  · rw [if_neg (by simp [hj])]
    dsimp only
    rw [if_pos rfl]
    refine .ite (fun _ => (setImbalance_judging (on := false) nofun).mono fun q hq => hq.imp_right fun hp => ⟨hp, ?_⟩) fun _ => .refl s
    rw [hp]
    exact (judged_imbalance_live hj).2
  · rw [if_pos (by simp [hj])]
    exact .refl s

theorem setCondition_hasCond_other {c d : Condition} (h : d ≠ c) (r q : Row) (on : Bool) (s : State) :
    hasCond ((setCondition r c on s).wheel q).active d = hasCond (s.wheel q).active d := by
  rw [setCondition_wheel]
  split
  · next hq => simp [hq, h]
  · rfl

theorem clearIfActive_hasCond_other {c d : Condition} (h : d ≠ c) (r q : Row) (s : State) :
    hasCond ((clearIfActive r c s).wheel q).active d = hasCond (s.wheel q).active d := by
  unfold clearIfActive
  split
  · exact setCondition_hasCond_other h r q false s
  · rfl

theorem setImbalance_hasCond_other {d : Condition} (h : d ≠ .imbalance) (r q : Row) (on : Bool) (s : State) :
    hasCond ((setImbalance r on s).wheel q).active d = hasCond (s.wheel q).active d :=
  (setCondition_hasCond_other h _ q on _).trans (setCondition_hasCond_other h _ q on s)

theorem reevaluateOne_hasCond_other {c d : Condition} (h : d ≠ c) (r q : Row) (s : State) :
    hasCond ((reevaluateOne r c s).wheel q).active d = hasCond (s.wheel q).active d := by
  unfold reevaluateOne
  dsimp only
  split
  · next hleak => exact clearIfActive_hasCond_other (hleak.1 ▸ h) r q s
  · split
    · rfl
    · split
      · next hc =>
        split
        · exact setImbalance_hasCond_other (hc ▸ h) r q false s
        · rfl
      · split
        · split
          · exact setCondition_hasCond_other h r q false s
          · rfl
        · split
          · exact setCondition_hasCond_other h r q true s
          · rfl

/-- LOW_CRIT judged at once: entered below the limit, left at the limit plus the hysteresis, held between (R92, R100). -/
abbrev critAfter (p : PressureLimits) (hyst : Nat) (w : WheelRecord) : Bool :=
  decide (w.pc < lowCritLimit p) || (hasCond w.active .lowCrit && decide (w.pc < lowCritLimit p + hyst))

theorem reevaluateOne_lowCrit {r : Row} {s : State} (h : holdsValues (s.wheel r) = true) :
    hasCond ((reevaluateOne r .lowCrit s).wheel r).active .lowCrit = critAfter (limitsOf s r) (groupOf s r).temp.hyst (s.wheel r) := by
  have hj : judged s r .lowCrit = true := h
  unfold reevaluateOne
  rw [if_neg fun h => absurd h.1 (by decide), if_neg (by simp [hj])]
  dsimp only
  rw [if_neg (by decide)]
  simp only [verdict, critAfter, decide_eq_true_eq, true_or, true_and]
  by_cases hactive : hasCond (s.wheel r).active .lowCrit = true
  · rw [if_pos hactive, hactive]
    by_cases hclears : lowCritLimit (limitsOf s r) + (groupOf s r).temp.hyst ≤ (s.wheel r).pc
    · rw [if_pos hclears, setCondition_wheel, if_pos rfl]
      simp [Nat.not_lt.2 hclears, Nat.not_lt.2 (Nat.le_of_add_right_le hclears)]
    · rw [if_neg hclears, hactive]
      simp [Nat.not_le.1 hclears]
  · rw [if_neg hactive]
    by_cases henters : (s.wheel r).pc < lowCritLimit (limitsOf s r)
    · rw [if_pos henters, setCondition_wheel, if_pos rfl]
      simp [henters]
    · rw [if_neg henters]
      simp [hactive, henters]

/-! ### The rows of a scope -/

theorem limitsOf_congr {c : List Field} {s t : State} (h : Frame c s t) (r : Row) (k₁ : Field.tables ∉ c := by decide)
    (k₂ : Field.trailer ∉ c := by decide) (k₃ : Field.vdm ∉ c := by decide) :
    limitsOf t r = limitsOf s r ∧ groupOf t r = groupOf s r := ⟨h.limitsOf k₁ k₂ k₃ r, h.groupOf k₁ k₂ r⟩

/-- The conditions of a wheel of its own. -/
theorem reevaluateWheel_judging {r : Row} {s : State} (hv : (s.wheel r).status ≠ .vacant) : Judging (· = r) s (reevaluateWheel r s) := by
  refine .foldl fun c hc t ht => reevaluateOne_judging ?_ ?_
  · rintro rfl
    exact absurd hc (by decide)
  · rw [(ht.rejudged r).status]
    exact hv

theorem reevaluateWheel_eq (r : Row) (s : State) : reevaluateWheel r s =
    [.highWarn, .tempWarn, .tempCrit, .leak].foldl (fun s c => reevaluateOne r c s)
      (reevaluateOne r .lowCrit (reevaluateOne r .lowWarn s)) := by
  simp only [reevaluateWheel, wheelLimitConditions, List.foldl_cons]

/-- The other conditions leave LOW_CRIT. -/
theorem reevaluateOthers_lowCrit {l : List Condition} (hl : .lowCrit ∉ l) (r : Row) (s : State) :
    hasCond ((l.foldl (fun s c => reevaluateOne r c s) s).wheel r).active .lowCrit = hasCond (s.wheel r).active .lowCrit := by
  induction l generalizing s with
  | nil => rfl
  | cons c l ih =>
    obtain ⟨hc, hrest⟩ := not_or.1 (mt List.mem_cons.2 hl)
    rw [List.foldl_cons, ih hrest, reevaluateOne_hasCond_other hc]

theorem critAfter_congr {p : PressureLimits} {hyst : Nat} {w v : WheelRecord} (hpc : v.pc = w.pc)
    (hcrit : hasCond v.active .lowCrit = hasCond w.active .lowCrit) : critAfter p hyst v = critAfter p hyst w := by
  rw [critAfter, critAfter, hpc, hcrit]

theorem holdsValues_congr {w v : WheelRecord} (h : Rejudged w v) : holdsValues v = holdsValues w := by
  rw [holdsValues, holdsValues, h.pc, h.pg]

theorem reevaluateWheel_lowCrit {r : Row} {s : State} (hv : (s.wheel r).status ≠ .vacant) (h : holdsValues (s.wheel r) = true) :
    hasCond ((reevaluateWheel r s).wheel r).active .lowCrit = critAfter (limitsOf s r) (groupOf s r).temp.hyst (s.wheel r) := by
  rw [reevaluateWheel_eq, reevaluateOthers_lowCrit (by decide)]
  have hwarned : Judging (· = r) s (reevaluateOne r .lowWarn s) := reevaluateOne_judging (by decide) hv
  have hkept := reevaluateOne_hasCond_other (show Condition.lowCrit ≠ .lowWarn by decide) r r s
  generalize reevaluateOne r .lowWarn s = warned at hwarned hkept
  have hrejudged := hwarned.rejudged r
  obtain ⟨hlimits, hgroup⟩ := limitsOf_congr hwarned.frame r
  rw [reevaluateOne_lowCrit (by rw [holdsValues_congr hrejudged]; exact h), hlimits, hgroup]
  exact critAfter_congr hrejudged.pc hkept

theorem forRows_cons (f : Row → State → State) (r : Row) (rows : List Row) (s : State) :
    forRows f (r :: rows) s = forRows f rows (f r s) := rfl

/-- What the first phases of a re-evaluation leave of each row of `rows`. -/
theorem reevaluateWheels {rows : List Row} {s : State} (hv : ∀ r ∈ rows, (s.wheel r).status ≠ .vacant) (hnodup : rows.Nodup) :
    Judging (· ∈ rows) s (forRows reevaluateWheel rows s)
      ∧ ∀ r ∈ rows, holdsValues (s.wheel r) = true →
        hasCond ((forRows reevaluateWheel rows s).wheel r).active .lowCrit
          = critAfter (limitsOf s r) (groupOf s r).temp.hyst (s.wheel r) := by
  induction rows generalizing s with
  | nil => exact ⟨.refl s, fun r hr => absurd hr List.not_mem_nil⟩
  | cons r rows ih =>
    obtain ⟨hr, hrest⟩ := List.nodup_cons.1 hnodup
    have hone := reevaluateWheel_judging (hv r List.mem_cons_self)
    obtain ⟨hj, hcrit⟩ := ih (s := reevaluateWheel r s) (fun q hq => by
      rw [(hone.rejudged q).status]
      exact hv q (List.mem_cons_of_mem _ hq)) hrest
    rw [forRows_cons]
    refine ⟨(hone.mono fun q hq => List.mem_cons.2 (.inl hq)).trans (hj.mono fun q hq => List.mem_cons_of_mem _ hq), fun q hq hholds => ?_⟩
    rcases List.mem_cons.1 hq with rfl | hq
    · rw [hj.outside q hr]
      exact reevaluateWheel_lowCrit (hv q List.mem_cons_self) hholds
    · have hsame : (reevaluateWheel r s).wheel q = s.wheel q := hone.outside q fun heq => hr (heq ▸ hq)
      obtain ⟨hlimits, hgroup⟩ := limitsOf_congr hone.frame q
      have hdone := hcrit q hq (by rw [hsame]; exact hholds)
      rwa [hlimits, hgroup, hsame] at hdone

/-- The shared condition of the pairs of `rows`, which LIVE rows alone leave. -/
theorem reevaluatePairs {rows : List Row} {s : State} (hclosed : ∀ r ∈ rows, (s.wheel (partner r)).status = .live → partner r ∈ rows) :
    Judging (· ∈ rows) s (forRows (fun r => reevaluateOne r .imbalance) rows s)
      ∧ ∀ q, hasCond ((forRows (fun r => reevaluateOne r .imbalance) rows s).wheel q).active .lowCrit
          = hasCond (s.wheel q).active .lowCrit := by
  refine ⟨.forRows fun r hr t ht => ?_, fun q => ?_⟩
  · refine (reevaluateOne_imbalance r t).mono fun q hq => ?_
    rcases hq with hq | ⟨hq, hlive⟩
    · rw [hq]
      exact hr
    · rw [hq, (ht.rejudged _).status] at hlive
      rw [hq]
      exact hclosed r hr hlive
  · clear hclosed
    induction rows generalizing s with
    | nil => rfl
    | cons r rows ih => rw [forRows_cons, ih, reevaluateOne_hasCond_other (by decide)]

end Sys2Proof.Machine
end

section
/-! Re-evaluation whole (R99, R100, R103): counters cleared, and each row of the scope announced once. -/

namespace Sys2Proof.Machine

set_option Elab.async false

theorem clearLimitCountersRows {rows : List Row} (s : State) (hnodup : rows.Nodup) :
    Judging (· ∈ rows) s (forRows clearLimitCounters rows s)
      ∧ (∀ q, ((forRows clearLimitCounters rows s).wheel q).active = (s.wheel q).active)
      ∧ ∀ r ∈ rows, ∀ c ∈ limitConditions, ((forRows clearLimitCounters rows s).wheel r).counters[c.code] = 0 := by
  induction rows generalizing s with
  | nil => exact ⟨.refl s, fun _ => rfl, fun r hr => absurd hr List.not_mem_nil⟩
  | cons r rows ih =>
    obtain ⟨hr, hrest⟩ := List.nodup_cons.1 hnodup
    have hone : Judging (· = r) s (clearLimitCounters r s)
        ∧ (∀ q, ((clearLimitCounters r s).wheel q).active = (s.wheel q).active)
        ∧ ∀ d : Condition, ((clearLimitCounters r s).wheel r).counters[d.code] =
            if d ∈ limitConditions then 0 else (s.wheel r).counters[d.code] := clearCounters r limitConditions s
    obtain ⟨hfirst, hkept, hcleared⟩ := hone
    obtain ⟨hj, hactive, hcounter⟩ := ih (clearLimitCounters r s) hrest
    rw [forRows_cons]
    refine ⟨(hfirst.mono fun q hq => List.mem_cons.2 (.inl hq)).trans (hj.mono fun q hq => List.mem_cons_of_mem _ hq),
      fun q => (hactive q).trans (hkept q), fun q hq c hc => ?_⟩
    rcases List.mem_cons.1 hq with heq | hq
    · rw [heq, hj.outside r hr, hcleared, if_pos hc]
    · exact hcounter q hq c hc

/-! ### Announced once (R103, R104) -/

/-- A record that differs in what is announced of it alone. -/
abbrev Reannounced (w v : WheelRecord) : Prop := v = { w with announced := v.announced, repeatAt := v.repeatAt }

theorem Reannounced.reading {w v : WheelRecord} (h : Reannounced w v) : SameReading w v := by
  unfold SameReading
  rw [h]

theorem Reannounced.active {w v : WheelRecord} (h : Reannounced w v) : v.active = w.active := by rw [h]

theorem Reannounced.counters {w v : WheelRecord} (h : Reannounced w v) : v.counters = w.counters := by rw [h]

/-- The frames of the class that are of row `r`. -/
abbrev alertsOf (r : Row) (s : State) : List AlertFrame := s.link.alerts.filter fun f => decide (f.row = r)

theorem replaceOrJoin_filter_other {r q : Row} (h : q ≠ r) {x : AlertFrame} (hx : x.row = r) (l : List AlertFrame) :
    (replaceOrJoin (fun f => decide (f.row = r)) x l).filter (fun f => decide (f.row = q)) = l.filter fun f => decide (f.row = q) := by
  have hxq : x.row ≠ q := by
    rw [hx]
    exact h.symm
  induction l with
  | nil => simp [replaceOrJoin, hxq]
  | cons y l ih =>
    unfold replaceOrJoin
    split
    · next hy =>
      have hyq : y.row ≠ q := by
        rw [of_decide_eq_true hy]
        exact h.symm
      simp [hxq, hyq]
    · simp only [List.filter_cons, ih]

theorem announceAlert_alerts (r : Row) (s : State) : (announceAlert r s).link.alerts
    = replaceOrJoin (fun f => decide (f.row = r)) (alertOf r ((announceAlert r s).wheel r)) s.link.alerts := by
  have hlink : (announceAlert r s).link = (queueAlert r s).link := by
    unfold announceAlert
    dsimp only
    split
    · rfl
    · exact (putWheel_frame _ _ _).link
  obtain ⟨d, hd⟩ := announceAlert_wheel r s
  rw [hd, if_pos rfl, hlink]
  rfl

/-- The set of a row announced anew, with its frame where one is due. -/
theorem reannounce_alerts (r : Row) (s : State) :
    (reannounce r s).link.alerts =
      if ((reannounce r s).wheel r).announced ≠ (s.wheel r).announced
          ∧ alertDue s.osc.state (s.wheel r).announcedLevel ((reannounce r s).wheel r).announcedLevel = true then
        replaceOrJoin (fun f => decide (f.row = r)) (alertOf r ((reannounce r s).wheel r)) s.link.alerts
      else s.link.alerts := by
  rw [WheelRecord.announcedLevel, WheelRecord.announcedLevel, reannounce_announced]
  by_cases hsame : announcedOf s.tables.announce (s.wheel r).active = (s.wheel r).announced
  · have hgo : reannounce r s = s := if_pos hsame
    rw [if_neg fun h => h.1 hsame, hgo]
  · let put := putWheel r { s.wheel r with
      announced := announcedOf s.tables.announce (s.wheel r).active
      repeatAt := if (highest (announcedOf s.tables.announce (s.wheel r).active)).repeats then (s.wheel r).repeatAt else none } s
    have hlink : put.link = s.link := (putWheel_frame _ _ _).link
    have hgo : reannounce r s = if alertDue s.osc.state (highest (s.wheel r).announced)
        (highest (announcedOf s.tables.announce (s.wheel r).active)) = true then announceAlert r put else put := if_neg hsame
    by_cases hdue : alertDue s.osc.state (highest (s.wheel r).announced) (highest (announcedOf s.tables.announce (s.wheel r).active)) = true
    · rw [if_pos hdue] at hgo
      rw [if_pos ⟨hsame, hdue⟩, hgo, announceAlert_alerts, hlink]
    · rw [if_neg hdue] at hgo
      rw [if_neg fun h => hdue h.2, hgo, hlink]

theorem reannounce_reannounced (r q : Row) (s : State) : Reannounced (s.wheel q) ((reannounce r s).wheel q) := by
  obtain ⟨d, hd⟩ := reannounce_wheel r s
  rw [hd]
  split
  · next h => rw [h]
  · rfl

theorem reannounce_alertsOf_other {r q : Row} (h : q ≠ r) (s : State) : alertsOf q (reannounce r s) = alertsOf q s := by
  rw [alertsOf, reannounce_alerts]
  split
  · exact replaceOrJoin_filter_other h rfl _
  · rfl

/-- Rows announced, each once. -/
structure RowsAnnounced (rows : List Row) (s u : State) : Prop where
  reannounced : ∀ q, Reannounced (s.wheel q) (u.wheel q)
  outside : ∀ q, q ∉ rows → u.wheel q = s.wheel q ∧ alertsOf q u = alertsOf q s
  announced : ∀ r ∈ rows, AnnouncedOnce s u r
  frame : Frame wheelFields s u
  osc : u.osc = s.osc

theorem announcedOnce_reannounce (r : Row) (s : State) : AnnouncedOnce s (reannounce r s) r := by
  have htables := (reannounce_frame r s).tables
  refine ⟨?_, ?_⟩
  · rw [AnnouncedLegal, reannounce_announced, reannounce_active, htables]
  · split
    · next h =>
      rw [reannounce_alerts, if_pos h]
      exact ⟨mem_replaceOrJoin_self _ _ _, fun f hf _ => mem_of_mem_replaceOrJoin hf⟩
    · next h => rw [reannounce_alerts, if_neg h]

/-- What is announced of a row depends on its record and its frames alone. -/
theorem announcedOnce_congr {s t u v : State} {r : Row} (hosc : t.osc.state = s.osc.state) (hann : (t.wheel r).announced = (s.wheel r).announced)
    (halerts : alertsOf r t = alertsOf r s) (hwheel : v.wheel r = u.wheel r) (htables : v.tables = u.tables)
    (hlater : alertsOf r v = alertsOf r u) (h : AnnouncedOnce t u r) : AnnouncedOnce s v r := by
  obtain ⟨hlegal, hframes⟩ := h
  have hmem : ∀ {x y : State}, alertsOf r y = alertsOf r x → ∀ f : AlertFrame, f.row = r → (f ∈ y.link.alerts ↔ f ∈ x.link.alerts) := by
    intro x y hxy f hf
    have hin : ∀ z : State, f ∈ alertsOf r z ↔ f ∈ z.link.alerts := fun z => by
      rw [List.mem_filter]
      exact and_iff_left (decide_eq_true hf)
    rw [← hin, hxy, hin]
  refine ⟨?_, ?_⟩
  · rw [AnnouncedLegal, hwheel, htables]
    exact hlegal
  · rw [hwheel]
    have hlevel : (t.wheel r).announcedLevel = (s.wheel r).announcedLevel := by
      rw [WheelRecord.announcedLevel, WheelRecord.announcedLevel, hann]
    rw [hosc, hlevel, hann] at hframes
    split
    · next hdue =>
      rw [if_pos hdue] at hframes
      obtain ⟨hself, hothers⟩ := hframes
      exact ⟨(hmem hlater _ rfl).2 hself, fun f hf hrow =>
        (hothers f ((hmem hlater f hrow).1 hf) hrow).imp_right (hmem halerts f hrow).1⟩
    · next hdue =>
      rw [if_neg hdue] at hframes
      exact (hlater.trans hframes).trans halerts

theorem reannounceRows_announced (rows : List Row) (s : State) (hnodup : rows.Nodup) : RowsAnnounced rows s (forRows reannounce rows s) := by
  induction rows generalizing s with
  | nil => exact ⟨fun _ => rfl, fun _ _ => ⟨rfl, rfl⟩, fun r hr => absurd hr List.not_mem_nil, .refl _ s, rfl⟩
  | cons r rows ih =>
    obtain ⟨hr, hrest⟩ := List.nodup_cons.1 hnodup
    obtain ⟨hre, hout, hann, hframe, hosc⟩ := ih (reannounce r s) hrest
    rw [forRows_cons]
    have hfirst := reannounce_frame r s
    have hstate : (reannounce r s).osc = s.osc := reannounce_osc r s
    refine ⟨fun q => ?_, fun q hq => ?_, fun q hq => ?_, (hfirst.mono (by decide)).trans hframe, hosc.trans hstate⟩
    · have hone := reannounce_reannounced r q s
      have hlater := hre q
      unfold Reannounced at hone hlater ⊢
      rw [hlater, hone]
    · obtain ⟨hne, hq⟩ := not_or.1 (mt List.mem_cons.2 hq)
      exact ⟨(hout q hq).1.trans (reannounce_other hne s), (hout q hq).2.trans (reannounce_alertsOf_other hne s)⟩
    · rcases List.mem_cons.1 hq with heq | hq
      · subst heq
        exact announcedOnce_congr rfl rfl rfl (hout q hr).1 hframe.tables (hout q hr).2 (announcedOnce_reannounce q s)
      · have hne : q ≠ r := fun heq => hr (heq ▸ hq)
        exact announcedOnce_congr (by rw [hstate]) (by rw [reannounce_other hne]) (reannounce_alertsOf_other hne s) rfl rfl rfl (hann q hq)

/-- Judged, then announced: what the two phases leave together. -/
structure JudgedOnce (rows : List Row) (s u : State) : Prop where
  reading : ∀ q, SameReading (s.wheel q) (u.wheel q)
  outside : ∀ q, q ∉ rows → u.wheel q = s.wheel q
  announced : ∀ r ∈ rows, AnnouncedOnce s u r
  imbalance : (∀ q, ImbalanceLegal s q) → ∀ q, ImbalanceLegal u q
  vacant : ∀ q, (s.wheel q).status = .vacant → (s.wheel q).active = 0 → (u.wheel q).active = 0
  frame : Frame wheelFields s u
  osc_state : u.osc.state = s.osc.state

theorem Judging.announced {rows : List Row} {s t u : State} (h : Judging (· ∈ rows) s t) (k : RowsAnnounced rows t u) : JudgedOnce rows s u := by
  have hactive : ∀ q, (u.wheel q).active = (t.wheel q).active := fun q => (k.reannounced q).active
  have halerts : ∀ q, alertsOf q t = alertsOf q s := fun q => by rw [alertsOf, alertsOf, h.frame.link]
  refine ⟨fun q => (h.rejudged q).reading.trans (k.reannounced q).reading, fun q hq => (k.outside q hq).1.trans (h.outside q hq),
    fun r hr => announcedOnce_congr h.osc_state (h.rejudged r).announced (halerts r) rfl rfl rfl (k.announced r hr), fun hi q => ?_,
    fun q hv ha => (hactive q).trans (h.vacant q hv ha), (h.frame.mono (by decide)).trans k.frame, by rw [k.osc, h.osc_state]⟩
  rw [ImbalanceLegal, hactive, hactive]
  exact h.imbalance hi q

/-- What a re-evaluation of `rows` leaves. -/
structure RowsReevaluated (rows : List Row) (s u : State) : Prop extends JudgedOnce (rows.filter (reevaluated s)) s u where
  lowCrit : ∀ r ∈ rows, reevaluated s r = true → holdsValues (s.wheel r) = true →
    hasCond (u.wheel r).active .lowCrit = critAfter (limitsOf s r) (groupOf s r).temp.hyst (s.wheel r)
  counters : ∀ r ∈ rows, reevaluated s r = true → ∀ c ∈ limitConditions, (u.wheel r).counters[c.code] = 0

theorem reevaluated_iff (s : State) (r : Row) : reevaluated s r = true ↔
    ((s.wheel r).status = .live ∨ (s.wheel r).status = .stale) ∧ (s.osc.state = .active ∨ s.osc.state = .parkWatch) := by
  simp [reevaluated]

theorem reevaluate_eq (rows : List Row) (s : State) : reevaluate rows s =
    forRows reannounce (rows.filter (reevaluated s)) (forRows clearLimitCounters (rows.filter (reevaluated s))
      (forRows (fun r => reevaluateOne r .imbalance) (rows.filter (reevaluated s))
        (forRows reevaluateWheel (rows.filter (reevaluated s)) s))) := rfl

theorem reevaluate_reevaluated {rows : List Row} (s : State) (hnodup : rows.Nodup) (hclosed : ∀ r ∈ rows, partner r ∈ rows) :
    RowsReevaluated rows s (reevaluate rows s) := by
  rw [reevaluate_eq]
  have hmem : ∀ r, r ∈ rows.filter (reevaluated s) ↔ r ∈ rows ∧ reevaluated s r = true := fun r => List.mem_filter
  have hlive : ∀ r ∈ rows.filter (reevaluated s), (s.wheel r).status ≠ .vacant := fun r hr => by
    rcases ((reevaluated_iff s r).1 ((hmem r).1 hr).2).1 with h | h <;> rw [h] <;> decide
  have hpartner : ∀ r ∈ rows.filter (reevaluated s), (s.wheel (partner r)).status = .live → partner r ∈ rows.filter (reevaluated s) :=
    fun r hr hl => (hmem _).2 ⟨hclosed r ((hmem r).1 hr).1,
      (reevaluated_iff s _).2 ⟨.inl hl, ((reevaluated_iff s r).1 ((hmem r).1 hr).2).2⟩⟩
  have hlistNodup := hnodup.filter (reevaluated s)
  obtain ⟨hwheels, hcrit⟩ := reevaluateWheels hlive hlistNodup
  generalize hlist : rows.filter (reevaluated s) = l at *
  generalize forRows reevaluateWheel l s = t₁ at *
  obtain ⟨hpairs, hkept⟩ := reevaluatePairs (s := t₁) (rows := l) fun r hr hl => hpartner r hr (by rwa [(hwheels.rejudged _).status] at hl)
  generalize forRows (fun r => reevaluateOne r .imbalance) l t₁ = t₂ at *
  obtain ⟨hcleared, hactive, hcounters⟩ := clearLimitCountersRows t₂ hlistNodup
  generalize forRows clearLimitCounters l t₂ = t₃ at *
  have hannounced := reannounceRows_announced l t₃ hlistNodup
  generalize forRows reannounce l t₃ = u at *
  refine ⟨hlist ▸ ((hwheels.trans hpairs).trans hcleared).announced hannounced, fun r hr hre hholds => ?_, fun r hr hre c hc => ?_⟩
  · rw [(hannounced.reannounced r).active, hactive, hkept]
    exact hcrit r ((hmem r).2 ⟨hr, hre⟩) hholds
  · rw [(hannounced.reannounced r).counters]
    exact hcounters r ((hmem r).2 ⟨hr, hre⟩) c hc

namespace RowsReevaluated

variable {rows : List Row} {s u : State} {r : Row}

theorem kept (h : RowsReevaluated rows s u) (hr : ¬ (r ∈ rows ∧ reevaluated s r = true)) : u.wheel r = s.wheel r :=
  h.outside r fun hmem => hr (List.mem_filter.1 hmem)

theorem announcedOnce (h : RowsReevaluated rows s u) (hr : r ∈ rows) (hre : reevaluated s r = true) : AnnouncedOnce s u r :=
  h.announced r (List.mem_filter.2 ⟨hr, hre⟩)

end RowsReevaluated

theorem unitRows_nodup (v : UnitName) : (unitRows v).Nodup := (List.nodup_finRange 32).filter _

theorem groupRows_nodup (s : State) (g : GroupNo) : (groupRows s g).Nodup := (List.nodup_finRange 32).filter _

theorem mem_unitRows {v : UnitName} {r : Row} : r ∈ unitRows v ↔ unitOfRow r = v := by simp [unitRows, mem_allRows]

theorem mem_groupRows {s : State} {g : GroupNo} {r : Row} : r ∈ groupRows s g ↔ (axleOf s (rowAxle r)).group = g := by
  simp [groupRows, mem_allRows]

theorem partner_unit (r : Row) : unitOfRow (partner r) = unitOfRow r := by revert r; decide

end Sys2Proof.Machine
end

section
/-! A load that settles (R140), the limits and the announcement settings (R88, R102): the settlements of O30 and O44. -/

namespace Sys2Proof.Machine

set_option Elab.async false

/-! ### A load applied -/

theorem settleExpiry_of_due {v : UnitName} {s : State} {load : LoadState} {d : Millis} (h : (unitLoad s v).settle = some (load, d))
    (hd : d ≤ s.now) : settleExpiry v s = applyLoad v load s := by
  simp only [settleExpiry, h]
  exact if_pos hd

/-- The part with a load applied, before its wheels are judged anew. -/
abbrev loadApplied (v : UnitName) (load : LoadState) (s : State) : State :=
  putUnit v { unitLoad s v with applied := load, settle := none } s

theorem applyLoad_of_same {v : UnitName} {load : LoadState} {s : State} (h : (unitLoad s v).applied = load) :
    applyLoad v load s = loadApplied v load s := if_pos h

theorem applyLoad_of_change {v : UnitName} {load : LoadState} {s : State} (h : (unitLoad s v).applied ≠ load) :
    applyLoad v load s = reevaluate (unitRows v) (loadApplied v load s) := if_neg h

theorem reevaluated_congr {s t : State} (hw : t.wheels = s.wheels) (hosc : t.osc = s.osc) (r : Row) : reevaluated t r = reevaluated s r := by
  unfold reevaluated State.wheel
  rw [hw, hosc]

theorem reevaluate_unit (v : UnitName) (s : State) : RowsReevaluated (unitRows v) s (reevaluate (unitRows v) s) :=
  reevaluate_reevaluated s (unitRows_nodup v) fun r hr => mem_unitRows.2 ((partner_unit r).trans (mem_unitRows.1 hr))

/-- Settles O30: out of scope nothing moves, in scope LOW_CRIT is judged and the row announced once. -/
theorem settledLoadIsAppliedAndReevaluated : Obligations.SettledLoadIsAppliedAndReevaluated := by
  intro s v load d hrun hsettle hd
  have hexec : exec (.settleExpiry v) s = .next (settleExpiry v s) := whileRunning_running hrun _
  rw [hexec, settleExpiry_of_due hsettle hd]
  let c := loadApplied v load s
  have hput : Frame [.vdm] s c := putUnit_frame v _ s
  have hloads : ∀ w, unitLoad c w = if w = v then { unitLoad s v with applied := load, settle := none } else unitLoad s w := fun w =>
    unitLoad_putUnit v w _ s
  by_cases hsame : (unitLoad s v).applied = load
  · rw [applyLoad_of_same hsame]
    refine ⟨c, rfl, (hloads v).trans (if_pos rfl), fun w hw => (hloads w).trans (if_neg hw), fun r _ => hput.wheel r, fun _ => hput.wheels,
      fun r _ hne => absurd hsame.symm hne, fun r _ hne => absurd hsame.symm hne, hput.tables, hput.enc, hput.candidates, by rw [hput.osc]⟩
  · rw [applyLoad_of_change hsame]
    have hre : RowsReevaluated (unitRows v) c (reevaluate (unitRows v) c) := reevaluate_unit v c
    have hf := hre.frame
    have hloads' : ∀ w, unitLoad (reevaluate (unitRows v) c) w = unitLoad c w := fun w => unitLoad_congr hf.vdm w
    have hwheel := fun r => hput.wheel r
    refine ⟨reevaluate (unitRows v) c, rfl, ?_, fun w hw => ?_, fun r hr => ?_, fun h => absurd h.symm hsame,
      fun r hr _ hstatus hstate hpc hpg => ?_, fun r hr _ => ?_, hf.tables.trans hput.tables, hf.enc.trans hput.enc,
      hf.candidates.trans hput.candidates, by rw [hre.osc_state, hput.osc]⟩
    · rw [hloads', hloads, if_pos rfl]
    · rw [hloads', hloads, if_neg hw]
    · rw [hre.kept fun h => hr (mem_unitRows.1 h.1), hwheel]
    · have hholds : holdsValues (c.wheel r) = true := by
        rw [hwheel, holdsValues, decide_eq_true hpc, decide_eq_true hpg]
        rfl
      have hjudged : reevaluated c r = true := by
        rw [reevaluated_congr hput.wheels hput.osc]
        exact (reevaluated_iff s r).2 ⟨hstatus, hstate⟩
      have hlimits : limitsOf c r = (groupOf s r).limits load := by
        rw [limitsOf, hput.groupOf, hr, hloads, if_pos rfl]
      rw [hre.lowCrit r (mem_unitRows.2 hr) hjudged hholds, hlimits, hput.groupOf, hwheel]
    · rw [← reevaluated_congr hput.wheels hput.osc r]
      split
      · next hjudged =>
        refine announcedOnce_congr (by rw [hput.osc]) (by rw [hwheel]) ?_ rfl rfl rfl (hre.announcedOnce (mem_unitRows.2 hr) hjudged)
        rw [alertsOf, alertsOf, hput.link]
      · next hnot => rw [hre.kept fun h => hnot h.2, hwheel]

/-! ### The limits (R88 to R90) -/

theorem wheels_ext {s t : State} (h : ∀ r : Row, t.wheel r = s.wheel r) : t.wheels = s.wheels :=
  Vector.ext fun i hi => h ⟨i, hi⟩

/-- LOW_CRIT judged anew on a row, by the limits now in force. -/
abbrev JudgedAnew (b u : State) (r : Row) : Prop :=
  (b.wheel r).status = .live ∨ (b.wheel r).status = .stale → b.osc.state = .active ∨ b.osc.state = .parkWatch →
    (b.wheel r).pc ≤ 4000 → (b.wheel r).pg ≤ 4000 →
    hasCond (u.wheel r).active .lowCrit = critAfter (limitsOf u r) (groupOf u r).temp.hyst (b.wheel r)

/-- What new limits leave, with the wheels of `rows` judged anew. -/
structure LimitsWritten (rows : List Row) (new : Tables) (b u : State) : Prop where
  tables : u.tables = new
  store : u.store = { b.store with dirty := true }
  outside : ∀ r, r ∉ rows → u.wheel r = b.wheel r
  judged : ∀ r ∈ rows, JudgedAnew b u r ∧ (u.wheel r).pc = (b.wheel r).pc
  offline : b.osc.state = .offline → u.wheels = b.wheels
  same : u.candidates = b.candidates ∧ u.osc.state = b.osc.state ∧ u.vdm = b.vdm ∧ u.enc = b.enc

theorem reevaluate_limitsWritten {rows : List Row} (new : Tables) (b : State) (hnodup : rows.Nodup)
    (hclosed : ∀ r ∈ rows, partner r ∈ rows) : LimitsWritten rows new b (reevaluate rows (writeTables new b)) := by
  have hwritten := writeTables_frame new b
  have htables : (writeTables new b).tables = new := rfl
  have hstore : (writeTables new b).store = { b.store with dirty := true } := rfl
  have hre := reevaluate_reevaluated (writeTables new b) hnodup hclosed
  generalize writeTables new b = c at *
  generalize reevaluate rows c = u at *
  have hf := hre.frame
  have hwheel := fun r => hwritten.wheel r
  have hsame := fun r => reevaluated_congr hwritten.wheels hwritten.osc r
  refine ⟨hf.tables.trans htables, hf.store.trans hstore, fun r hr => ?_, fun r hr => ⟨fun hstatus hstate hpc hpg => ?_, ?_⟩,
    fun hoff => wheels_ext fun r => ?_, hf.candidates.trans hwritten.candidates, by rw [hre.osc_state, hwritten.osc],
    hf.vdm.trans hwritten.vdm, hf.enc.trans hwritten.enc⟩
  · rw [hre.kept fun h => hr h.1, hwheel]
  · have hholds : holdsValues (c.wheel r) = true := by
      rw [hwheel, holdsValues, decide_eq_true hpc, decide_eq_true hpg]
      rfl
    have hjudged : reevaluated c r = true := by
      rw [hsame]
      exact (reevaluated_iff b r).2 ⟨hstatus, hstate⟩
    rw [hre.lowCrit r hr hjudged hholds, hf.limitsOf, hf.groupOf, hwheel]
  · rw [(hre.reading r).pc, hwheel]
  · rw [hre.kept, hwheel]
    rintro ⟨-, hjudged⟩
    rw [hsame, reevaluated_iff, hoff] at hjudged
    exact absurd hjudged.2 (by decide)

theorem partner_group {s : State} {g : GroupNo} (r : Row) (hr : r ∈ groupRows s g) : partner r ∈ groupRows s g := by
  rw [mem_groupRows, partner_axle]
  exact mem_groupRows.1 hr

theorem natAt_div {data : List Byte} {g n m : Nat} (h : natAt data 2 = m * g + n) (hn : n < m) :
    natAt data 2 / m = g ∧ natAt data 2 % m = n := by
  rw [h]
  exact ⟨by rw [Nat.mul_add_div (by omega), Nat.div_eq_of_lt hn, Nat.add_zero], by rw [Nat.mul_add_mod, Nat.mod_eq_of_lt hn]⟩

theorem setLimitsP_of_bad {data : List Byte} {s : State} (h : 127 < natAt data 2 ∨ 1 < natAt data 2 % 16) :
    setLimitsP data s = refuse .badValue s := by
  unfold setLimitsP
  dsimp only
  split
  · rfl
  · next load hload =>
    rcases h with h | h
    · rw [dif_neg (by omega)]
    · obtain ⟨n, hn⟩ := Nat.exists_eq_add_of_lt h
      rw [hn, show 1 + n + 1 = n + 2 by omega] at hload
      cases hload

theorem setLimitsP_of_item {data : List Byte} {s : State} {g : GroupNo} {load : LoadState} (h : natAt data 2 = 16 * g.val + load.code) :
    let asked : PressureLimits := { target := natAt2 data 3, lw := natAt data 5, lc := natAt data 6, hw := natAt data 7 }
    setLimitsP data s = answered (okOrClamped (decide (asked.legal ≠ asked))) []
      (if asked.legal = (s.tables.groups[g]).limits load then s
      else
        let t := writeTables (withGroup g ((s.tables.groups[g]).withLimits load asked.legal) s.tables) s
        reevaluate ((groupRows t g).filter fun r => decide ((unitLoad t (unitOfRow r)).applied = load)) t) := by
  have hcode : load.code < 16 := by cases load <;> decide
  obtain ⟨hdiv, hmod⟩ := natAt_div h hcode
  have hload : loadStateOf (natAt data 2 % 16) = some load := by
    rw [hmod]
    cases load <;> rfl
  have hlt : natAt data 2 / 16 < 8 := by
    rw [hdiv]
    exact g.isLt
  have hg : (⟨natAt data 2 / 16, hlt⟩ : GroupNo) = g := Fin.ext hdiv
  intro asked
  simp only [setLimitsP, hload, dif_pos hlt, hg]
  rfl

theorem okOrClamped_iff {adjusted : Bool} {p : Prop} [Decidable p] (h : adjusted = true ↔ p) :
    okOrClamped adjusted = if p then ResultCode.clamped else .ok := by
  by_cases hp : p
  · rw [if_pos hp, h.2 hp]
    rfl
  · have hfalse : adjusted = false := by
      rw [← Bool.not_eq_true]
      exact mt h.1 hp
    rw [if_neg hp, hfalse]
    rfl

/-- The limits of a request, brought into their ranges. -/
theorem setLimitsP_writes {b : State} {g : GroupNo} {load : LoadState} (p : PressureLimits) :
    let t := writeTables (withGroup g ((b.tables.groups[g]).withLimits load p) b.tables) b
    let rows := (groupRows t g).filter fun r => decide ((unitLoad t (unitOfRow r)).applied = load)
    LimitsWritten rows (withGroup g ((b.tables.groups[g]).withLimits load p) b.tables) b (reevaluate rows t)
      ∧ ∀ r, r ∈ rows ↔ (axleOf b (rowAxle r)).group = g ∧ (unitLoad b (unitOfRow r)).applied = load := by
  intro t rows
  have hmem : ∀ r, r ∈ rows ↔ (axleOf b (rowAxle r)).group = g ∧ (unitLoad b (unitOfRow r)).applied = load := fun r => by
    have haxle : axleOf t (rowAxle r) = axleOf b (rowAxle r) := rfl
    have hunit : unitLoad t (unitOfRow r) = unitLoad b (unitOfRow r) := rfl
    rw [List.mem_filter, mem_groupRows, decide_eq_true_eq, haxle, hunit]
  refine ⟨reevaluate_limitsWritten _ b ((groupRows_nodup t g).filter _) fun r hr => ?_, hmem⟩
  rw [hmem] at hr ⊢
  rwa [partner_axle, partner_unit]

/-! ### The temperatures (R89; code 255 by log entry 18) -/

/-- A temperature limit of a request, brought into its range. -/
theorem tempRequest_legal (data : List Byte) :
    (tempRequestAt data).legal =
      { tempWarn := min 204 (natAt data 3 - 50), tempCrit := max (min 204 (natAt data 3 - 50)) (min 204 (natAt data 4 - 50)), imbalance := natAt data 5
        leakWarn := natAt data 6, hyst := natAt data 2 % 32, tref := max (-20) (min 60 ((natAt data 7 : Int) - 50)) } := by
  simp only [TempRequest.legal, tempRequestAt, tempAt, clampInt, TempLimits.mk.injEq, and_true]
  constructor <;> omega

theorem tempRequest_adjusted (data : List Byte) : (tempRequestAt data).adjusted = true ↔
    (natAt data 3 < 50 ∨ natAt data 3 = 255 ∨ natAt data 4 < 50 ∨ natAt data 4 = 255
      ∨ natAt data 4 - 50 < min 204 (natAt data 3 - 50) ∨ natAt data 7 < 30 ∨ 110 < natAt data 7) := by
  have h3 := natAt_le (data := data) 3
  have h4 := natAt_le (data := data) 4
  rw [TempRequest.adjusted, Bool.or_eq_true, Bool.or_eq_true, decide_eq_true_eq, decide_eq_true_eq, decide_eq_true_eq, tempRequest_legal]
  simp only [tempRequestAt, tempAt]
  omega

theorem setLimitsT_of_group {data : List Byte} {s : State} {g : GroupNo} (h : natAt data 2 / 32 = g.val) :
    setLimitsT data s = answered (okOrClamped (tempRequestAt data).adjusted) []
      (if (tempRequestAt data).legal = (s.tables.groups[g]).temp then s
      else
        let t := writeTables (withGroup g { s.tables.groups[g] with temp := (tempRequestAt data).legal } s.tables) s
        reevaluate (groupRows t g) t) := by
  have hg : (Fin.ofNat 8 (natAt data 2 / 32) : GroupNo) = g := Fin.ext (by
    rw [h]
    exact Nat.mod_eq_of_lt g.isLt)
  simp only [setLimitsT, hg]

theorem setLimitsT_writes {b : State} {g : GroupNo} (x : TempLimits) :
    let t := writeTables (withGroup g { b.tables.groups[g] with temp := x } b.tables) b
    LimitsWritten (groupRows t g) (withGroup g { b.tables.groups[g] with temp := x } b.tables) b (reevaluate (groupRows t g) t)
      ∧ ∀ r, r ∈ groupRows t g ↔ (axleOf b (rowAxle r)).group = g := by
  intro t
  exact ⟨reevaluate_limitsWritten _ b (groupRows_nodup t g) partner_group, fun r => mem_groupRows⟩

/-! ### The announcement settings (R102) -/

theorem maskBits (i : Nat) (hi : i < 16) : (0xF800 : BitVec 16).getLsbD i = decide (11 ≤ i) := by
  revert hi
  revert i
  decide

theorem maskLegal_iff (n : Nat) (h : n < 65536) : maskLegal (BitVec.ofNat 16 n) = true ↔ n < 2048 := by
  have hbit : ∀ i, i < 16 → (BitVec.ofNat 16 n &&& 0xF800).getLsbD i = (n.testBit i && decide (11 ≤ i)) := fun i hi => by
    rw [BitVec.getLsbD_and, maskBits i hi, BitVec.getLsbD_ofNat, decide_eq_true hi, Bool.true_and]
  rw [maskLegal, decide_eq_true_eq]
  constructor
  · intro hzero
    refine Nat.lt_pow_two_of_testBit (n := 11) n fun i hi => ?_
    by_cases hlt : i < 16
    · have hat := hbit i hlt
      rw [hzero, decide_eq_true hi, Bool.and_true] at hat
      exact hat.symm.trans (by simp)
    · exact Nat.testBit_lt_two_pow (Nat.lt_of_lt_of_le h (Nat.pow_le_pow_right (n := 2) (by decide) (Nat.not_lt.1 hlt)))
  · intro hlt
    refine BitVec.eq_of_getLsbD_eq fun i hi => ?_
    rw [hbit i hi]
    by_cases hge : 11 ≤ i
    · rw [Nat.testBit_lt_two_pow (Nat.lt_of_lt_of_le hlt (Nat.pow_le_pow_right (n := 2) (by decide) hge))]
      simp
    · simp [hge]

theorem natAt2_lt (data : List Byte) (i : Nat) : natAt2 data i < 65536 := by
  have h₁ := natAt_le (data := data) i
  have h₂ := natAt_le (data := data) (i + 1)
  unfold natAt2
  omega

theorem announceMinOf_code {v : Severity} (h : v ≠ .none) : announceMinOf v.code = some v := by
  cases v
  case none => exact absurd rfl h
  all_goals rfl

theorem setAnnounce_of_bad {data : List Byte} {s : State} (h : natAt data 2 = 0 ∨ 3 < natAt data 2 ∨ 2048 ≤ natAt2 data 3) :
    setAnnounce data s = refuse .badValue s := by
  unfold setAnnounce
  dsimp only
  split
  · rfl
  · next minimum hmin =>
    rw [if_pos]
    rcases h with h | h | h
    · rw [h] at hmin
      cases hmin
    · obtain ⟨n, hn⟩ := Nat.exists_eq_add_of_lt h
      rw [hn, show 3 + n + 1 = n + 4 by omega] at hmin
      cases hmin
    · rw [Bool.not_eq_true', ← Bool.not_eq_true, maskLegal_iff _ (natAt2_lt data 3)]
      exact Nat.not_lt.2 h

theorem setAnnounce_of_item {data : List Byte} {s : State} {v : Severity} (hv : v ≠ .none) (h : natAt data 2 = v.code)
    (hmask : natAt2 data 3 < 2048) :
    let a : Announce := { minimum := v, exclude := BitVec.ofNat 16 (natAt2 data 3) }
    setAnnounce data s = answered .ok [] (if a = s.tables.announce then s
      else forRows reannounce allRows (writeTables { s.tables with announce := a } s)) := by
  intro a
  have hlegal : maskLegal (BitVec.ofNat 16 (natAt2 data 3)) = true := (maskLegal_iff _ (natAt2_lt data 3)).2 hmask
  simp only [setAnnounce, h, announceMinOf_code hv, hlegal, Bool.not_true, Bool.false_eq_true, if_false]
  rfl

theorem reannounceRows_evq (rows : List Row) (s : State) : (forRows reannounce rows s).evq = s.evq := by
  induction rows generalizing s with
  | nil => rfl
  | cons r rows ih => rw [forRows_cons, ih, (reannounce_frame r s).evq]

/-- What new announcement settings leave of each row. -/
structure SettingsAnnounced (a : Announce) (b u : State) : Prop where
  announced : ∀ r, (u.wheel r).announced = announcedOf a (b.wheel r).active
  reannounced : ∀ r, Reannounced (b.wheel r) (u.wheel r)
  alerts : b.osc.state = .active → ∀ r, (u.wheel r).announced ≠ (b.wheel r).announced → r ∈ u.link.alerts.map AlertFrame.row
  evq : u.evq = b.evq
  osc : u.osc = b.osc
  frame : Frame (.tables :: .store :: wheelFields) b u
  tables : u.tables = { b.tables with announce := a }
  store : u.store = { b.store with dirty := true }

theorem settingsAnnounced_of_written {a : Announce} {b c : State} (hwritten : Frame [.tables, .store] b c) (hevq : c.evq = b.evq)
    (htables : c.tables = { b.tables with announce := a }) (hstore : c.store = { b.store with dirty := true }) :
    SettingsAnnounced a b (forRows reannounce allRows c) := by
  have hann := reannounceRows_announced allRows c (List.nodup_finRange 32)
  have hquiet := reannounceRows_evq allRows c
  generalize forRows reannounce allRows c = u at *
  have hwheel := fun r => hwritten.wheel r
  refine ⟨fun r => ?_, fun r => hwheel r ▸ hann.reannounced r, fun hactive r hchanged => ?_, hquiet.trans hevq,
    hann.osc.trans hwritten.osc, (hwritten.mono (by decide)).trans (hann.frame.mono (by decide)), hann.frame.tables.trans htables,
    hann.frame.store.trans hstore⟩
  · have hlegal : AnnouncedLegal u r := (hann.announced r (mem_allRows r)).1
    rw [hlegal, hann.frame.tables, htables, (hann.reannounced r).active, hwheel]
  · have hframes := (hann.announced r (mem_allRows r)).2
    have hdue : ∀ x y, alertDue c.osc.state x y = true := fun x y => by
      rw [hwritten.osc, hactive]
      rfl
    rw [if_pos ⟨by rw [hwheel]; exact hchanged, hdue _ _⟩] at hframes
    exact List.mem_map.2 ⟨_, hframes.1, rfl⟩

/-! ### The requests -/

theorem pressureRequest_adjusted (target lw lc hw : Nat) :
    decide ((PressureLimits.mk target lw lc hw).legal ≠ PressureLimits.mk target lw lc hw) = true ↔ 4000 < target ∨ lc < lw := by
  have hlegal : (PressureLimits.mk target lw lc hw).legal = .mk (min 4000 target) lw (max lw lc) hw := rfl
  rw [decide_eq_true_eq, hlegal, Ne, PressureLimits.mk.injEq]
  simp only [min_eq_right_iff, max_eq_right_iff, true_and, and_true, not_and_or, not_le]

section
variable {s : State} {data : List Byte}

theorem exec_setLimitsP (hw : WaitingFor 0x20 s data) : exec .setLimitsP s = .next (deliver data (setLimitsP data (takeOff s))) :=
  serveRequest_waitingFor hw _

theorem exec_setLimitsT (hw : WaitingFor 0x21 s data) : exec .setLimitsT s = .next (deliver data (setLimitsT data (takeOff s))) :=
  serveRequest_waitingFor hw _

theorem exec_setAnnounce (hw : WaitingFor 0x23 s data) : exec .setAnnounce s = .next (deliver data (setAnnounce data (takeOff s))) :=
  serveRequest_waitingFor hw _

theorem setLimitsP_answer {g : GroupNo} {load : LoadState} (h : natAt data 2 = 16 * g.val + load.code) :
    let p : PressureLimits :=
      { target := min 4000 (natAt2 data 3), lw := natAt data 5, lc := max (natAt data 5) (natAt data 6), hw := natAt data 7 }
    let result := if 4000 < natAt2 data 3 ∨ natAt data 6 < natAt data 5 then ResultCode.clamped else .ok
    (p = (s.tables.groups[g]).limits load → setLimitsP data s = answered result [] s)
      ∧ (p ≠ (s.tables.groups[g]).limits load → ∃ rows u, setLimitsP data s = answered result [] u
        ∧ LimitsWritten rows (withGroup g ((s.tables.groups[g]).withLimits load p) s.tables) s u
        ∧ ∀ r, r ∈ rows ↔ (axleOf s (rowAxle r)).group = g ∧ (unitLoad s (unitOfRow r)).applied = load) := by
  have hresult := okOrClamped_iff (pressureRequest_adjusted (natAt2 data 3) (natAt data 5) (natAt data 6) (natAt data 7))
  intro p result
  have hlegal : (PressureLimits.mk (natAt2 data 3) (natAt data 5) (natAt data 6) (natAt data 7)).legal = p := rfl
  rw [setLimitsP_of_item h, hresult, hlegal]
  refine ⟨fun hsame => ?_, fun hne => ?_⟩
  · rw [if_pos hsame]
  · obtain ⟨hwritten, hmem⟩ := setLimitsP_writes (b := s) (g := g) (load := load) p
    exact ⟨_, _, by rw [if_neg hne], hwritten, hmem⟩

theorem setLimitsT_answer {g : GroupNo} (h : natAt data 2 / 32 = g.val) :
    let x := (tempRequestAt data).legal
    let result := okOrClamped (tempRequestAt data).adjusted
    (x = (s.tables.groups[g]).temp → setLimitsT data s = answered result [] s)
      ∧ (x ≠ (s.tables.groups[g]).temp → ∃ rows u, setLimitsT data s = answered result [] u
        ∧ LimitsWritten rows (withGroup g { s.tables.groups[g] with temp := x } s.tables) s u
        ∧ ∀ r, r ∈ rows ↔ (axleOf s (rowAxle r)).group = g) := by
  intro x result
  rw [setLimitsT_of_group h]
  refine ⟨fun hsame => ?_, fun hne => ?_⟩
  · rw [if_pos hsame]
  · obtain ⟨hwritten, hmem⟩ := setLimitsT_writes (b := s) (g := g) x
    exact ⟨_, _, by rw [if_neg hne], hwritten, hmem⟩

theorem setAnnounce_answer {v : Severity} (hv : v ≠ .none) (h : natAt data 2 = v.code) (hmask : natAt2 data 3 < 2048) :
    let a : Announce := { minimum := v, exclude := BitVec.ofNat 16 (natAt2 data 3) }
    (a = s.tables.announce → setAnnounce data s = answered .ok [] s)
      ∧ (a ≠ s.tables.announce → ∃ u, setAnnounce data s = answered .ok [] u ∧ SettingsAnnounced a s u) := by
  intro a
  rw [setAnnounce_of_item hv h hmask]
  refine ⟨fun hsame => ?_, fun hne => ?_⟩
  · rw [if_pos hsame]
  · exact ⟨forRows reannounce allRows (writeTables { s.tables with announce := a } s), by rw [if_neg hne],
      settingsAnnounced_of_written (writeTables_frame _ s) rfl rfl rfl⟩

end

/-- Settles O44. -/
theorem limitsAndAnnounceWrites : Obligations.LimitsAndAnnounceWrites := by
  intro s data b dirty judgedAnew
  refine ⟨fun hw => ⟨fun hbad => ?_, fun g load hitem => ?pressures⟩, fun hw g hg => ?temperatures,
    fun hw => ⟨fun hbad => ?_, fun v hv hcode hmask => ?announce⟩⟩
  · rw [exec_setLimitsP hw, setLimitsP_of_bad hbad]
    rfl
  case pressures =>
    intro p result old new
    rw [exec_setLimitsP hw]
    obtain ⟨hkept, hwrites⟩ := setLimitsP_answer (s := takeOff s) hitem
    refine ⟨fun hsame => ?_, fun hne => ?_⟩
    · rw [hkept hsame]
      rfl
    · obtain ⟨rows, u, hanswer, ⟨htables, hstore, hout, hjudged, hoff, hcandidates, hstate, hvdm, henc⟩, hmem⟩ := hwrites hne
      have hnew : withGroup g ((b.tables.groups[g]).withLimits load p) b.tables = { b.tables with groups := b.tables.groups.set g new } := by
        cases load <;> rfl
      rw [hanswer]
      exact ⟨u, rfl, htables.trans hnew, hstore, fun r hr => hout r fun hin => ((hmem r).1 hin).elim fun hgroup happlied =>
          hr.elim (fun h => h hgroup) fun h => h happlied, fun r hgroup happlied => (hjudged r ((hmem r).2 ⟨hgroup, happlied⟩)).1, hoff,
        hcandidates, hstate, hvdm, henc⟩
  case temperatures =>
    intro warn x result old
    have hx : (tempRequestAt data).legal = x := tempRequest_legal data
    have hresult : okOrClamped (tempRequestAt data).adjusted = result := okOrClamped_iff (tempRequest_adjusted data)
    rw [exec_setLimitsT hw, ← hx, ← hresult]
    obtain ⟨hkept, hwrites⟩ := setLimitsT_answer (s := takeOff s) hg
    refine ⟨fun hsame => ?_, fun hne => ?_⟩
    · rw [hkept hsame]
      rfl
    · obtain ⟨rows, u, hanswer, ⟨htables, hstore, hout, hjudged, hoff, hcandidates, hstate, hvdm, henc⟩, hmem⟩ := hwrites hne
      rw [hanswer]
      exact ⟨u, rfl, htables, hstore, fun r hr => hout r fun hin => hr ((hmem r).1 hin), fun r hgroup => hjudged r ((hmem r).2 hgroup), hoff,
        hcandidates, hstate, hvdm, henc⟩
  · rw [exec_setAnnounce hw, setAnnounce_of_bad hbad]
    rfl
  case announce =>
    intro a
    rw [exec_setAnnounce hw]
    obtain ⟨hkept, hwrites⟩ := setAnnounce_answer (s := takeOff s) hv hcode hmask
    refine ⟨fun hsame => ?_, fun hne => ?_⟩
    · rw [hkept hsame]
      rfl
    · obtain ⟨u, hanswer, h⟩ := hwrites hne
      rw [hanswer]
      refine ⟨u, rfl, h.tables, h.store, fun r => ?_, h.evq, h.frame.candidates, h.osc, h.frame.vdm, h.frame.enc⟩
      have hre := h.reannounced r
      exact ⟨h.announced r, hre.active, hre.reading.status, hre.reading.pc, hre.counters, fun hactive => h.alerts hactive r⟩

end Sys2Proof.Machine
end

section
/-! The places where a sensor ID can stand, and the law of identities over them (R8). -/

namespace Sys2Proof.Machine

set_option Elab.async false

/-- A place for a sensor ID: a truck row, or a slot of a roster entry. -/
abbrev Place := Fin 20 ⊕ EntryNo × SlotNo

def idAtPlace (t : Tables) : Place → Option SensorId
  | .inl r => t.rows[r]
  | .inr (k, x) => t.roster[k].slots[x]

def allPlaces : List Place :=
  (List.finRange 20).map .inl ++ (List.finRange 4).flatMap fun k => (List.finRange 12).map fun x => .inr (k, x)

theorem mem_allPlaces (p : Place) : p ∈ allPlaces := by
  rcases p with r | ⟨k, x⟩
  · exact List.mem_append_left _ (List.mem_map.2 ⟨r, List.mem_finRange r, rfl⟩)
  · exact List.mem_append_right _ (List.mem_flatMap.2 ⟨k, List.mem_finRange k, List.mem_map.2 ⟨x, List.mem_finRange x, rfl⟩⟩)

theorem allPlaces_nodup : allPlaces.Nodup := by decide

theorem vector_toList_eq {α : Type} {n : Nat} (v : Vector α n) : v.toList = (List.finRange n).map fun i => v[i] := by
  refine List.ext_getElem (by simp) fun i h₁ h₂ => ?_
  simp

theorem heldIds_eq (t : Tables) : heldIds t = allPlaces.filterMap (idAtPlace t) := by
  simp only [heldIds, allPlaces, vector_toList_eq, List.filterMap_append, List.filterMap_map, List.filterMap_flatMap, List.flatMap_map]
  rfl

theorem mem_heldIds {t : Tables} {x : SensorId} : x ∈ heldIds t ↔ ∃ p, idAtPlace t p = some x := by
  rw [heldIds_eq, List.mem_filterMap]
  exact exists_congr fun p => and_iff_right (mem_allPlaces p)

/-- The law of identities: no ID in two places, and only sensors. -/
theorem heldLegal_iff {t : Tables} : HeldLegal t ↔
    (∀ p q x, idAtPlace t p = some x → idAtPlace t q = some x → p = q) ∧ ∀ p x, idAtPlace t p = some x → isSensor x = true := by
  refine and_congr ?_ ?_
  · rw [heldIds_eq]
    constructor
    · intro h p q x hp hq
      by_contra hne
      rw [List.Nodup, List.pairwise_filterMap] at h
      have hsymm : Std.Symm fun a b => ∀ y, idAtPlace t a = some y → ∀ z, idAtPlace t b = some z → y ≠ z :=
        ⟨fun a b hab y hy z hz => (hab z hz y hy).symm⟩
      exact h.forall (mem_allPlaces p) (mem_allPlaces q) hne x hp x hq rfl
    · exact fun h => allPlaces_nodup.filterMap fun a b x hb hb' => h a b x hb hb'
  · rw [List.all_eq_true]
    exact ⟨fun h p x hp => h x (mem_heldIds.2 ⟨p, hp⟩), fun h x hx => (mem_heldIds.1 hx).elim fun p hp => h p x hp⟩

/-! ### Rows and their places -/

/-- The place that a row shows: its own, or the slot that it mirrors. -/
def placeOf (s : State) (r : Row) : Option Place :=
  if h : r.val < 20 then some (.inl ⟨r.val, h⟩) else s.trailer.entry?.map fun k => .inr (k, rowSlot r)

theorem placeOf_truck {s : State} {r : Row} (h : r.val < 20) : placeOf s r = some (.inl ⟨r.val, h⟩) := dif_pos h

theorem placeOf_trailer {s : State} {r : Row} (h : ¬ r.val < 20) : placeOf s r = s.trailer.entry?.map fun k => .inr (k, rowSlot r) := dif_neg h

theorem placeOf_congr {s t : State} (h : t.trailer = s.trailer) (r : Row) : placeOf t r = placeOf s r := by
  unfold placeOf
  rw [h]

theorem rowId_eq_place (s : State) (r : Row) : rowId s r = (placeOf s r).bind (idAtPlace s.tables) := by
  by_cases hr : r.val < 20
  · rw [placeOf_truck hr, rowId, dif_pos hr]
    rfl
  · rw [placeOf_trailer hr, rowId, dif_neg hr]
    cases s.trailer <;> rfl

theorem placeOf_of_rowId {s : State} {r : Row} {x : SensorId} (h : rowId s r = some x) :
    ∃ p, placeOf s r = some p ∧ idAtPlace s.tables p = some x := by
  rwa [rowId_eq_place, Option.bind_eq_some_iff] at h

theorem rowId_of_place {s : State} {r : Row} {p : Place} (h : placeOf s r = some p) : rowId s r = idAtPlace s.tables p := by
  rw [rowId_eq_place, h]
  rfl

theorem placeOf_injective {s : State} {q r : Row} {p : Place} (hq : placeOf s q = some p) (hr : placeOf s r = some p) : q = r := by
  by_cases hqr : q.val < 20
  · rw [placeOf_truck hqr] at hq
    by_cases hrr : r.val < 20
    · rw [placeOf_truck hrr, ← hq, Option.some.injEq, Sum.inl.injEq, Fin.mk.injEq] at hr
      exact Fin.ext hr.symm
    · rw [placeOf_trailer hrr, ← hq] at hr
      cases hk : s.trailer.entry? <;> rw [hk] at hr <;> cases hr
  · rw [placeOf_trailer hqr] at hq
    cases hk : s.trailer.entry? with
    | none =>
      rw [hk] at hq
      cases hq
    | some k =>
      rw [hk] at hq
      by_cases hrr : r.val < 20
      · rw [placeOf_truck hrr, ← hq] at hr
        cases hr
      · rw [placeOf_trailer hrr, hk, ← hq] at hr
        have hslot : rowSlot r = rowSlot q := congrArg Prod.snd (Sum.inr.inj (Option.some.inj hr))
        have hval : r.val - 20 = q.val - 20 := congrArg Fin.val hslot
        exact Fin.ext (by omega)

/-- An ID that stands in no row but stands somewhere is roster-foreign. -/
theorem not_mem_heldIds_of_unknown {s : State} {x : SensorId} (hrow : ∀ r, rowId s r ≠ some x) (hslot : slotsWith s x = []) :
    x ∉ heldIds s.tables := by
  rw [mem_heldIds]
  rintro ⟨r | ⟨k, t⟩, hp⟩
  · have hlt : r.val < 32 := Nat.lt_trans r.isLt (by decide)
    exact hrow ⟨r.val, hlt⟩ ((rowId_of_place (s := s) (placeOf_truck r.isLt)).trans hp)
  · exact List.not_mem_nil (hslot ▸ mem_slotsWith.2 hp)

theorem heldElsewhere_iff_place {s : State} {r : Row} {x : SensorId} :
    HeldElsewhere s r x ↔ ∃ p, idAtPlace s.tables p = some x ∧ placeOf s r ≠ some p := by
  constructor
  · rintro (⟨q, hq, hne, hid⟩ | ⟨k, t, hid, hne⟩)
    · obtain ⟨p, hp, hpx⟩ := placeOf_of_rowId hid
      exact ⟨p, hpx, fun hr => hne (placeOf_injective hp hr)⟩
    · refine ⟨.inr (k, t), hid, fun hr => hne ?_⟩
      by_cases htruck : r.val < 20
      · rw [placeOf_truck htruck] at hr
        cases hr
      · rw [placeOf_trailer htruck, Option.map_eq_some_iff] at hr
        obtain ⟨j, hj, heq⟩ := hr
        obtain ⟨rfl, rfl⟩ := Prod.mk.inj (Sum.inr.inj heq)
        refine ⟨?_, (slotRow_eq_iff (by omega)).2 rfl⟩
        generalize s.trailer = v at hj
        cases v <;> cases hj
        rfl
  · rintro ⟨q | ⟨k, t⟩, hid, hne⟩
    · have hlt : q.val < 32 := Nat.lt_trans q.isLt (by decide)
      have hplace : placeOf s ⟨q.val, hlt⟩ = some (.inl q) := placeOf_truck q.isLt
      exact .inl ⟨⟨q.val, hlt⟩, q.isLt, fun heq => hne (heq ▸ hplace), (rowId_of_place hplace).trans hid⟩
    · refine .inr ⟨k, t, hid, ?_⟩
      rintro ⟨hk, rfl⟩
      refine hne ?_
      have hnot : ¬ (slotRow t).val < 20 := by
        rw [slotRow_val]
        omega
      have hslot : rowSlot (slotRow t) = t := ((slotRow_eq_iff (Nat.not_lt.1 hnot)).1 rfl).symm
      rw [placeOf_trailer hnot, hk, hslot]
      rfl

/-! ### What a write of a row does to the places -/

theorem writeRowId_place (r : Row) (id : Option SensorId) (s : State) (p : Place) :
    idAtPlace (writeRowId r id s).tables p = if placeOf s r = some p then id else idAtPlace s.tables p := by
  by_cases hr : r.val < 20
  · rw [writeRowId, dif_pos hr, placeOf_truck hr]
    rcases p with q | ⟨k, t⟩
    · simp only [idAtPlace, State.setTables_tables, Option.some.injEq, Sum.inl.injEq, Fin.ext_iff, Fin.getElem_fin, Vector.getElem_set]
    · rw [if_neg nofun]
      rfl
  · rw [writeRowId, dif_neg hr, placeOf_trailer hr]
    cases hk : s.trailer with
    | identified k =>
      rcases p with q | ⟨j, t⟩
      · rw [if_neg nofun]
        rfl
      · simp only [idAtPlace, putEntry, State.setTables_tables, TrailerState.entry?, Option.map_some, Option.some.injEq, Sum.inr.injEq,
          Prod.mk.injEq, Fin.getElem_fin, Vector.getElem_set, Fin.ext_iff, rowSlot]
        by_cases hj : k.val = j.val
        · simp only [hj, if_true, true_and, Vector.getElem_set]
        · simp only [hj, if_false, false_and]
    | none | recognising | unknown => simp [TrailerState.entry?]

theorem emptyRows_place (rows : List Row) (s : State) (p : Place) :
    idAtPlace (forRows (fun r => writeRowId r none) rows s).tables p
      = if ∃ r ∈ rows, placeOf s r = some p then none else idAtPlace s.tables p := by
  induction rows generalizing s with
  | nil => exact (if_neg fun ⟨_, hr, _⟩ => List.not_mem_nil hr).symm
  | cons r rows ih =>
    rw [forRows_cons, ih, writeRowId_place]
    have hplace : ∀ q, placeOf (writeRowId r none s) q = placeOf s q := placeOf_congr (writeRowId_frame r none s).trailer
    simp only [hplace, List.mem_cons, exists_eq_or_imp]
    by_cases hr : placeOf s r = some p
    · simp [hr]
    · simp [hr]

end Sys2Proof.Machine
end

section
/-! The law of identities and of the tables through everything that writes no table: sessions that end, searches, and the trailer. -/

namespace Sys2Proof.Machine

set_option Elab.async false

/-- The law of the tables: each in its range, and no sensor in two places. -/
abbrev TableLaw (t : Tables) : Prop := TablesLegal t ∧ HeldLegal t

structure IdLaw (s : State) : Prop where
  tables : AllTables TableLaw s
  candidates : CandidateIdsLegal s
  pairs : ∀ p ∈ s.enc.pairs, PairLegal s p
  walk : WalkLegal s
  handed : ∀ t ∈ s.handed, t.id ≠ 0

theorem allTables_and {p q : Tables → Prop} {s : State} :
    AllTables (fun t => p t ∧ q t) s ↔ AllTables p s ∧ AllTables q s :=
  ⟨fun ⟨ht, hc, hi⟩ => ⟨⟨ht.1, fun c h => (hc c h).1, fun c crc h => (hi c crc h).1⟩, ht.2, fun c h => (hc c h).2, fun c crc h => (hi c crc h).2⟩,
    fun ⟨⟨ht, hc, hi⟩, ht', hc', hi'⟩ => ⟨⟨ht, ht'⟩, fun c h => ⟨hc c h, hc' c h⟩, fun c crc h => ⟨hi c crc h, hi' c crc h⟩⟩⟩

theorem idLaw_of_safe {s : State} (h : Safe s) : IdLaw s := by
  obtain ⟨-, -, -, -, -, -, -, -, htables, hheld, hcandidates, hpairs, hwalk, hhanded⟩ := h
  exact ⟨allTables_and.2 ⟨htables, hheld⟩, hcandidates, hpairs, hwalk, hhanded⟩

theorem IdLaw.identities {s : State} (h : IdLaw s) : IdentityLegal s :=
  ⟨(allTables_and.1 h.tables).2, h.candidates, h.pairs, h.walk, h.handed⟩

theorem rowId_congr {s t : State} (htables : t.tables = s.tables) (htrailer : t.trailer = s.trailer) (r : Row) : rowId t r = rowId s r := by
  rw [rowId_eq_place, rowId_eq_place, placeOf_congr htrailer, htables]

theorem rowUsable_congr {s t : State} (htables : t.tables = s.tables) (htrailer : t.trailer = s.trailer) (r : Row) :
    rowUsable t r = rowUsable s r := by
  unfold rowUsable axleOf
  rw [htables, htrailer]

/-! ### What only takes away -/

/-- The tables and the trailer stand, and of the candidates, the pairs, the session and the records handed on nothing is new. -/
structure Shrunk (s t : State) : Prop where
  tables : t.tables = s.tables
  captured : t.store.captured = s.store.captured
  image : t.image = s.image
  trailer : t.trailer = s.trailer
  candidates : ∀ c ∈ t.candidates, c.id ∈ s.candidates.map Candidate.id
  pairs : ∀ p ∈ t.enc.pairs, p ∈ s.enc.pairs
  walk : sessionOpen t = true → sessionOpen s = true ∧ t.enc.walk = s.enc.walk
  handed : ∀ x ∈ t.handed, x ∈ s.handed

namespace Shrunk

variable {s t u : State}

theorem of_frame {c : List Field} (h : Frame c s t) (k₁ : Field.tables ∉ c := by decide) (k₂ : Field.store ∉ c := by decide)
    (k₃ : Field.image ∉ c := by decide) (k₄ : Field.trailer ∉ c := by decide) (k₅ : Field.candidates ∉ c := by decide)
    (k₆ : Field.enc ∉ c := by decide) (k₇ : Field.handed ∉ c := by decide) : Shrunk s t := by
  have henc := h.enc k₆
  refine ⟨h.tables k₁, by rw [h.store k₂], h.image k₃, h.trailer k₄, fun c hc => ?_, fun p hp => henc ▸ hp, fun hopen => ?_,
    fun x hx => h.handed k₇ ▸ hx⟩
  · rw [h.candidates k₅] at hc
    exact List.mem_map_of_mem hc
  · rw [sessionOpen, henc] at hopen
    exact ⟨hopen, by rw [henc]⟩

theorem refl (s : State) : Shrunk s s := .of_frame (.refl [] s)

theorem trans (h : Shrunk s t) (k : Shrunk t u) : Shrunk s u := by
  refine ⟨k.tables.trans h.tables, k.captured.trans h.captured, k.image.trans h.image, k.trailer.trans h.trailer, fun c hc => ?_,
    fun p hp => h.pairs p (k.pairs p hp), fun hopen => ?_, fun x hx => h.handed x (k.handed x hx)⟩
  · obtain ⟨d, hd, hid⟩ := List.mem_map.1 (k.candidates c hc)
    exact hid ▸ h.candidates d hd
  · obtain ⟨hmid, hwalk⟩ := k.walk hopen
    obtain ⟨hfirst, hwalk'⟩ := h.walk hmid
    exact ⟨hfirst, hwalk.trans hwalk'⟩

theorem ite {p : Prop} [Decidable p] (h : p → Shrunk s t) (k : ¬ p → Shrunk s u) : Shrunk s (if p then t else u) := by
  split
  · exact h ‹_›
  · exact k ‹_›

/-- The enrolment is touched, and nothing of it is new. -/
theorem of_enc {c : List Field} (h : Frame c s t) (hpairs : ∀ p ∈ t.enc.pairs, p ∈ s.enc.pairs)
    (hwalk : sessionOpen t = true → sessionOpen s = true ∧ t.enc.walk = s.enc.walk) (k₁ : Field.tables ∉ c := by decide)
    (k₂ : Field.store ∉ c := by decide) (k₃ : Field.image ∉ c := by decide) (k₄ : Field.trailer ∉ c := by decide)
    (k₅ : Field.candidates ∉ c := by decide) (k₇ : Field.handed ∉ c := by decide) : Shrunk s t :=
  ⟨h.tables k₁, by rw [h.store k₂], h.image k₃, h.trailer k₄, fun c hc => List.mem_map_of_mem (h.candidates k₅ ▸ hc), hpairs, hwalk,
    fun x hx => h.handed k₇ ▸ hx⟩

theorem of_proposal {c : List Field} {p : Option (Row × SensorId)} (h : Frame c s t) (henc : t.enc = { s.enc with proposal := p })
    (k₁ : Field.tables ∉ c := by decide) (k₂ : Field.store ∉ c := by decide) (k₃ : Field.image ∉ c := by decide)
    (k₄ : Field.trailer ∉ c := by decide) (k₅ : Field.candidates ∉ c := by decide) (k₇ : Field.handed ∉ c := by decide) : Shrunk s t := by
  refine .of_enc h (fun q hq => ?_) (fun hopen => ?_) k₁ k₂ k₃ k₄ k₅ k₇
  · rwa [henc] at hq
  · rw [sessionOpen, henc] at hopen
    exact ⟨hopen, by rw [henc]⟩

theorem raiseEvent (kind : EventKind) (row : Option Row) (value : Option Nat) (s : State) : Shrunk s (raiseEvent kind row value s) :=
  .of_frame (raiseEvent_frame kind row value s)

theorem search (s : State) : Shrunk s (search s) :=
  have ⟨_, hp⟩ := search_enc s
  .of_proposal (search_frame s) hp

theorem withdraw (s : State) : Shrunk s (withdraw s) := .of_proposal (withdraw_frame s) (withdraw_enc s)

theorem settleProposal (s : State) : Shrunk s (settleProposal s) :=
  have ⟨_, hp⟩ := settleProposal_enc s
  .of_proposal (settleProposal_frame s) hp

theorem dueAfterWrite (before s : State) : Shrunk s (dueAfterWrite before s) := by
  refine Shrunk.trans (.of_frame (setEpisodes_frame _ s)) (.ite (fun _ => .refl _) fun _ => ?_)
  exact .search _

theorem enterState (n : OpState) (s : State) : Shrunk s (enterState n s) := .of_frame (enterState_frame n s)

theorem endSession (how : Ending) (s : State) : Shrunk s (endSession how s) := by
  cases h : s.enc.session with
  | none =>
    rw [endSession_of_closed how h]
    exact .refl s
  | some i =>
    obtain ⟨p, hp⟩ := endSession_enc how h
    refine .of_enc (endSession_frame how s) (fun q hq => ?_) fun hopen => ?_
    · rw [hp] at hq
      exact absurd hq List.not_mem_nil
    · rw [sessionOpen, hp] at hopen
      exact absurd hopen Bool.false_ne_true

theorem filter_candidates (keeps : Candidate → Bool) (s : State) : Shrunk s (s.setCandidates (s.candidates.filter keeps)) :=
  ⟨rfl, rfl, rfl, rfl, fun _ hc => List.mem_map_of_mem (List.mem_of_mem_filter hc), fun _ h => h, fun h => ⟨h, rfl⟩, fun _ h => h⟩

theorem rowId (h : Shrunk s t) (r : Row) : rowId t r = Machine.rowId s r := rowId_congr h.tables h.trailer r

theorem pair {p : EnrolPair} (h : Shrunk s t) (hp : PairLegal s p) : PairLegal t p := by
  obtain ⟨hsensor, hsource, hfree⟩ := hp
  exact ⟨hsensor, fun q hq => (h.rowId q).trans (hsource q hq), fun hnone hheld => (h.rowId _).trans (hfree hnone (h.tables ▸ hheld))⟩

theorem allTables {law : Tables → Prop} (h : Shrunk s t) (hs : AllTables law s) : AllTables law t := by
  obtain ⟨htables, hcaptured, himage⟩ := hs
  exact ⟨h.tables ▸ htables, fun c hc => hcaptured c (h.captured ▸ hc), fun c crc hc => himage c crc (h.image ▸ hc)⟩

theorem candidateIds (h : Shrunk s t) (hs : CandidateIdsLegal s) : CandidateIdsLegal t := fun c hc => by
  obtain ⟨d, hd, hid⟩ := List.mem_map.1 (h.candidates c hc)
  rw [← hid, h.tables]
  exact hs d hd

theorem law (h : Shrunk s t) (hs : IdLaw s) : IdLaw t := by
  refine ⟨h.allTables hs.tables, h.candidateIds hs.candidates, fun p hp => h.pair (hs.pairs p (h.pairs p hp)), fun hopen r hr => ?_,
    fun x hx => hs.handed x (h.handed x hx)⟩
  obtain ⟨hbefore, hwalk⟩ := h.walk hopen
  rw [rowUsable_congr h.tables h.trailer]
  exact hs.walk hbefore r (hwalk ▸ hr)

end Shrunk

/-! ### The trailer comes and goes (R19 to R24, R116) -/

theorem placeOf_of_truck {s t : State} {r : Row} (h : r.val < 20) : placeOf t r = placeOf s r := by
  rw [placeOf_truck h, placeOf_truck h]

theorem rowId_of_truck {s t : State} (htables : t.tables = s.tables) {r : Row} (h : r.val < 20) : rowId t r = rowId s r := by
  rw [rowId_eq_place, rowId_eq_place, placeOf_of_truck (s := s) h, htables]

theorem rowUsable_of_truck {s t : State} (htables : t.tables = s.tables) {r : Row} (h : r.val < 20) : rowUsable t r = rowUsable s r := by
  have haxle : (rowAxle r).val < 5 := by
    simp only [rowAxle]
    omega
  unfold rowUsable axleOf
  rw [dif_pos haxle, dif_pos haxle, htables]

theorem isTrailerRow_eq_false {r : Row} : isTrailerRow r = false ↔ r.val < 20 := by
  rw [isTrailerRow, decide_eq_false_iff_not, not_le]

/-- A session that does not concern the trailer walks truck rows alone, and takes from them alone. -/
theorem truck_of_off {s : State} (h : sessionOnTrailer s = false) (hopen : sessionOpen s = true) :
    (∀ r ∈ s.enc.walk, r.val < 20) ∧ ∀ p ∈ s.enc.pairs, ∀ q, p.source = some q → q.val < 20 := by
  rw [sessionOnTrailer, hopen, Bool.true_and, Bool.or_eq_false_iff, List.any_eq_false, List.any_eq_false] at h
  obtain ⟨hwalk, hsource⟩ := h
  refine ⟨fun r hr => isTrailerRow_eq_false.1 (by simpa using hwalk r hr), fun p hp q hq => isTrailerRow_eq_false.1 ?_⟩
  simpa [hq] using hsource p hp

/-- While no trailer is identified, no session concerns one. -/
theorem IdLaw.off_trailer {s : State} (h : IdLaw s) (hno : s.trailer.entry? = none) : sessionOnTrailer s = false := by
  have hnone : ∀ k, s.trailer ≠ .identified k := fun k hk => by
    rw [hk] at hno
    cases hno
  by_contra hon
  rw [Bool.not_eq_false, sessionOnTrailer, Bool.and_eq_true, Bool.or_eq_true, List.any_eq_true, List.any_eq_true] at hon
  obtain ⟨hopen, ⟨r, hr, htrailer⟩ | ⟨p, hp, hany⟩⟩ := hon
  · have hrow : 20 ≤ r.val := of_decide_eq_true htrailer
    have haxle : ¬ (rowAxle r).val < 5 := by
      simp only [rowAxle]
      omega
    have husable := h.walk hopen r hr
    unfold rowUsable axleOf at husable
    rw [dif_neg haxle] at husable
    generalize hv : s.trailer = v at husable hnone
    cases v
    case identified k => exact hnone k rfl
    all_goals exact Bool.false_ne_true husable
  · obtain ⟨q, hq, htrailer⟩ := Option.any_eq_true _ _ |>.1 hany
    obtain ⟨-, hsource, -⟩ := h.pairs p hp
    have hid := hsource q hq
    rw [rowId_of_noTrailer hnone (of_decide_eq_true htrailer)] at hid
    cases hid

abbrev trailerOnly : List Field := .trailer :: .window :: .recog :: .episodes :: .vdm :: wheelFields

/-- The trailer changes beside a session that does not concern it. -/
theorem IdLaw.retrailered {s t : State} (h : IdLaw s) (hsession : SessionLegal s) (hf : Frame trailerOnly s t)
    (hoff : sessionOnTrailer s = false) : IdLaw t := by
  obtain ⟨-, -, hclosed, hopened⟩ := hsession
  have henc := hf.enc
  have htables := hf.tables
  refine ⟨?_, ?_, fun p hp => ?_, fun hopen r hr => ?_, fun x hx => h.handed x (hf.handed ▸ hx)⟩
  · obtain ⟨ht, hc, hi⟩ := h.tables
    exact ⟨htables ▸ ht, fun c hc' => hc c (hf.store ▸ hc'), fun c crc hi' => hi c crc (hf.image ▸ hi')⟩
  · intro c hc
    rw [hf.candidates] at hc
    rw [htables]
    exact h.candidates c hc
  · rw [henc] at hp
    have hopen : sessionOpen s = true := (sessionOpen_iff s).2 fun hnone => by
      obtain ⟨hpairs, -⟩ := hclosed hnone
      rw [hpairs] at hp
      exact List.not_mem_nil hp
    obtain ⟨hwalk, hsource⟩ := truck_of_off hoff hopen
    obtain ⟨i, hi⟩ := Option.isSome_iff_exists.1 hopen
    obtain ⟨-, -, -, -, -, -, -, -, htaken⟩ := hopened i hi
    obtain ⟨hsensor, hfrom, hfree⟩ := h.pairs p hp
    refine ⟨hsensor, fun q hq => (rowId_of_truck htables (hsource p hp q hq)).trans (hfrom q hq), fun hnone hheld => ?_⟩
    rw [htables] at hheld
    exact (rowId_of_truck htables (hwalk _ (List.mem_of_mem_take (htaken p hp)))).trans (hfree hnone hheld)
  · rw [sessionOpen, henc] at hopen
    rw [henc] at hr
    obtain ⟨hwalk, -⟩ := truck_of_off hoff hopen
    rw [rowUsable_of_truck htables (hwalk r hr)]
    exact h.walk hopen r hr

/-- The trailer goes, and a session that concerns it is lost. -/
theorem IdLaw.trailerLost {s t : State} (h : IdLaw s) (hsession : SessionLegal s) (hf : Frame trailerOnly s t) :
    IdLaw (sessionTrailerLost t) := by
  have hon : sessionOnTrailer t = sessionOnTrailer s := by rw [sessionOnTrailer, sessionOnTrailer, sessionOpen, sessionOpen, hf.enc]
  cases hlost : sessionOnTrailer s with
  | false =>
    rw [sessionTrailerLost_of_off (hon.trans hlost)]
    exact h.retrailered hsession hf hlost
  | true =>
    have hopen : sessionOpen t = true := by
      rw [sessionOnTrailer, Bool.and_eq_true] at hlost
      rw [sessionOpen, hf.enc]
      exact hlost.1
    obtain ⟨i, hi⟩ := Option.isSome_iff_exists.1 hopen
    have hend : sessionTrailerLost t = endSession .trailerLost t := if_pos (hon.trans hlost)
    obtain ⟨p, hp⟩ := endSession_enc .trailerLost hi
    have hframe : Frame (.trailer :: .window :: .recog :: endFields) s (endSession .trailerLost t) :=
      (hf.mono (by decide)).trans ((endSession_frame .trailerLost t).mono (by decide))
    rw [hend]
    obtain ⟨ht, hc, hi⟩ := h.tables
    refine ⟨⟨hframe.tables ▸ ht, fun c hc' => hc c (hframe.store ▸ hc'), fun c crc hi' => hi c crc (hframe.image ▸ hi')⟩, fun c hc => ?_,
      fun q hq => ?_, fun hopen => ?_, fun x hx => h.handed x (hframe.handed ▸ hx)⟩
    · rw [hframe.candidates] at hc
      rw [hframe.tables]
      exact h.candidates c hc
    · rw [hp] at hq
      exact absurd hq List.not_mem_nil
    · rw [sessionOpen, hp] at hopen
      exact absurd hopen Bool.false_ne_true

end Sys2Proof.Machine
end

section
/-! The law of the tables by places, and a completed session: the pending list applied keeps every law of identities (R120 to R122). -/

namespace Sys2Proof.Machine

set_option Elab.async false

/-! ### What the tables are, place by place -/

/-- A place that its axle record makes usable (R6). -/
def placeUsableIn (t : Tables) : Place → Bool
  | .inl r => placeUsable t.axles[r.val / 4].layout (r.val % 4)
  | .inr (k, x) => slotUsable t.roster[k] x

/-- The law of the tables but for the IDs. -/
abbrev TablesBase (t : Tables) : Prop :=
  SettingsLegal t.settings ∧ (∀ g : GroupNo, GroupLegal t.groups[g]) ∧ t.announce.minimum ≠ .none
    ∧ maskLegal t.announce.exclude = true ∧ nodeBaseLegal t.link.nodeBase.toNat = true
    ∧ identifierTaken t.link.nodeBase.toNat t.link.vehicleId.toNat = false
    ∧ (∀ k : EntryNo, t.roster[k].tag = 0 → t.roster[k] = .free)
    ∧ ∀ j k : EntryNo, t.roster[j].tag = t.roster[k].tag → t.roster[j].tag ≠ 0 → j = k

theorem tablesLegal_iff_places {t : Tables} :
    TablesLegal t ↔ TablesBase t ∧ ∀ p x, idAtPlace t p = some x → placeUsableIn t p = true := by
  constructor
  · rintro ⟨hsettings, hgroups, hminimum, hmask, hbase, hfree, ⟨hzero, htags, hslots⟩, hrows⟩
    refine ⟨⟨hsettings, hgroups, hminimum, hmask, hbase, hfree, hzero, htags⟩, fun p x hp => ?_⟩
    by_contra husable
    rw [Bool.not_eq_true] at husable
    rcases p with r | ⟨k, i⟩
    · exact Option.some_ne_none x (hp.symm.trans (hrows r husable))
    · exact Option.some_ne_none x (hp.symm.trans (hslots k i husable))
  · rintro ⟨⟨hsettings, hgroups, hminimum, hmask, hbase, hfree, hzero, htags⟩, hplaces⟩
    have hnone : ∀ p, placeUsableIn t p = false → idAtPlace t p = none := fun p hp => by
      by_contra hsome
      obtain ⟨x, hx⟩ := Option.ne_none_iff_exists'.1 hsome
      exact Bool.false_ne_true (hp.symm.trans (hplaces p x hx))
    exact ⟨hsettings, hgroups, hminimum, hmask, hbase, hfree, ⟨hzero, htags, fun k i h => hnone (.inr (k, i)) h⟩,
      fun r h => hnone (.inl r) h⟩

theorem rowUsable_iff_place {s : State} {r : Row} :
    rowUsable s r = true ↔ ∃ p, placeOf s r = some p ∧ placeUsableIn s.tables p = true := by
  have haxle : (rowAxle r).val = r.val / 4 := rfl
  by_cases hr : r.val < 20
  · have hlt : (rowAxle r).val < 5 := by omega
    unfold rowUsable axleOf
    rw [dif_pos hlt, placeOf_truck hr]
    refine ⟨fun h => ⟨_, rfl, h⟩, ?_⟩
    rintro ⟨_, hp, h⟩
    cases hp
    exact h
  · have hge : ¬ (rowAxle r).val < 5 := by omega
    unfold rowUsable axleOf
    rw [dif_neg hge, placeOf_trailer hr]
    cases s.trailer with
    | identified k =>
      have hplace : rowPlace r = (rowSlot r).val % 4 := by
        simp only [rowPlace, rowSlot]
        omega
      have hindex : (rowAxle r).val - 5 = (slotAxle (rowSlot r)).val := by
        simp only [rowAxle, slotAxle, rowSlot]
        omega
      have husable : placeUsableIn s.tables (.inr (k, rowSlot r))
          = placeUsable (s.tables.roster[k].axles[(rowAxle r).val - 5]).layout (rowPlace r) := by
        simp only [placeUsableIn, slotUsable, hplace, hindex, Fin.getElem_fin]
      refine ⟨fun h => ⟨_, rfl, husable.trans h⟩, ?_⟩
      rintro ⟨_, hp, h⟩
      cases hp
      exact husable.symm.trans h
    | none | recognising | unknown =>
      refine ⟨fun h => absurd h Bool.false_ne_true, ?_⟩
      rintro ⟨_, hp, -⟩
      cases hp

/-- The tables differ in IDs alone. -/
structure IdsOnly (t u : Tables) : Prop where
  rest : u = { t with rows := u.rows, roster := u.roster }
  entry : ∀ k : EntryNo, u.roster[k] = { t.roster[k] with slots := u.roster[k].slots }

namespace IdsOnly

variable {t u v : Tables}

theorem refl (t : Tables) : IdsOnly t t := ⟨rfl, fun _ => rfl⟩

theorem trans (h : IdsOnly t u) (k : IdsOnly u v) : IdsOnly t v := by
  refine ⟨?_, fun i => ?_⟩
  · rw [k.rest, h.rest]
  · rw [k.entry i, h.entry i]

theorem usable (h : IdsOnly t u) (p : Place) : placeUsableIn u p = placeUsableIn t p := by
  rcases p with r | ⟨k, i⟩
  · rw [placeUsableIn, placeUsableIn, h.rest]
  · rw [placeUsableIn, placeUsableIn, slotUsable, slotUsable, h.entry k]

/-- IDs that stand only where they are usable leave a free entry free. -/
theorem base (h : IdsOnly t u) (hbase : TablesBase t) (husable : ∀ p x, idAtPlace u p = some x → placeUsableIn t p = true) :
    TablesBase u := by
  obtain ⟨hsettings, hgroups, hminimum, hmask, hbase, hfree, hzero, htags⟩ := hbase
  have htag : ∀ k : EntryNo, u.roster[k].tag = t.roster[k].tag := fun k => by rw [h.entry k]
  refine ⟨by rw [h.rest]; exact hsettings, by rw [h.rest]; exact hgroups, by rw [h.rest]; exact hminimum, by rw [h.rest]; exact hmask,
    by rw [h.rest]; exact hbase, by rw [h.rest]; exact hfree, fun k hk => ?_, fun j k hjk hj => ?_⟩
  · have hempty := hzero k ((htag k).symm.trans hk)
    have hslots : u.roster[k].slots = RosterEntry.free.slots := by
      refine Vector.ext fun i hi => ?_
      have hnone : idAtPlace u (.inr (k, ⟨i, hi⟩)) = none := by
        by_contra hsome
        obtain ⟨x, hx⟩ := Option.ne_none_iff_exists'.1 hsome
        have hbad := husable _ x hx
        rw [placeUsableIn, hempty] at hbad
        have hfalse : slotUsable .free ⟨i, hi⟩ = false := by simp [slotUsable, RosterEntry.free, AxleRecord.free, placeUsable]
        exact Bool.false_ne_true (hfalse.symm.trans hbad)
      exact hnone.trans (by simp [RosterEntry.free])
    rw [h.entry k, hempty, hslots]
  · rw [htag, htag] at hjk
    rw [htag] at hj
    exact htags j k hjk hj

/-- IDs may be written where they are usable, and taken away anywhere. -/
theorem legal (h : IdsOnly t u) (ht : TablesLegal t)
    (hids : ∀ p x, idAtPlace u p = some x → idAtPlace t p ≠ none ∨ placeUsableIn t p = true) : TablesLegal u := by
  obtain ⟨hbase, hplaces⟩ := tablesLegal_iff_places.1 ht
  have husable : ∀ p x, idAtPlace u p = some x → placeUsableIn t p = true := fun p x hp =>
    (hids p x hp).elim (fun hheld => (Option.ne_none_iff_exists'.1 hheld).elim fun y hy => hplaces p y hy) id
  exact tablesLegal_iff_places.2 ⟨h.base hbase husable, fun p x hp => (h.usable p).trans (husable p x hp)⟩

theorem writeRowId (r : Row) (id : Option SensorId) (s : State) : IdsOnly s.tables (writeRowId r id s).tables := by
  refine ⟨writeRowId_tables r id s, fun k => ?_⟩
  unfold Machine.writeRowId
  split
  · rfl
  · split
    · next j _ =>
      simp only [putEntry, State.setTables_tables, Fin.getElem_fin, Vector.getElem_set]
      by_cases hjk : j.val = k.val
      · rw [if_pos hjk]
        simp only [hjk]
      · rw [if_neg hjk]
    · rfl

theorem foldl {α : Type} {f : State → α → State} (h : ∀ s x, IdsOnly s.tables (f s x).tables) (l : List α) (s : State) :
    IdsOnly s.tables (l.foldl f s).tables := by
  induction l generalizing s with
  | nil => exact .refl _
  | cons x l ih => exact (h s x).trans (ih (f s x))

theorem applyPairs (pairs : List EnrolPair) (s : State) : IdsOnly s.tables (applyPairs pairs s).tables :=
  (foldl (fun s r => writeRowId r none s) _ s).trans (foldl (fun s p => writeRowId p.row (some p.id) s) pairs _)

end IdsOnly

/-! ### The pending list applied -/

theorem mem_vacatedRows {pairs : List EnrolPair} {r : Row} :
    r ∈ vacatedRows pairs ↔ (∃ p ∈ pairs, p.source = some r) ∧ r ∉ pairRows pairs := by
  simp [vacatedRows, mem_allRows]

/-- Each pair's place holds its ID, and the others are as they were. -/
theorem writePairs_place {pairs : List EnrolPair} (hrows : (pairRows pairs).Nodup) (s : State) (pl : Place) :
    (∀ p ∈ pairs, placeOf s p.row = some pl →
        idAtPlace (pairs.foldl (fun s p => writeRowId p.row (some p.id) s) s).tables pl = some p.id)
      ∧ ((∀ p ∈ pairs, placeOf s p.row ≠ some pl) →
        idAtPlace (pairs.foldl (fun s p => writeRowId p.row (some p.id) s) s).tables pl = idAtPlace s.tables pl) := by
  induction pairs generalizing s with
  | nil => exact ⟨nofun, fun _ => rfl⟩
  | cons p pairs ih =>
    obtain ⟨hfresh, hrest⟩ := List.nodup_cons.1 hrows
    have hplace : ∀ q, placeOf (writeRowId p.row (some p.id) s) q = placeOf s q :=
      placeOf_congr (writeRowId_frame p.row (some p.id) s).trailer
    obtain ⟨hwritten, hkept⟩ := ih hrest (writeRowId p.row (some p.id) s)
    simp only [hplace] at hwritten hkept
    refine ⟨fun q hq hpl => ?_, fun hother => ?_⟩
    · rcases List.mem_cons.1 hq with rfl | hq
      · refine (hkept fun q' hq' hpl' => hfresh ?_).trans ?_
        · exact placeOf_injective hpl hpl' ▸ List.mem_map_of_mem hq'
        · rw [writeRowId_place, if_pos hpl]
      · exact hwritten q hq hpl
    · refine (hkept fun q hq => hother q (List.mem_cons_of_mem _ hq)).trans ?_
      rw [writeRowId_place, if_neg (hother p List.mem_cons_self)]

/-- The places after the pending list: a pair's ID in its row, nothing in a source that is no pair's row, the rest as before. -/
theorem applyPairs_place {pairs : List EnrolPair} (hrows : (pairRows pairs).Nodup) (s : State) (pl : Place) :
    (∀ p ∈ pairs, placeOf s p.row = some pl → idAtPlace (applyPairs pairs s).tables pl = some p.id)
      ∧ ((∀ p ∈ pairs, placeOf s p.row ≠ some pl) → idAtPlace (applyPairs pairs s).tables pl
        = if ∃ r ∈ vacatedRows pairs, placeOf s r = some pl then none else idAtPlace s.tables pl) := by
  have hplace : ∀ q, placeOf (forRows (fun r => writeRowId r none) (vacatedRows pairs) s) q = placeOf s q :=
    placeOf_congr (emptyRows_frame _ s).trailer
  obtain ⟨hwritten, hkept⟩ := writePairs_place hrows (forRows (fun r => writeRowId r none) (vacatedRows pairs) s) pl
  simp only [hplace] at hwritten hkept
  exact ⟨hwritten, fun hother => (hkept hother).trans (emptyRows_place _ s pl)⟩

/-- What a session holds when its last step is done. -/
structure PairsSound (s : State) : Prop where
  open' : sessionOpen s = true
  rows : (pairRows s.enc.pairs).Nodup
  ids : (s.enc.pairs.map EnrolPair.id).Nodup
  walked : ∀ p ∈ s.enc.pairs, p.row ∈ s.enc.walk

theorem PairsSound.pair_of_id {s : State} (h : PairsSound s) {p q : EnrolPair} (hp : p ∈ s.enc.pairs) (hq : q ∈ s.enc.pairs)
    (hid : p.id = q.id) : p = q := List.inj_on_of_nodup_map h.ids hp hq hid

section
variable {s : State} (h : IdLaw s) (hpairs : PairsSound s)
include h hpairs

/-- An ID that stands after the list is applied is a pair's, in its row, or stood there before, and is no pair's. -/
theorem applyPairs_held {pl : Place} {x : SensorId} (hx : idAtPlace (applyPairs s.enc.pairs s).tables pl = some x) :
    (∃ p ∈ s.enc.pairs, placeOf s p.row = some pl ∧ p.id = x)
      ∨ (idAtPlace s.tables pl = some x ∧ ∀ p ∈ s.enc.pairs, p.id ≠ x) := by
  obtain ⟨hwritten, hkept⟩ := applyPairs_place hpairs.rows s pl
  by_cases hpair : ∃ p ∈ s.enc.pairs, placeOf s p.row = some pl
  · obtain ⟨p, hp, hpl⟩ := hpair
    exact .inl ⟨p, hp, hpl, Option.some.inj ((hwritten p hp hpl).symm.trans hx)⟩
  · have hother : ∀ p ∈ s.enc.pairs, placeOf s p.row ≠ some pl := fun p hp hpl => hpair ⟨p, hp, hpl⟩
    rw [hkept hother] at hx
    by_cases hvacated : ∃ r ∈ vacatedRows s.enc.pairs, placeOf s r = some pl
    · rw [if_pos hvacated] at hx
      cases hx
    · rw [if_neg hvacated] at hx
      refine .inr ⟨hx, fun p hp hid => ?_⟩
      obtain ⟨hinj, -⟩ := heldLegal_iff.1 h.tables.1.2
      obtain ⟨-, hsource, hfree⟩ := h.pairs p hp
      have hshown : ∀ q, rowId s q = some p.id → placeOf s q = some pl := fun q hq => by
        obtain ⟨pl', hpl', hat⟩ := placeOf_of_rowId hq
        rw [hpl', hinj pl' pl x (hid ▸ hat) hx]
      cases hfrom : p.source with
      | none => exact hother p hp (hshown _ (hfree hfrom (mem_heldIds.2 ⟨pl, hid ▸ hx⟩)))
      | some q =>
        have hq := hshown q (hsource q hfrom)
        refine hvacated ⟨q, mem_vacatedRows.2 ⟨⟨p, hp, hfrom⟩, fun hmem => ?_⟩, hq⟩
        obtain ⟨p', hp', hrow⟩ := List.mem_map.1 hmem
        exact hother p' hp' (hrow ▸ hq)

theorem applyPairs_heldLegal : HeldLegal (applyPairs s.enc.pairs s).tables := by
  obtain ⟨hinj, hsensor⟩ := heldLegal_iff.1 h.tables.1.2
  refine heldLegal_iff.2 ⟨fun pl pl' x hx hx' => ?_, fun pl x hx => ?_⟩
  · rcases applyPairs_held h hpairs hx with ⟨p, hp, hpl, hid⟩ | ⟨hbefore, hno⟩
    · rcases applyPairs_held h hpairs hx' with ⟨p', hp', hpl', hid'⟩ | ⟨-, hno'⟩
      · obtain rfl := hpairs.pair_of_id hp hp' (hid.trans hid'.symm)
        exact Option.some.inj (hpl.symm.trans hpl')
      · exact absurd hid (hno' p hp)
    · rcases applyPairs_held h hpairs hx' with ⟨p', hp', -, hid'⟩ | ⟨hbefore', -⟩
      · exact absurd hid' (hno p' hp')
      · exact hinj pl pl' x hbefore hbefore'
  · rcases applyPairs_held h hpairs hx with ⟨p, hp, -, rfl⟩ | ⟨hbefore, -⟩
    · exact (h.pairs p hp).1
    · exact hsensor pl x hbefore

theorem applyPairs_tableLaw : TableLaw (applyPairs s.enc.pairs s).tables := by
  refine ⟨(IdsOnly.applyPairs s.enc.pairs s).legal h.tables.1.1 fun pl x hx => ?_, applyPairs_heldLegal h hpairs⟩
  rcases applyPairs_held h hpairs hx with ⟨p, hp, hpl, -⟩ | ⟨hbefore, -⟩
  · obtain ⟨pl', hpl', husable⟩ := rowUsable_iff_place.1 (h.walk hpairs.open' p.row (hpairs.walked p hp))
    exact .inr (Option.some.inj (hpl.symm.trans hpl') ▸ husable)
  · exact .inl (by rw [hbefore]; exact Option.some_ne_none x)

end

/-! ### What a save captures -/

theorem requestSave_captured {s : State} {c : Tables} (h : (requestSave s).store.captured = some c) :
    c = s.tables ∨ s.store.captured = some c := by
  by_cases hidle : s.store.state = .idle
  · rw [requestSave_of_idle hidle] at h
    exact .inl (Option.some.inj h).symm
  · rw [requestSave_of_busy hidle] at h
    exact .inr h

theorem requestSave_allTables {law : Tables → Prop} {s : State} (h : AllTables law s) : AllTables law (requestSave s) := by
  obtain ⟨htables, hcaptured, himage⟩ := h
  have hf := requestSave_frame s
  exact ⟨hf.tables ▸ htables, fun c hc => (requestSave_captured hc).elim (fun heq => heq ▸ htables) (hcaptured c),
    fun c crc hc => himage c crc (hf.image ▸ hc)⟩

/-! ### A session completed -/

theorem pairsInForce_tables (s : State) : (pairsInForce s).tables = (applyPairs s.enc.pairs s).tables := by
  unfold pairsInForce
  rw [(requestSave_frame _).tables]
  split <;> exact (restartRows_frame _ _).tables

theorem pairsInForce_candidates (s : State) :
    (pairsInForce s).candidates = s.candidates.filter fun c => decide (c.id ∉ s.enc.pairs.map EnrolPair.id) := by
  have hkept : (restartRows (pairsChange s) (applyPairs s.enc.pairs s)).candidates = s.candidates :=
    (restartRows_frame _ _).candidates.trans (applyPairs_frame _ s).candidates
  unfold pairsInForce
  rw [(requestSave_frame _).candidates, ← hkept]
  split <;> rfl

theorem IdLaw.pairsInForce_allTables {s : State} (h : IdLaw s) (hpairs : PairsSound s) : AllTables TableLaw (pairsInForce s) := by
  have hlaw := applyPairs_tableLaw h hpairs
  obtain ⟨-, hcaptured, himage⟩ := h.tables
  unfold pairsInForce
  refine requestSave_allTables ?_
  have happlied := applyPairs_frame s.enc.pairs s
  have hrestarted := restartRows_frame (pairsChange s) (applyPairs s.enc.pairs s)
  generalize restartRows (pairsChange s) (applyPairs s.enc.pairs s) = t at hrestarted
  have ht : AllTables TableLaw t := ⟨hrestarted.tables ▸ hlaw, fun c hc => hcaptured c (by rwa [hrestarted.store, happlied.store] at hc),
    fun c crc hc => himage c crc (by rwa [hrestarted.image, happlied.image] at hc)⟩
  split <;> exact ht

theorem completedState_frame (i : Nat) (s : State) : Frame [.enc, .evq] (pairsInForce s) (completedState i s) :=
  ((raiseEvent_frame _ _ _ _).mono (by decide)).trans ((setEnc_frame _ _).mono (by decide))

theorem completedState_enc (i : Nat) (s : State) : (completedState i s).enc = completedEnc s := State.setEnc_enc _ _

theorem completedState_law {s : State} (h : IdLaw s) (hpairs : PairsSound s) (i : Nat) : IdLaw (completedState i s) := by
  have htables : (pairsInForce s).tables = (applyPairs s.enc.pairs s).tables := pairsInForce_tables s
  have hcandidates := pairsInForce_candidates s
  have hall := h.pairsInForce_allTables hpairs
  have hkept : (pairsInForce s).handed = s.handed := (pairsInForce_frame s).handed
  have hf := completedState_frame i s
  have henc := completedState_enc i s
  generalize completedState i s = t at *
  obtain ⟨hnow, hcaptured, himage⟩ := hall
  refine ⟨⟨hf.tables ▸ hnow, fun c hc => hcaptured c (hf.store ▸ hc), fun c crc hc => himage c crc (hf.image ▸ hc)⟩, fun c hc => ?_,
    fun p hp => ?_, fun hopen => ?_, fun x hx => h.handed x (by rwa [hf.handed, hkept] at hx)⟩
  · rw [hf.candidates, hcandidates, List.mem_filter, decide_eq_true_eq] at hc
    obtain ⟨hmem, hno⟩ := hc
    obtain ⟨hsensor, hfree⟩ := h.candidates c hmem
    refine ⟨hsensor, fun hheld => ?_⟩
    rw [hf.tables, htables] at hheld
    obtain ⟨pl, hpl⟩ := mem_heldIds.1 hheld
    rcases applyPairs_held h hpairs hpl with ⟨p, hp, -, hid⟩ | ⟨hbefore, -⟩
    · exact hno (hid ▸ List.mem_map_of_mem hp)
    · exact hfree (mem_heldIds.2 ⟨pl, hbefore⟩)
  · rw [henc] at hp
    exact absurd hp List.not_mem_nil
  · rw [sessionOpen, henc] at hopen
    exact absurd hopen Bool.false_ne_true

theorem applyCompletion_law {s : State} (h : IdLaw s) (hpairs : PairsSound s) (i : Nat) : IdLaw (applyCompletion i s) := by
  rw [applyCompletion_eq]
  have hclosed : Shrunk (completedState i s) (sessionClosed (completedState i s)) := .of_frame (sessionClosed_frame _)
  exact (hclosed.trans (.search _)).law (completedState_law h hpairs i)

theorem completeSession_law {s : State} (h : IdLaw s) (hpairs : PairsSound s) (i : Nat) : IdLaw (completeSession i s) := by
  unfold completeSession
  split
  · exact applyCompletion_law h hpairs i
  · exact (Shrunk.endSession .refused s).law h

end Sys2Proof.Machine
end

section
/-! The law of identities through a session's steps, the acceptance of a telegram, the trailer and the vehicle data. -/

namespace Sys2Proof.Machine

set_option Elab.async false

/-- A step of the part that keeps the five laws, and with the law of sessions that of identities. -/
structure IdStep (s t : State) : Prop where
  lawful : Lawful s t
  law : IdLaw s → SessionLegal s → IdLaw t

namespace IdStep

variable {s t u : State}

theorem of_shrunk (h : Lawful s t) (k : Shrunk s t) : IdStep s t := ⟨h, fun hs _ => k.law hs⟩

theorem refl (s : State) : IdStep s s := .of_shrunk (.refl s) (.refl s)

theorem trans (h : IdStep s t) (k : IdStep t u) : IdStep s u :=
  ⟨h.lawful.trans k.lawful, fun hs hsession => k.law (h.law hs hsession) (h.lawful.session hsession)⟩

theorem ite {p : Prop} [Decidable p] (h : p → IdStep s t) (k : ¬ p → IdStep s u) : IdStep s (if p then t else u) := by
  split
  · exact h ‹_›
  · exact k ‹_›

theorem of_wheels {c : List Field} (h : WheelWork s t) (hf : Frame c s t) (k₀ : Field.tables ∉ c := by decide)
    (k₁ : Field.enc ∉ c := by decide) (k₂ : Field.lanes ∉ c := by decide) (k₃ : Field.vdm ∉ c := by decide)
    (k₄ : Field.phase ∉ c := by decide) (k₅ : Field.candidates ∉ c := by decide) (k₆ : Field.store ∉ c := by decide)
    (k₇ : Field.lines ∉ c := by decide) (k₈ : Field.mgu ∉ c := by decide) (k₉ : Field.image ∉ c := by decide)
    (k₁₀ : Field.trailer ∉ c := by decide) (k₁₁ : Field.handed ∉ c := by decide) : IdStep s t :=
  .of_shrunk (.of_wheels h hf k₀ k₁ k₂ k₃ k₄ k₅ k₆ k₇ k₈) (.of_frame hf k₀ k₆ k₉ k₁₀ k₅ k₁ k₁₁)

theorem raiseEvent (kind : EventKind) (row : Option Row) (value : Option Nat) (s : State) : IdStep s (raiseEvent kind row value s) :=
  .of_shrunk (.raiseEvent kind row value s) (.raiseEvent kind row value s)

theorem search (s : State) : IdStep s (search s) := .of_shrunk (search_lawful s) (.search s)

theorem settleProposal (s : State) : IdStep s (settleProposal s) := .of_shrunk (settleProposal_lawful s) (.settleProposal s)

theorem endSession (how : Ending) (s : State) : IdStep s (endSession how s) := .of_shrunk (endSession_lawful how s) (.endSession how s)

theorem sessionMoved (s : State) : IdStep s (sessionMoved s) := .ite (fun _ => .endSession _ s) fun _ => .refl s

end IdStep

/-! ### Steps of a session -/

theorem pairLegal_congr {s t : State} (htables : t.tables = s.tables) (htrailer : t.trailer = s.trailer) {p : EnrolPair}
    (h : PairLegal s p) : PairLegal t p := by
  obtain ⟨hsensor, hsource, hfree⟩ := h
  exact ⟨hsensor, fun q hq => (rowId_congr htables htrailer q).trans (hsource q hq),
    fun hnone hheld => (rowId_congr htables htrailer _).trans (hfree hnone (htables ▸ hheld))⟩

/-- The pairs may change while the session stays open on its walk. -/
theorem IdLaw.of_pairs {c : List Field} {s t : State} (h : IdLaw s) (hf : Frame c s t) (hpairs : ∀ p ∈ t.enc.pairs, PairLegal s p)
    (hopen : sessionOpen s = true) (hwalk : t.enc.walk = s.enc.walk) (k₁ : Field.tables ∉ c := by decide)
    (k₂ : Field.store ∉ c := by decide) (k₃ : Field.image ∉ c := by decide) (k₄ : Field.trailer ∉ c := by decide)
    (k₅ : Field.candidates ∉ c := by decide) (k₇ : Field.handed ∉ c := by decide) : IdLaw t := by
  have htables := hf.tables k₁
  have htrailer := hf.trailer k₄
  obtain ⟨hnow, hcaptured, himage⟩ := h.tables
  refine ⟨⟨htables ▸ hnow, fun c hc => hcaptured c (hf.store k₂ ▸ hc), fun c crc hc => himage c crc (hf.image k₃ ▸ hc)⟩, fun c hc => ?_,
    fun p hp => pairLegal_congr htables htrailer (hpairs p hp), fun _ r hr => ?_, fun x hx => h.handed x (hf.handed k₇ ▸ hx)⟩
  · rw [hf.candidates k₅] at hc
    rw [htables]
    exact h.candidates c hc
  · rw [rowUsable_congr htables htrailer]
    exact h.walk hopen r (hwalk ▸ hr)

theorem advance_law {s c : State} {i : Nat} (h : StepDone i s c) (hlaw : IdLaw c) (hopen : SessionOpenLegal s i) : IdLaw (advance i c) := by
  have hwalk : c.enc.walk = s.enc.walk := by rw [h.enc]
  have hsession : c.enc.session = some i := by rw [h.enc]; exact h.session
  have hc : sessionOpen c = true := by rw [sessionOpen, hsession]; rfl
  obtain ⟨hrows, hids, htaken⟩ := h.pairs hopen
  unfold advance
  split
  · refine Shrunk.law (.of_enc (setEnc_frame _ c) (fun _ hp => ?_) fun _ => ⟨hc, rfl⟩) hlaw
    exact hp
  · exact completeSession_law hlaw ⟨hc, hrows, hids, fun p hp => hwalk ▸ List.mem_of_mem_take (htaken p hp)⟩ i

/-- The answer of an ID that is no sensor of the session yet, as a pair of the row that the session stands at. -/
theorem acceptAnswer_step {s : State} {i : Nat} {r : Row} {id : SensorId} {source : Option Row} (hrun : s.phase = .running)
    (hsession : s.enc.session = some i) (hrow : stepRow s i = some r) (hid : s.enc.pairs.any (fun p => decide (p.id = id)) = false)
    (hpair : IdLaw s → PairLegal s { row := r, id, source }) : IdStep s (acceptAnswer i r id source s) := by
  refine ⟨acceptAnswer_lawful source hsession hrow hid hrun, fun hs hlegal => ?_⟩
  let paired := s.setEnc { s.enc with pairs := s.enc.pairs ++ [{ row := r, id, source }] }
  have hraised := raiseEvent_frame .enrolStep (stepRow paired i) (some id.toNat) paired
  have henc : (stepEvent .enrolStep i id paired).enc = paired.enc := hraised.enc
  have hf : Frame [.enc, .evq] s (stepEvent .enrolStep i id paired) :=
    ((setEnc_frame _ s).mono (by decide)).trans (hraised.mono (by decide))
  have hopen : sessionOpen s = true := (sessionOpen_iff s).2 (by rw [hsession]; exact Option.some_ne_none i)
  have hdone : StepDone i s (stepEvent .enrolStep i id paired) := by
    refine ⟨hsession, hf, fun h => ?_, by rw [henc]; rfl⟩
    rw [henc]
    exact pairs_append (p := { row := r, id, source }) hrow hid h
  obtain ⟨-, -, -, hopened⟩ := hlegal
  refine advance_law hdone (hs.of_pairs hf (fun p hp => ?_) hopen (by rw [henc]; rfl)) (hopened i hsession)
  rw [henc] at hp
  rcases List.mem_append.1 hp with hp | hp
  · exact hs.pairs p hp
  · exact List.mem_singleton.1 hp ▸ hpair hs

/-- What the class of an answer says of its ID. -/
def AnswerClass.fits (s : State) (id : SensorId) : AnswerClass → Prop
  | .enrolled q => rowId s q = some id
  | .foreign => True
  | .unknown => isSensor id = true ∧ id ∉ heldIds s.tables

theorem stepEvent_step (kind : EventKind) (i : Nat) (id : SensorId) (s : State) : IdStep s (stepEvent kind i id s) := .raiseEvent _ _ _ s

theorem isSensor_of_rowId {s : State} (h : IdLaw s) {r : Row} {x : SensorId} (hr : rowId s r = some x) : isSensor x = true := by
  obtain ⟨p, -, hp⟩ := placeOf_of_rowId hr
  exact (heldLegal_iff.1 h.tables.1.2).2 p x hp

theorem takeAnswer_step {s : State} {c : AnswerClass} {id : SensorId} (hrun : s.phase = .running) (hc : c.fits s id) :
    IdStep s (takeAnswer c id s) := by
  unfold takeAnswer
  split
  · exact .refl s
  · next i hsession =>
    split
    · exact .refl s
    · next r hrow =>
      refine .ite (fun _ => stepEvent_step _ i id s) fun hid => ?_
      have hnew := Bool.not_eq_true _ ▸ hid
      cases c with
      | foreign => exact stepEvent_step _ i id s
      | unknown => exact acceptAnswer_step hrun hsession hrow hnew fun _ => ⟨hc.1, nofun, fun _ hheld => absurd hheld hc.2⟩
      | enrolled q =>
        refine .ite (fun hq => acceptAnswer_step hrun hsession hrow hnew fun hs => ?_)
          fun _ => .ite (fun _ => acceptAnswer_step hrun hsession hrow hnew fun hs => ?_) fun _ => stepEvent_step _ i id s
        · exact ⟨isSensor_of_rowId hs hc, nofun, fun _ _ => hq ▸ hc⟩
        · exact ⟨isSensor_of_rowId hs hc, fun q' hq' => Option.some.inj hq' ▸ hc, nofun⟩

theorem stepBack_step {s : State} {i : Nat} (hsession : s.enc.session = some i) : IdStep s (stepBack i s) := by
  have hopen : sessionOpen s = true := (sessionOpen_iff s).2 (by rw [hsession]; exact Option.some_ne_none i)
  refine .of_shrunk (stepBack_lawful hsession) (.ite (fun _ => ?_) fun _ => ?_)
  · exact .of_enc (setEnc_frame _ s) (fun _ hp => hp) fun _ => ⟨hopen, rfl⟩
  · exact .of_enc (setEnc_frame _ s) (fun _ hp => List.mem_of_mem_filter hp) fun _ => ⟨hopen, rfl⟩

theorem takeTool_step {s : State} (code : Nat) (hrun : s.phase = .running) : IdStep s (takeTool code s) := by
  refine ⟨takeTool_lawful code hrun, fun hs hlegal => ?_⟩
  unfold takeTool
  split
  · exact hs
  · next i hsession =>
    split
    · have hraised := raiseEvent_frame .enrolStep (stepRow s i) none s
      have henc : (raiseEvent .enrolStep (stepRow s i) none s).enc = s.enc := hraised.enc
      obtain ⟨-, -, -, hopened⟩ := id hlegal
      refine advance_law ⟨hsession, hraised.mono (by decide), fun h => ?_, by rw [henc]⟩ ((Shrunk.raiseEvent _ _ _ s).law hs) (hopened i hsession)
      obtain ⟨-, -, -, -, -, -, hrows, hids, htaken⟩ := h
      rw [henc]
      exact ⟨hrows, hids, fun p hp => (List.take_sublist_take_left (Nat.le_succ i)).subset (htaken p hp)⟩
    · exact (IdStep.ite (fun _ => stepBack_step hsession) fun _ => .ite (fun _ => .endSession _ s) fun _ => .refl s).law hs hlegal

theorem rememberCopy_shrunk (t : TelegramRecord) {s : State} (h : sessionOpen s = true) : Shrunk s (rememberCopy t s) :=
  .of_enc (setEnc_frame _ s) (fun _ hp => hp) fun _ => ⟨h, rfl⟩

theorem handToEnc_step {act : State → State} (t : TelegramRecord) {s : State}
    (h : IdStep (rememberCopy t s) (act (rememberCopy t s))) : IdStep s (handToEnc act t s) :=
  .ite (fun hopen => .trans (.of_shrunk (rememberCopy_lawful t ((sessionOpen_iff s).1 hopen.1)) (rememberCopy_shrunk t hopen.1)) h)
    fun _ => .refl s

/-! ### The trailer -/

theorem identify_step {s : State} (k : EntryNo) (hno : s.trailer.entry? = none) : IdStep s (identify k s) :=
  ⟨identify_lawful k s, fun hs hlegal => hs.retrailered hlegal ((identify_frame_kept k s).mono (by decide)) (hs.off_trailer hno)⟩

/-- The trailer state moves while no entry is identified. -/
theorem setTrailer_step {s : State} (v : TrailerState) (w : Option Millis) (hno : s.trailer.entry? = none) :
    IdStep s (((s.setTrailer v).setWindow w).setRecog noRecog) :=
  ⟨((setTrailer_lawful v s).trans (setWindow_lawful w _)).trans (setRecog_lawful _ _), fun hs hlegal =>
    hs.retrailered hlegal (((setTrailer_frame v s).mono (by decide)).trans
      (((setWindow_frame w _).mono (by decide)).trans ((setRecog_frame _ _).mono (by decide)))) (hs.off_trailer hno)⟩

theorem connectTrailer_step (s : State) : IdStep s (connectTrailer s) :=
  .ite (fun h => setTrailer_step _ _ (by rw [h]; rfl)) fun _ => .refl s

theorem setRecog_step (v : Vector RecogEntry 4) (s : State) : IdStep s (s.setRecog v) := .of_wheels (.of_frame (setRecog_frame v s)) (setRecog_frame v s)

theorem checkRecognition_step (k : EntryNo) (s : State) : IdStep s (checkRecognition k s) :=
  .ite (fun h => (identify_step k (by rw [h.1]; rfl)).trans (.settleProposal _)) fun _ => .refl s

theorem recheckEntry_step (before : State) (k : EntryNo) (s : State) : IdStep s (recheckEntry before k s) :=
  .ite (fun _ => (setRecog_step _ s).trans (checkRecognition_step k _)) fun _ => .refl s

theorem disconnectTrailer_step (s : State) : IdStep s (disconnectTrailer s) := by
  refine ⟨disconnectTrailer_lawful s, fun hs hlegal => ?_⟩
  unfold disconnectTrailer
  split
  · exact hs
  · refine (Shrunk.settleProposal _).law (hs.trailerLost hlegal ?_)
    refine Frame.trans ?_ ((raiseEvent_frame _ _ _ _).mono (by decide))
    refine Frame.trans ?_ ((setRecog_frame _ _).mono (by decide))
    refine Frame.trans ?_ ((setWindow_frame _ _).mono (by decide))
    exact .ite ((unload_frame_kept .none s).mono (by decide)) ((setTrailer_frame .none s).mono (by decide))

theorem selectTrailer_step (k : EntryNo) (s : State) : IdStep s (selectTrailer k s) := by
  refine .ite (fun _ => .refl s) fun _ => ?_
  cases h : s.trailer.entry? with
  | none =>
    have hskip : (if s.trailer.entry?.isSome = true then sessionTrailerLost (unload .unknown s) else s) = s := by
      rw [h]
      exact if_neg Bool.false_ne_true
    rw [← h, hskip]
    exact (identify_step k h).trans (.settleProposal _)
  | some j =>
    have hlost : (if s.trailer.entry?.isSome = true then sessionTrailerLost (unload .unknown s) else s)
        = sessionTrailerLost (unload .unknown s) := by
      rw [h]
      exact if_pos rfl
    rw [← h, hlost]
    have hunloaded : IdStep s (sessionTrailerLost (unload .unknown s)) :=
      ⟨(unload_lawful .unknown s).trans (sessionTrailerLost_lawful _),
        fun hs hlegal => hs.trailerLost hlegal ((unload_frame_kept .unknown s).mono (by decide))⟩
    refine (hunloaded.trans (identify_step k ?_)).trans (.settleProposal _)
    rw [(sessionTrailerLost_frame _).trailer, unload_trailer]
    rfl

/-! ### Acceptance -/

theorem countTelegram_step (k : EntryNo) (slot : SlotNo) (t : TelegramRecord) (s : State) : IdStep s (countTelegram k slot t s) :=
  (setRecog_step _ s).trans (checkRecognition_step k _)

theorem takeCandidate_step {s : State} (t : TelegramRecord) (hid : isSensor t.id = true) (hfree : t.id ∉ heldIds s.tables) :
    IdStep s (takeCandidate t s) := by
  refine ⟨takeCandidate_lawful t s, fun hs _ => ?_⟩
  unfold takeCandidate
  split
  · next c hc =>
    have hsame : (updateCandidate s t c).id = t.id := by
      rw [updateCandidate_id]
      simpa using List.find?_some hc
    have hids := updatedCandidates_ids hsame s.candidates
    have hupdated : Shrunk s (s.setCandidates (s.candidates.map fun x => if x.id = t.id then updateCandidate s t c else x)) :=
      ⟨rfl, rfl, rfl, rfl, fun x hx => hids ▸ List.mem_map_of_mem hx, fun _ h => h, fun h => ⟨h, rfl⟩, fun _ h => h⟩
    exact (hupdated.trans (.ite (fun _ => .search _) fun _ => .refl _)).law hs
  · refine ((Shrunk.settleProposal _).trans (.search _)).law ?_
    refine ⟨hs.tables, fun c hc => ?_, hs.pairs, hs.walk, hs.handed⟩
    rcases List.mem_append.1 hc with hc | hc
    · exact hs.candidates c ((makeRoom_sublist _).subset hc)
    · rw [List.mem_singleton.1 hc]
      exact ⟨hid, hfree⟩

theorem takeEnrolled_step {s : State} {r : Row} {t : TelegramRecord} (hrun : s.phase = .running) (hr : rowId s r = some t.id) :
    IdStep s (takeEnrolled r t s) := by
  unfold takeEnrolled
  have hframe : Frame [.wheels] s (noteRssi r t s) := putWheel_frame r _ s
  have hnoted : IdStep s (noteRssi r t s) := .of_wheels (.of_putWheel_same rfl rfl rfl) hframe
  refine hnoted.trans (.ite (fun _ => .refl _) fun _ => ?_)
  refine IdStep.trans ?_ (.settleProposal _)
  have hmeasure := measure_frame r t (noteRssi r t s)
  have hmeasured : IdStep (noteRssi r t s) (measure r t (noteRssi r t s)) := .of_wheels (measure_work r t _) hmeasure
  refine hmeasured.trans (.ite (fun _ => takeAnswer_step (hmeasured.lawful.phase.trans hrun) ?_) fun _ => .refl _)
  show rowId _ r = some t.id
  rw [hmeasure.rowId, hframe.rowId]
  exact hr

theorem acceptRecord_step {s : State} {t : TelegramRecord} (hrun : s.phase = .running) (hzero : t.id ≠ 0) : IdStep s (acceptRecord t s) := by
  unfold acceptRecord
  refine .ite (fun _ => .refl s) fun _ => ?_
  unfold classify
  by_cases htool : inToolBlock t.id = true
  · rw [if_pos htool]
    exact handToEnc_step t (takeTool_step _ hrun)
  · rw [if_neg htool]
    have hsensor : isSensor t.id = true := Bool.and_eq_true_iff.2 ⟨decide_eq_true hzero, by simpa using htool⟩
    cases hholding : rowHolding s t.id with
    | some r => exact takeEnrolled_step hrun (rowHolding_eq_some hholding)
    | none =>
      have hrow : ∀ r, rowId s r ≠ some t.id := fun r hr =>
        List.find?_eq_none.1 hholding r (mem_allRows r) (decide_eq_true hr)
      cases hslots : slotsWith s t.id with
      | nil =>
        have hfree := not_mem_heldIds_of_unknown hrow hslots
        exact .ite (fun _ => handToEnc_step t (takeAnswer_step hrun ⟨hsensor, hfree⟩)) fun _ => takeCandidate_step t hsensor hfree
      | cons p rest =>
        show IdStep s (takeForeign p.1 p.2 t s)
        unfold takeForeign
        have hcounted : IdStep s (if s.trailer = .recognising ∧ (!slotCopy s p.1 p.2 t) = true then countTelegram p.1 p.2 t s else s) :=
          .ite (fun _ => countTelegram_step p.1 p.2 t s) fun _ => .refl s
        refine hcounted.trans (.ite (fun _ => handToEnc_step t (takeAnswer_step ?_ trivial)) fun _ => .refl _)
        exact hcounted.lawful.phase.trans hrun

/-! ### Vehicle data -/

theorem setVdm_shrunk (v : VehicleData) (s : State) : Shrunk s (s.setVdm v) := .of_frame (setVdm_frame v s)

theorem setSpeed_shrunk (speed : Option Nat) (s : State) : Shrunk s (setSpeed speed s) := by
  refine .ite (fun _ => .refl s) fun _ => ?_
  exact ((setVdm_shrunk _ s).trans (.of_frame (retime_frame s _))).trans (.ite (fun _ => .endSession _ _) fun _ => .refl _)

theorem reportLoad_shrunk (u : UnitName) (rep : LoadReport) (s : State) : Shrunk s (reportLoad u rep s) := .of_frame (reportLoad_frame u rep s)

theorem setConnected_step (code : Nat) (s : State) : IdStep s (setConnected code s) := by
  have hput : ∀ on, IdStep s (s.setVdm { s.vdm with connected := on }) := fun _ =>
    .of_shrunk (.setVdm_same rfl rfl) (setVdm_shrunk _ s)
  exact .ite (fun _ => (hput true).trans (connectTrailer_step _))
    fun _ => .ite (fun _ => (hput false).trans (disconnectTrailer_step _)) fun _ => .refl s

theorem takeVehicleData_step (data : List Byte) {s : State} (h : s.osc.state ≠ .dormant) : IdStep s (takeVehicleData data s) := by
  refine ⟨takeVehicleData_lawful data h, fun hs hlegal => ?_⟩
  unfold takeVehicleData
  refine (Shrunk.of_frame (notice_frame _ _)).law ((setVdm_shrunk _ _).law ?_)
  have hlift : ∀ t, Shrunk t (setLift (byteAt data 4) t) := fun t =>
    (setVdm_shrunk _ t).trans (.of_frame (liftChange_frame t _))
  refine (hlift _).law ((setConnected_step _ _).law ((reportLoad_shrunk _ _ _).law ((reportLoad_shrunk _ _ _).law
    ((setSpeed_shrunk _ _).law ((Shrunk.of_frame (frameSeen_frame s)).law hs)))) ?_)
  refine (reportLoad_lawful _ _ _).session ((reportLoad_lawful _ _ _).session ?_)
  exact ((frameSeen_lawful h).trans (setSpeed_lawful fun hd => absurd hd (frameSeen_awake h))).session hlegal

theorem frameTimeout_shrunk (s : State) : Shrunk s (frameTimeout s) := by
  refine .ite (fun _ => (setVdm_shrunk _ s).trans (.ite (fun _ => .refl _) fun _ => ?_)) fun _ => .refl s
  exact (((Shrunk.raiseEvent _ _ _ _).trans (setSpeed_shrunk _ _)).trans (reportLoad_shrunk _ _ _)).trans (reportLoad_shrunk _ _ _)

end Sys2Proof.Machine
end

section
/-! What the edits write is lawful: settings, records in range, and IDs where they may stand. -/

namespace Sys2Proof.Machine

set_option Elab.async false

/-! ### Settings (R82, R178) -/

/-- Every setting within its range. -/
abbrev SettingsRanged (v : Settings) : Prop := ∀ i : Fin 21, settingRanges[i].1 ≤ v[i] ∧ v[i] ≤ settingRanges[i].2.1

theorem ranges_ordered : ∀ i : Fin 21, settingRanges[i].1 ≤ settingRanges[i].2.1 := by decide

theorem clamp_ranged (k : Setting) (v : Nat) : settingRanges[k.item].1 ≤ k.clamp v ∧ k.clamp v ≤ settingRanges[k.item].2.1 :=
  ⟨le_max_left _ _, max_le (ranges_ordered k.item) (min_le_left _ _)⟩

theorem SettingsRanged.set {v : Settings} (h : SettingsRanged v) {j : Fin 21} {x : Nat}
    (hx : settingRanges[j].1 ≤ x ∧ x ≤ settingRanges[j].2.1) : SettingsRanged (v.set j x) := fun i => by
  by_cases hij : j = i
  · subst hij
    simpa using hx
  · have hval : j.val ≠ i.val := fun h => hij (Fin.ext h)
    have hkept : (v.set j x)[i] = v[i] := Vector.getElem_set_ne _ _ hval
    rw [hkept]
    exact h i

theorem set_getElem_of_ne {v : Settings} {j i : Setting} (h : j ≠ i) (x : Nat) : (v.set j.item x)[i.item] = v[i.item] := by
  refine Vector.getElem_set_ne _ _ fun hval => h ?_
  exact Option.some.inj ((settingOf_item j).symm.trans (hval ▸ settingOf_item i))

theorem set_getElem_same {v : Settings} {j : Setting} (x : Nat) : (v.set j.item x)[j.item] = x := Vector.getElem_set_self _

/-- The raise of a missing time below its stale time leaves both in range and in order. -/
theorem raised_missing {v : Settings} {stale missing : Setting} (hranged : SettingsRanged v) (hne : missing ≠ stale)
    (hmax : settingRanges[stale.item].2.1 ≤ settingRanges[missing.item].2.1) :
    let u := v.set missing.item (max v[missing.item] v[stale.item])
    SettingsRanged u ∧ u[stale.item] ≤ u[missing.item] := by
  intro u
  refine ⟨hranged.set ⟨(hranged missing.item).1.trans (le_max_left _ _),
    max_le (hranged missing.item).2 ((hranged stale.item).2.trans hmax)⟩, ?_⟩
  rw [set_getElem_of_ne hne, set_getElem_same]
  exact le_max_right _ _

theorem settingWrite_legal {v : Settings} (h : SettingsLegal v) (k : Setting) (x : Nat) :
    SettingsLegal (raiseMissing k (v.set k.item (k.clamp x))) := by
  obtain ⟨hranged, hmoving, hparked⟩ := h
  have hset : SettingsRanged (v.set k.item (k.clamp x)) := SettingsRanged.set hranged (clamp_ranged k x)
  by_cases hm : k = .staleMovingS ∨ k = .missingMovingS
  · have hraise : raiseMissing k (v.set k.item (k.clamp x)) = (v.set k.item (k.clamp x)).set Setting.missingMovingS.item
        (max (v.set k.item (k.clamp x))[Setting.missingMovingS.item] (v.set k.item (k.clamp x))[Setting.staleMovingS.item]) := by
      rcases hm with rfl | rfl <;> rfl
    have hne : ∀ j : Setting, j = .staleParkedS ∨ j = .missingParkedS → k ≠ j := by
      rintro j hj rfl
      rcases hm with rfl | rfl <;> rcases hj with h | h <;> cases h
    obtain ⟨hall, horder⟩ := raised_missing (stale := .staleMovingS) (missing := .missingMovingS) hset (by decide) (by decide)
    rw [hraise]
    refine ⟨hall, horder, ?_⟩
    rw [set_getElem_of_ne (j := .missingMovingS) (by decide), set_getElem_of_ne (j := .missingMovingS) (by decide),
      set_getElem_of_ne (hne _ (.inl rfl)), set_getElem_of_ne (hne _ (.inr rfl))]
    exact hparked
  by_cases hp : k = .staleParkedS ∨ k = .missingParkedS
  · have hraise : raiseMissing k (v.set k.item (k.clamp x)) = (v.set k.item (k.clamp x)).set Setting.missingParkedS.item
        (max (v.set k.item (k.clamp x))[Setting.missingParkedS.item] (v.set k.item (k.clamp x))[Setting.staleParkedS.item]) := by
      rcases hp with rfl | rfl <;> rfl
    have hne : ∀ j : Setting, j = .staleMovingS ∨ j = .missingMovingS → k ≠ j := fun j hj hk => hm (hk ▸ hj)
    obtain ⟨hall, horder⟩ := raised_missing (stale := .staleParkedS) (missing := .missingParkedS) hset (by decide) (by decide)
    rw [hraise]
    refine ⟨hall, ?_, horder⟩
    rw [set_getElem_of_ne (j := .missingParkedS) (by decide), set_getElem_of_ne (j := .missingParkedS) (by decide),
      set_getElem_of_ne (hne _ (.inl rfl)), set_getElem_of_ne (hne _ (.inr rfl))]
    exact hmoving
  · obtain ⟨hsm, hmm⟩ := not_or.1 hm
    obtain ⟨hsp, hmp⟩ := not_or.1 hp
    have hraise : raiseMissing k (v.set k.item (k.clamp x)) = v.set k.item (k.clamp x) := by
      unfold raiseMissing
      split
      · exact absurd rfl hsm
      · exact absurd rfl hmm
      · exact absurd rfl hsp
      · exact absurd rfl hmp
      · rfl
    rw [hraise]
    refine ⟨hset, ?_, ?_⟩
    · rw [set_getElem_of_ne hsm, set_getElem_of_ne hmm]
      exact hmoving
    · rw [set_getElem_of_ne hsp, set_getElem_of_ne hmp]
      exact hparked

/-! ### Thresholds (R75, R87) -/

theorem pressureLimits_legal {p : PressureLimits} (hlw : p.lw ≤ 255) (hlc : p.lc ≤ 255) (hhw : p.hw ≤ 255) : LimitsLegal p.legal :=
  ⟨min_le_left _ _, le_max_left _ _, max_le hlw hlc, hhw⟩

theorem groupLegal_withLimits {g : ThresholdGroup} (h : GroupLegal g) (load : LoadState) {p : PressureLimits} (hp : LimitsLegal p) :
    GroupLegal (g.withLimits load p) := by
  obtain ⟨hunladen, hladen, hrest⟩ := h
  cases load
  · exact ⟨hp, hladen, hrest⟩
  · exact ⟨hunladen, hp, hrest⟩

theorem groupLegal_withTemp {g : ThresholdGroup} (h : GroupLegal g) {asked : TempRequest} (himbalance : asked.imbalance ≤ 255)
    (hleak : asked.leakWarn ≤ 255) (hhyst : asked.hyst ≤ 31) : GroupLegal { g with temp := asked.legal } := by
  obtain ⟨hunladen, hladen, -⟩ := h
  refine ⟨hunladen, hladen, ?_⟩
  simp only [TempRequest.legal, clampInt]
  refine ⟨?_, ?_, himbalance, hleak, hhyst, ?_, ?_⟩ <;> omega

theorem groups_set {t : Tables} (h : ∀ j : GroupNo, GroupLegal t.groups[j]) (g : GroupNo) {x : ThresholdGroup} (hx : GroupLegal x) :
    ∀ j : GroupNo, GroupLegal (withGroup g x t).groups[j] := fun j => by
  have hat : (withGroup g x t).groups[j] = if g.val = j.val then x else t.groups[j] :=
    Vector.getElem_set g.isLt j.isLt
  rw [hat]
  split
  · exact hx
  · exact h j

/-! ### IDs written and taken away (R8) -/

theorem heldLegal_of_sub {t u : Tables} (h : HeldLegal t) (hsub : ∀ p x, idAtPlace u p = some x → idAtPlace t p = some x) : HeldLegal u := by
  obtain ⟨hinj, hsensor⟩ := heldLegal_iff.1 h
  exact heldLegal_iff.2 ⟨fun p q x hp hq => hinj p q x (hsub p x hp) (hsub q x hq), fun p x hp => hsensor p x (hsub p x hp)⟩

/-- One place is written, with an ID that stands nowhere else. -/
theorem heldLegal_of_write {t u : Tables} {pl : Place} {id : Option SensorId} (h : HeldLegal t)
    (hu : ∀ p, idAtPlace u p = if pl = p then id else idAtPlace t p)
    (hfree : ∀ x, id = some x → isSensor x = true ∧ ∀ p, idAtPlace t p = some x → pl = p) : HeldLegal u := by
  obtain ⟨hinj, hsensor⟩ := heldLegal_iff.1 h
  have hat : ∀ p x, idAtPlace u p = some x → (pl = p ∧ id = some x) ∨ (pl ≠ p ∧ idAtPlace t p = some x) := fun p x hp => by
    rw [hu] at hp
    by_cases hpl : pl = p
    · rw [if_pos hpl] at hp
      exact .inl ⟨hpl, hp⟩
    · rw [if_neg hpl] at hp
      exact .inr ⟨hpl, hp⟩
  refine heldLegal_iff.2 ⟨fun p q x hp hq => ?_, fun p x hp => ?_⟩
  · rcases hat p x hp with ⟨rfl, hid⟩ | ⟨hne, hold⟩
    · rcases hat q x hq with ⟨rfl, -⟩ | ⟨-, hold'⟩
      · rfl
      · exact (hfree x hid).2 q hold'
    · rcases hat q x hq with ⟨rfl, hid⟩ | ⟨-, hold'⟩
      · exact absurd ((hfree x hid).2 p hold) hne
      · exact hinj p q x hold hold'
  · rcases hat p x hp with ⟨-, hid⟩ | ⟨-, hold⟩
    · exact (hfree x hid).1
    · exact hsensor p x hold

/-- Where a row shows a place, a write of it is a write of the place. -/
theorem writeRowId_at {s : State} {r : Row} {pl : Place} (h : placeOf s r = some pl) (id : Option SensorId) (p : Place) :
    idAtPlace (writeRowId r id s).tables p = if pl = p then id else idAtPlace s.tables p := by
  rw [writeRowId_place, h]
  by_cases hp : pl = p
  · rw [if_pos hp, if_pos (congrArg some hp)]
  · rw [if_neg hp, if_neg fun heq => hp (Option.some.inj heq)]

theorem writeRowId_of_absent {s : State} {r : Row} (h : placeOf s r = none) (id : Option SensorId) (p : Place) :
    idAtPlace (writeRowId r id s).tables p = idAtPlace s.tables p := by
  rw [writeRowId_place, h, if_neg nofun]

theorem writeRowId_tableLaw {s : State} {r : Row} {id : Option SensorId} (h : TableLaw s.tables)
    (hnew : ∀ x, id = some x → rowUsable s r = true ∧ isSensor x = true ∧ ¬ HeldElsewhere s r x) :
    TableLaw (writeRowId r id s).tables := by
  obtain ⟨hlegal, hheld⟩ := h
  cases hplace : placeOf s r with
  | none =>
    have hsame := writeRowId_of_absent hplace id
    exact ⟨(IdsOnly.writeRowId r id s).legal hlegal fun p x hp => .inl (by rw [← hsame, hp]; exact Option.some_ne_none x),
      heldLegal_of_sub hheld fun p x hp => hsame p ▸ hp⟩
  | some pl =>
    have hat := writeRowId_at hplace id
    refine ⟨(IdsOnly.writeRowId r id s).legal hlegal fun p x hp => ?_, heldLegal_of_write hheld hat fun x hx => ?_⟩
    · rw [hat] at hp
      by_cases hpl : pl = p
      · rw [if_pos hpl] at hp
        obtain ⟨pl', hpl', husable⟩ := rowUsable_iff_place.1 (hnew x hp).1
        exact .inr (hpl ▸ Option.some.inj (hplace.symm.trans hpl') ▸ husable)
      · rw [if_neg hpl] at hp
        exact .inl (by rw [hp]; exact Option.some_ne_none x)
    · obtain ⟨-, hsensor, helsewhere⟩ := hnew x hx
      refine ⟨hsensor, fun p hp => ?_⟩
      by_contra hne
      exact helsewhere (heldElsewhere_iff_place.2 ⟨p, hp, fun heq => hne (Option.some.inj (hplace.symm.trans heq))⟩)

theorem writeRowId_heldIds {s : State} {r : Row} {id : Option SensorId} {x : SensorId} (h : x ∈ heldIds (writeRowId r id s).tables) :
    id = some x ∨ x ∈ heldIds s.tables := by
  obtain ⟨p, hp⟩ := mem_heldIds.1 h
  rw [writeRowId_place] at hp
  split at hp
  · exact .inl hp
  · exact .inr (mem_heldIds.2 ⟨p, hp⟩)

theorem emptyRows_sub {rows : List Row} {s : State} (p : Place) (x : SensorId)
    (h : idAtPlace (forRows (fun r => writeRowId r none) rows s).tables p = some x) : idAtPlace s.tables p = some x := by
  rw [emptyRows_place] at h
  split at h
  · cases h
  · exact h

/-! ### Entries of the roster (R13 to R18) -/

/-- The tables with an entry written. -/
abbrev withEntry (k : EntryNo) (e : RosterEntry) (t : Tables) : Tables := { t with roster := t.roster.set k e }

theorem withEntry_roster (k j : EntryNo) (e : RosterEntry) (t : Tables) :
    (withEntry k e t).roster[j] = if k = j then e else t.roster[j] := by
  by_cases hkj : k = j
  · subst hkj
    rw [if_pos rfl]
    exact Vector.getElem_set_self _
  · rw [if_neg hkj]
    exact Vector.getElem_set_ne k.isLt j.isLt fun h => hkj (Fin.ext h)

theorem withEntry_slot (k j : EntryNo) (i : SlotNo) (e : RosterEntry) (t : Tables) :
    idAtPlace (withEntry k e t) (.inr (j, i)) = if k = j then e.slots[i] else idAtPlace t (.inr (j, i)) := by
  rw [idAtPlace, withEntry_roster]
  split <;> rfl

theorem withEntry_base {t : Tables} {k : EntryNo} {e : RosterEntry} (h : TablesBase t) (hzero : e.tag = 0 → e = .free)
    (hunique : ∀ j, j ≠ k → e.tag ≠ 0 → t.roster[j].tag ≠ e.tag) : TablesBase (withEntry k e t) := by
  obtain ⟨hsettings, hgroups, hminimum, hmask, hbase, hfree, hempty, htags⟩ := h
  refine ⟨hsettings, hgroups, hminimum, hmask, hbase, hfree, fun j hj => ?_, fun i j hij hi => ?_⟩
  · rw [withEntry_roster] at hj ⊢
    split at hj <;> split
    · exact hzero hj
    · exact absurd ‹k = j› ‹k ≠ j›
    · exact absurd ‹k = j› ‹k ≠ j›
    · exact hempty j hj
  · rw [withEntry_roster, withEntry_roster] at hij
    rw [withEntry_roster] at hi
    by_cases hki : k = i
    · by_cases hkj : k = j
      · exact hki.symm.trans hkj
      · rw [if_pos hki, if_neg hkj] at hij
        rw [if_pos hki] at hi
        exact absurd hij.symm (hunique j (fun h => hkj h.symm) hi)
    · rw [if_neg hki] at hij hi
      by_cases hkj : k = j
      · rw [if_pos hkj] at hij
        exact absurd hij (hunique i (fun h => hki h.symm) fun hz => hi (hij.trans hz))
      · rw [if_neg hkj] at hij
        exact htags i j hij hi

/-- An entry that holds no ID anew, each where its own axle records make it usable. -/
theorem withEntry_tableLaw {t : Tables} {k : EntryNo} {e : RosterEntry} (h : TableLaw t) (hzero : e.tag = 0 → e = .free)
    (hunique : ∀ j, j ≠ k → e.tag ≠ 0 → t.roster[j].tag ≠ e.tag)
    (hslots : ∀ (i : SlotNo) x, e.slots[i] = some x → t.roster[k].slots[i] = some x ∧ slotUsable e i = true) :
    TableLaw (withEntry k e t) := by
  obtain ⟨hlegal, hheld⟩ := h
  obtain ⟨hbase, hplaces⟩ := tablesLegal_iff_places.1 hlegal
  refine ⟨tablesLegal_iff_places.2 ⟨withEntry_base hbase hzero hunique, fun p x hp => ?_⟩, heldLegal_of_sub hheld fun p x hp => ?_⟩
  · rcases p with r | ⟨j, i⟩
    · exact hplaces (.inl r) x hp
    · rw [withEntry_slot] at hp
      rw [placeUsableIn, withEntry_roster]
      by_cases hkj : k = j
      · rw [if_pos hkj] at hp ⊢
        exact (hslots i x hp).2
      · rw [if_neg hkj] at hp ⊢
        exact hplaces (.inr (j, i)) x hp
  · rcases p with r | ⟨j, i⟩
    · exact hp
    · rw [withEntry_slot] at hp
      by_cases hkj : k = j
      · rw [if_pos hkj] at hp
        exact hkj ▸ (hslots i x hp).1
      · rwa [if_neg hkj] at hp

theorem withSlot_place (k : EntryNo) (i : SlotNo) (id : Option SensorId) (t : Tables) (p : Place) :
    idAtPlace (withEntry k { t.roster[k] with slots := t.roster[k].slots.set i id } t) p
      = if Sum.inr (k, i) = p then id else idAtPlace t p := by
  rcases p with r | ⟨j, m⟩
  · rw [if_neg nofun]
    rfl
  · rw [withEntry_slot]
    by_cases hkj : k = j
    · subst hkj
      rw [if_pos rfl]
      by_cases him : i = m
      · subst him
        rw [if_pos rfl]
        exact Vector.getElem_set_self _
      · rw [if_neg fun h => him (Prod.mk.inj (Sum.inr.inj h)).2]
        exact Vector.getElem_set_ne i.isLt m.isLt fun h => him (Fin.ext h)
    · rw [if_neg hkj, if_neg fun h => hkj (Prod.mk.inj (Sum.inr.inj h)).1]

theorem withSlot_idsOnly (k : EntryNo) (i : SlotNo) (id : Option SensorId) (t : Tables) :
    IdsOnly t (withEntry k { t.roster[k] with slots := t.roster[k].slots.set i id } t) := by
  refine ⟨rfl, fun j => ?_⟩
  rw [withEntry_roster]
  by_cases hkj : k = j
  · subst hkj
    rw [if_pos rfl]
  · rw [if_neg hkj]

theorem withSlot_tableLaw {s : State} {k : EntryNo} {i : SlotNo} {id : Option SensorId} (h : TableLaw s.tables)
    (hnew : ∀ x, id = some x → isSensor x = true ∧ slotUsable s.tables.roster[k] i = true ∧ heldElsewhereSlot s k i x = false) :
    TableLaw (withEntry k { s.tables.roster[k] with slots := s.tables.roster[k].slots.set i id } s.tables) := by
  obtain ⟨hlegal, hheld⟩ := h
  have hat := withSlot_place k i id s.tables
  refine ⟨(withSlot_idsOnly k i id s.tables).legal hlegal fun p x hp => ?_, heldLegal_of_write hheld hat fun x hx => ?_⟩
  · rw [hat] at hp
    by_cases hpl : Sum.inr (k, i) = p
    · rw [if_pos hpl] at hp
      exact .inr (hpl ▸ (hnew x hp).2.1)
    · rw [if_neg hpl] at hp
      exact .inl (by rw [hp]; exact Option.some_ne_none x)
  · obtain ⟨hsensor, -, helsewhere⟩ := hnew x hx
    refine ⟨hsensor, fun p hp => ?_⟩
    by_contra hne
    refine Bool.false_ne_true (helsewhere.symm.trans (heldElsewhereSlot_iff.2 ?_))
    rcases p with r | ⟨j, m⟩
    · have hlt : r.val < 32 := Nat.lt_trans r.isLt (by decide)
      exact .inl ⟨⟨r.val, hlt⟩, r.isLt, (rowId_of_place (s := s) (placeOf_truck r.isLt)).trans hp⟩
    · exact .inr ⟨j, m, fun heq => hne (congrArg Sum.inr heq.symm), hp⟩

/-- The slots that a new axle record makes unusable lose their IDs. -/
theorem shedSlots_slot {before e : RosterEntry} {i : SlotNo} {x : SensorId} (h : (shedSlots before e).1.slots[i] = some x) :
    e.slots[i] = some x ∧ slotShed before e i = false := by
  have hat : (shedSlots before e).1.slots[i] = if slotShed before e i then none else e.slots[i] := by simp [shedSlots]
  rw [hat] at h
  split at h
  · cases h
  · exact ⟨h, Bool.not_eq_true _ ▸ ‹_›⟩

end Sys2Proof.Machine
end

section
/-! The law of identities through the requests, the saves and the resets: every step keeps it. The settlement of O59. -/

namespace Sys2Proof.Machine

set_option Elab.async false

/-! ### Tables written -/

theorem Shrunk.markDirty (s : State) : Shrunk s (markDirty s) :=
  ⟨rfl, rfl, rfl, rfl, fun _ hc => List.mem_map_of_mem hc, fun _ hp => hp, fun hopen => ⟨hopen, rfl⟩, fun _ hx => hx⟩

theorem allTables_written {law : Tables → Prop} {v : Tables} {s : State} (h : AllTables law s) (hv : law v) : AllTables law (writeTables v s) :=
  ⟨hv, h.2.1, h.2.2⟩

/-- Tables that differ from the old ones in no ID and in no axle record. -/
theorem IdLaw.retabled {s : State} {v : Tables} (h : IdLaw s) (hbase : TablesBase v) (haxles : v.axles = s.tables.axles)
    (hrows : v.rows = s.tables.rows) (hroster : ∀ k : EntryNo, v.roster[k] = { s.tables.roster[k] with tag := v.roster[k].tag }) :
    IdLaw (writeTables v s) := by
  have hplace : ∀ p, idAtPlace v p = idAtPlace s.tables p := by
    rintro (r | ⟨k, i⟩)
    · rw [idAtPlace, idAtPlace, hrows]
    · rw [idAtPlace, idAtPlace, hroster k]
  have husable : ∀ p, placeUsableIn v p = placeUsableIn s.tables p := by
    rintro (r | ⟨k, i⟩)
    · rw [placeUsableIn, placeUsableIn, haxles]
    · rw [placeUsableIn, placeUsableIn, slotUsable, slotUsable, hroster k]
  obtain ⟨hlegal, hheld⟩ := h.tables.1
  obtain ⟨-, hplaces⟩ := tablesLegal_iff_places.1 hlegal
  have hlaw : TableLaw v := ⟨tablesLegal_iff_places.2 ⟨hbase, fun p x hp => (husable p).trans (hplaces p x ((hplace p).symm.trans hp))⟩,
    heldLegal_of_sub hheld fun p x hp => (hplace p).symm.trans hp⟩
  have hids : ∀ x, x ∈ heldIds v → x ∈ heldIds s.tables := fun x hx => by
    obtain ⟨p, hp⟩ := mem_heldIds.1 hx
    exact mem_heldIds.2 ⟨p, (hplace p).symm.trans hp⟩
  have hshown : ∀ r, placeOf (writeTables v s) r = placeOf s r := placeOf_congr rfl
  have hrow : ∀ r, rowId (writeTables v s) r = rowId s r := fun r => by
    rw [rowId_eq_place, rowId_eq_place, hshown]
    cases placeOf s r with
    | none => rfl
    | some p => exact hplace p
  refine ⟨allTables_written h.tables hlaw, fun c hc => ?_, fun p hp => ?_, fun hopen r hr => ?_, h.handed⟩
  · obtain ⟨hsensor, hfree⟩ := h.candidates c hc
    exact ⟨hsensor, fun hx => hfree (hids _ hx)⟩
  · obtain ⟨hsensor, hsource, hfree⟩ := h.pairs p hp
    exact ⟨hsensor, fun q hq => (hrow q).trans (hsource q hq), fun hnone hx => (hrow _).trans (hfree hnone (hids _ hx))⟩
  · obtain ⟨p, hp, hu⟩ := rowUsable_iff_place.1 (h.walk hopen r hr)
    exact rowUsable_iff_place.2 ⟨p, (hshown r).trans hp, (husable p).trans hu⟩

/-- Without a session the tables may be written as their law allows. -/
theorem IdLaw.of_closed {s t : State} (h : IdLaw s) (hlegal : SessionLegal s) (hclosed : s.enc.session = none)
    (hpairs : t.enc.pairs = s.enc.pairs) (hsession : t.enc.session = s.enc.session) (hhanded : t.handed = s.handed)
    (hall : AllTables TableLaw t) (hcandidates : CandidateIdsLegal t) : IdLaw t := by
  obtain ⟨-, -, hnothing, -⟩ := hlegal
  obtain ⟨hnone, -⟩ := hnothing hclosed
  refine ⟨hall, hcandidates, fun p hp => ?_, fun hopen => ?_, fun x hx => h.handed x (hhanded ▸ hx)⟩
  · rw [hpairs, hnone] at hp
    exact absurd hp List.not_mem_nil
  · rw [sessionOpen, hsession, hclosed] at hopen
    exact absurd hopen Bool.false_ne_true

theorem requestSave_law {s : State} (h : IdLaw s) : IdLaw (requestSave s) := by
  have hf := requestSave_frame s
  have hall := requestSave_allTables h.tables
  generalize requestSave s = t at *
  exact ⟨hall, fun c hc => hf.tables ▸ h.candidates c (hf.candidates ▸ hc),
    fun p hp => pairLegal_congr hf.tables hf.trailer (h.pairs p (hf.enc ▸ hp)), fun hopen r hr => by
      rw [sessionOpen, hf.enc] at hopen
      rw [rowUsable_congr hf.tables hf.trailer]
      exact h.walk hopen r (hf.enc ▸ hr), fun x hx => h.handed x (hf.handed ▸ hx)⟩

theorem startSave_law {s : State} (h : IdLaw s) (hidle : s.store.state = .idle) : IdLaw (startSave s) :=
  requestSave_of_idle hidle ▸ requestSave_law h

/-! ### Settings, link, guard, tags, thresholds -/

theorem IdLaw.base {s : State} (h : IdLaw s) : TablesBase s.tables := (tablesLegal_iff_places.1 h.tables.1.1).1

theorem Shrunk.sessionMoved (s : State) : Shrunk s (sessionMoved s) := .ite (fun _ => .endSession _ s) fun _ => .refl s

theorem settingEffect_shrunk (before : State) (k : Setting) (s : State) : Shrunk s (settingEffect before k s) := by
  cases k
  case candidateAgeS => exact (Shrunk.filter_candidates _ s).trans (.settleProposal _)
  case movingSpeedKmh => exact (Shrunk.of_frame (retime_frame before s)).trans (.sessionMoved _)
  case proposalDelayS => exact .dueAfterWrite before s
  case laneEnableMask | parkLane => exact .of_frame (relane_frame s)
  all_goals exact .refl s

theorem settingWrite_law {b : State} (h : IdLaw b) (k : Setting) (v : Nat) :
    IdLaw (settingEffect b k (writeTables
      { b.tables with settings := raiseMissing k (b.tables.settings.set k.item (k.clamp v)) } b)) := by
  obtain ⟨hsettings, hrest⟩ := h.base
  exact (settingEffect_shrunk b k _).law (h.retabled ⟨settingWrite_legal hsettings k v, hrest⟩ rfl rfl fun _ => rfl)

theorem linkWrite_law {b : State} (h : IdLaw b) {l : LinkSettings} (hlegal : nodeBaseLegal l.nodeBase.toNat = true)
    (hfree : identifierTaken l.nodeBase.toNat l.vehicleId.toNat = false) : IdLaw (writeTables { b.tables with link := l } b) := by
  obtain ⟨h1, h2, h3, h4, -, -, hroster⟩ := h.base
  exact h.retabled ⟨h1, h2, h3, h4, hlegal, hfree, hroster⟩ rfl rfl fun _ => rfl

theorem groupWrite_law {b : State} (h : IdLaw b) (g : GroupNo) {x : ThresholdGroup} (hx : GroupLegal x) (rows : List Row) :
    IdLaw (reevaluate rows (writeTables (withGroup g x b.tables) b)) := by
  obtain ⟨hsettings, hgroups, hrest⟩ := h.base
  have hbase : TablesBase (withGroup g x b.tables) := ⟨hsettings, groups_set hgroups g hx, hrest⟩
  exact (Shrunk.of_frame (reevaluate_frame _ _)).law (h.retabled hbase rfl rfl fun _ => rfl)

theorem announceWrite_law {b : State} (h : IdLaw b) {a : Announce} (hmin : a.minimum ≠ .none) (hmask : maskLegal a.exclude = true) :
    IdLaw (forRows reannounce allRows (writeTables { b.tables with announce := a } b)) := by
  obtain ⟨h1, h2, -, -, hrest⟩ := h.base
  have hbase : TablesBase { b.tables with announce := a } := ⟨h1, h2, hmin, hmask, hrest⟩
  have hwritten : IdLaw (writeTables { b.tables with announce := a } b) := h.retabled hbase rfl rfl fun _ => rfl
  generalize writeTables { b.tables with announce := a } b = s at hwritten
  exact (Shrunk.of_frame (reannounceRows_frame allRows s)).law hwritten

theorem tagWrite_law {b : State} (h : IdLaw b) (k : EntryNo) {tag : BitVec 16} (hzero : tag ≠ 0)
    (hunique : ∀ j : EntryNo, j ≠ k → b.tables.roster[j].tag ≠ tag) : IdLaw (writeEntry k { b.tables.roster[k] with tag := tag } b) := by
  have hbase : TablesBase (withEntry k { b.tables.roster[k] with tag := tag } b.tables) :=
    withEntry_base h.base (fun hz => absurd hz hzero) fun j hj _ => hunique j hj
  refine h.retabled (v := withEntry k { b.tables.roster[k] with tag := tag } b.tables) hbase rfl rfl fun j => ?_
  rw [withEntry_roster]
  by_cases hkj : k = j
  · subst hkj
    rw [if_pos rfl]
  · rw [if_neg hkj]

/-! ### Rows, axles and entries, with no session -/

/-- The tables with a truck axle written, and the rows that it makes unusable emptied. -/
theorem axleWrite_tableLaw {b : State} (h : IdLaw b) (a : Fin 5) (rec : AxleRecord) :
    let written := writeTables { b.tables with axles := b.tables.axles.set a rec } b
    TableLaw (forRows (fun r => writeRowId r none) (strandedRows b written) written).tables := by
  intro written
  have hsub : ∀ p x, idAtPlace (forRows (fun r => writeRowId r none) (strandedRows b written) written).tables p = some x →
      idAtPlace b.tables p = some x := fun p x hp => emptyRows_sub (s := written) p x hp
  have honly : IdsOnly written.tables (forRows (fun r => writeRowId r none) (strandedRows b written) written).tables :=
    .foldl (fun s r => .writeRowId r none s) _ written
  have hplace := emptyRows_place (strandedRows b written) written
  obtain ⟨hlegal', hheld⟩ := h.tables.1
  obtain ⟨hbase, hplaces⟩ := tablesLegal_iff_places.1 hlegal'
  have hkept : ∀ p x, idAtPlace (forRows (fun r => writeRowId r none) (strandedRows b written) written).tables p = some x →
      placeUsableIn written.tables p = true := fun p x hp => by
    rcases p with r | ⟨k, i⟩
    · by_contra hnot
      let q : Row := ⟨r.val, Nat.lt_trans r.isLt (by decide)⟩
      have hshown : ∀ s : State, placeOf s q = some (.inl r) := fun s => placeOf_truck r.isLt
      have hwas : rowUsable b q = true := rowUsable_iff_place.2 ⟨_, hshown b, hplaces (.inl r) x (hsub _ x hp)⟩
      have hnow : rowUsable written q = false := by
        rw [← Bool.not_eq_true, rowUsable_iff_place]
        rintro ⟨p, hp', hu⟩
        exact hnot (Option.some.inj ((hshown written).symm.trans hp') ▸ hu)
      have hid : rowId written q = some x := (rowId_of_place (hshown written)).trans (hsub (.inl r) x hp)
      have hlost : q ∈ strandedRows b written := List.mem_filter.2 ⟨mem_allRows q, by rw [hwas, hnow, hid]; rfl⟩
      rw [hplace, if_pos ⟨q, hlost, hshown written⟩] at hp
      cases hp
    · exact hplaces (.inr (k, i)) x (hsub _ x hp)
  have hbase' : TablesBase written.tables := hbase
  exact ⟨tablesLegal_iff_places.2 ⟨honly.base hbase' hkept, fun p x hp => (honly.usable p).trans (hkept p x hp)⟩,
    heldLegal_of_sub hheld hsub⟩

section
variable {b : State} (h : IdLaw b) (hlegal : SessionLegal b) (hclosed : b.enc.session = none)
include h hlegal hclosed

theorem rowWrite_law {r : Row} {id : Option SensorId}
    (hnew : ∀ x, id = some x → rowUsable b r = true ∧ isSensor x = true ∧ ¬ HeldElsewhere b r x) : IdLaw (changeRow r id b) := by
  have hwritten := writeRowId_frame r id b
  have hrows := restartRows_frame [r] (dropCandidates id.toList (writeRowId r id b))
  obtain ⟨-, hcaptured, himage⟩ := h.tables
  refine (((Shrunk.of_frame hrows).trans (.markDirty _)).trans (.settleProposal _)).law ?_
  refine h.of_closed hlegal hclosed (congrArg Enrolment.pairs hwritten.enc) (congrArg Enrolment.session hwritten.enc) hwritten.handed
    ⟨writeRowId_tableLaw h.tables.1 hnew, fun c hc => hcaptured c (hwritten.store ▸ hc), fun c crc hc => himage c crc (hwritten.image ▸ hc)⟩
    fun c hc => ?_
  obtain ⟨hmem, hno⟩ := List.mem_filter.1 hc
  rw [hwritten.candidates] at hmem
  obtain ⟨hsensor, hfree⟩ := h.candidates c hmem
  refine ⟨hsensor, fun hheld => ?_⟩
  rcases writeRowId_heldIds hheld with hid | hbefore
  · exact (of_decide_eq_true hno) (by simp [hid])
  · exact hfree hbefore

theorem axleWrite_law (a : Fin 5) (rec : AxleRecord) : IdLaw (writeAxle a rec b).state := by
  have hlaw := axleWrite_tableLaw h a rec
  unfold writeAxle
  split
  · exact h
  · let written := writeTables { b.tables with axles := b.tables.axles.set a rec } b
    have hempty := emptyRows_frame (strandedRows b written) written
    have hsub : ∀ p x, idAtPlace (forRows (fun r => writeRowId r none) (strandedRows b written) written).tables p = some x →
        idAtPlace b.tables p = some x := fun p x hp => emptyRows_sub (s := written) p x hp
    refine ((Shrunk.of_frame (restartRows_frame _ _)).trans (.settleProposal _)).law ?_
    obtain ⟨-, hcaptured, himage⟩ := h.tables
    refine h.of_closed hlegal hclosed (congrArg Enrolment.pairs hempty.enc) (congrArg Enrolment.session hempty.enc) hempty.handed
      ⟨hlaw, fun c hc => hcaptured c ?_, fun c crc hc => himage c crc (hempty.image.symm.trans hc)⟩ fun c hc => ?_
    · exact (congrArg Store.captured hempty.store).symm.trans hc
    · obtain ⟨hsensor, hfree⟩ := h.candidates c (hempty.candidates ▸ hc)
      refine ⟨hsensor, fun hheld => hfree ?_⟩
      obtain ⟨p, hp⟩ := mem_heldIds.1 hheld
      exact mem_heldIds.2 ⟨p, hsub p c.id hp⟩

/-- An entry written, with no ID anew. -/
theorem entryWrite_law {k : EntryNo} {e : RosterEntry} (hzero : e.tag = 0 → e = .free)
    (hunique : ∀ j, j ≠ k → e.tag ≠ 0 → b.tables.roster[j].tag ≠ e.tag)
    (hslots : ∀ (i : SlotNo) x, e.slots[i] = some x → b.tables.roster[k].slots[i] = some x ∧ slotUsable e i = true) :
    IdLaw (writeEntry k e b) := by
  have hlaw := withEntry_tableLaw h.tables.1 hzero hunique hslots
  obtain ⟨-, hcaptured, himage⟩ := h.tables
  refine h.of_closed hlegal hclosed rfl rfl rfl ⟨hlaw, hcaptured, himage⟩ fun c hc => ?_
  obtain ⟨hsensor, hfree⟩ := h.candidates c hc
  refine ⟨hsensor, fun hheld => hfree ?_⟩
  obtain ⟨r | ⟨j, i⟩, hp⟩ := mem_heldIds.1 hheld
  · exact mem_heldIds.2 ⟨.inl r, hp⟩
  · have hat : idAtPlace (withEntry k e b.tables) (.inr (j, i)) = some c.id := hp
    rw [withEntry_slot] at hat
    split at hat
    · next hkj => exact mem_heldIds.2 ⟨.inr (j, i), hkj ▸ (hslots i c.id hat).1⟩
    · exact mem_heldIds.2 ⟨_, hat⟩

theorem slotWrite_law {k : EntryNo} {t : SlotNo} {id : Option SensorId}
    (hnew : ∀ x, id = some x → isSensor x = true ∧ slotUsable b.tables.roster[k] t = true ∧ heldElsewhereSlot b k t x = false) :
    IdLaw (dropCandidates id.toList (writeEntry k { b.tables.roster[k] with slots := b.tables.roster[k].slots.set t id } b)) := by
  have hlaw := withSlot_tableLaw h.tables.1 hnew
  have hat := withSlot_place k t id b.tables
  obtain ⟨-, hcaptured, himage⟩ := h.tables
  refine h.of_closed hlegal hclosed rfl rfl rfl ⟨hlaw, hcaptured, himage⟩ fun c hc => ?_
  obtain ⟨hmem, hno⟩ := List.mem_filter.1 hc
  obtain ⟨hsensor, hfree⟩ := h.candidates c hmem
  refine ⟨hsensor, fun hheld => ?_⟩
  obtain ⟨p, hp⟩ := mem_heldIds.1 hheld
  have hp' := (hat p).symm.trans hp
  split at hp'
  · exact (of_decide_eq_true hno) (by simp [hp'])
  · exact hfree (mem_heldIds.2 ⟨p, hp'⟩)

end

end Sys2Proof.Machine
end

section
/-! The law of identities through every request, save and reset: every step keeps it. The settlement of O59. -/

namespace Sys2Proof.Machine

set_option Elab.async false

/-! ### The acts of the owners -/

/-- An open session whose rows the map knows (R110). -/
theorem openSession_law {b : State} (h : IdLaw b) (allowMove : Bool) (hfault : walkFault b = none) : IdLaw (openSession allowMove b) := by
  have hwithdrawn := (Shrunk.withdraw b).law h
  have henc := withdraw_enc b
  have hf := withdraw_frame b
  obtain ⟨-, hgood⟩ := walk_of_noFault hfault
  have husable : ∀ r ∈ b.enc.walk, rowUsable b r = true := fun r hr => by
    obtain ⟨i, hi⟩ := List.mem_iff_getElem?.1 hr
    by_contra hnot
    refine hgood i r hi ?_
    rw [offends, Bool.or_eq_true]
    exact .inr (by simpa using hnot)
  unfold openSession
  generalize withdraw b = w at *
  refine ⟨hwithdrawn.tables, hwithdrawn.candidates, fun p hp => absurd hp List.not_mem_nil, fun _ r hr => ?_, hwithdrawn.handed⟩
  have hr' : r ∈ w.enc.walk := hr
  rw [henc] at hr'
  exact (rowUsable_congr hf.tables hf.trailer r).trans (husable r hr')

theorem acceptProposal_law {b : State} {r : Row} {id : SensorId} (h : IdLaw b) (hlegal : SessionLegal b) (hid : isSensor id = true)
    (hopen : b.enc.proposal = some (r, id)) (hheld : (rowId b r).isSome = true) (hlisted : id ∈ b.candidates.map Candidate.id) :
    IdLaw (acceptProposal r id b) := by
  have hclosed : b.enc.session = none := by
    by_contra hne
    obtain ⟨i, hi⟩ := Option.ne_none_iff_exists'.1 hne
    obtain ⟨-, -, -, hopened⟩ := hlegal
    obtain ⟨-, -, -, -, -, hproposal, -⟩ := hopened i hi
    exact Option.some_ne_none _ (hopen.symm.trans hproposal)
  let noProposal := b.setEnc { b.enc with proposal := none }
  have husable : rowUsable noProposal r = true := by
    obtain ⟨x, hx⟩ := Option.isSome_iff_exists.1 hheld
    obtain ⟨p, hp, hat⟩ := placeOf_of_rowId hx
    exact rowUsable_iff_place.2 ⟨p, hp, (tablesLegal_iff_places.1 h.tables.1.1).2 p x hat⟩
  have hfree : id ∉ heldIds b.tables := by
    obtain ⟨c, hc, rfl⟩ := List.mem_map.1 hlisted
    exact (h.candidates c hc).2
  have helsewhere : ¬ HeldElsewhere noProposal r id := fun hheld => by
    obtain ⟨p, hp, -⟩ := heldElsewhere_iff_place.1 hheld
    exact hfree (mem_heldIds.2 ⟨p, hp⟩)
  have hlaw : TableLaw (writeRowId r (some id) noProposal).tables :=
    writeRowId_tableLaw (s := noProposal) h.tables.1 fun x hx => Option.some.inj hx ▸ ⟨husable, hid, helsewhere⟩
  have hwritten := writeRowId_frame r (some id) noProposal
  have hids : ∀ x, x ∈ heldIds (writeRowId r (some id) noProposal).tables → id = x ∨ x ∈ heldIds b.tables := fun x hx =>
    (writeRowId_heldIds (s := noProposal) hx).imp_left Option.some.inj
  have hrest : ∀ t, IdLaw t → IdLaw (search (raiseEvent .proposalAccepted (some r) (some id.toNat) (requestSave (markDirty (restartRows [r] t))))) :=
    fun t ht => ((Shrunk.raiseEvent _ _ _ _).trans (.search _)).law
      (requestSave_law (((Shrunk.of_frame (restartRows_frame [r] t)).trans (.markDirty _)).law ht))
  have hpairs : (writeRowId r (some id) noProposal).enc.pairs = b.enc.pairs := (congrArg Enrolment.pairs hwritten.enc).trans rfl
  have hsession : (writeRowId r (some id) noProposal).enc.session = b.enc.session := (congrArg Enrolment.session hwritten.enc).trans rfl
  obtain ⟨-, hcaptured, himage⟩ := h.tables
  refine hrest _ (h.of_closed hlegal hclosed hpairs hsession hwritten.handed ⟨hlaw, fun c hc => hcaptured c ?_, fun c crc hc => himage c crc ?_⟩
    fun c hc => ?_)
  · exact (congrArg Store.captured hwritten.store).symm.trans hc
  · exact hwritten.image.symm.trans hc
  · obtain ⟨hmem, hno⟩ := List.mem_filter.1 hc
    rw [hwritten.candidates] at hmem
    obtain ⟨hsensor, hfree'⟩ := h.candidates c hmem
    refine ⟨hsensor, fun hheld => ?_⟩
    rcases hids _ hheld with rfl | hbefore
    · exact (of_decide_eq_true hno) (List.mem_singleton_self _)
    · exact hfree' hbefore

theorem clearFollows_law {s : State} {k : EntryNo} (h : IdLaw s) (hlegal : SessionLegal s) (hclosed : s.enc.session = none) :
    IdLaw (clearFollows k s) := by
  unfold clearFollows
  split
  · exact ((Shrunk.raiseEvent _ _ _ _).trans (.settleProposal _)).law
      (h.retrailered hlegal ((unload_frame_kept .unknown s).mono (by decide)) (sessionOnTrailer_of_closed hclosed))
  · split
    · exact (setRecog_step _ s).law h hlegal
    · exact h

theorem axleFollows_step (before : State) (k : EntryNo) (s : State) : IdStep s (axleFollows before k s) := by
  refine ⟨axleFollows_lawful before k s, fun h hlegal => ?_⟩
  unfold axleFollows
  split
  · exact (((Shrunk.of_frame (restartRows_frame _ s)).trans (.of_frame (liftChange_frame before _))).trans (.settleProposal _)).law h
  · exact (recheckEntry_step before k s).law h hlegal

theorem slotFollows_step (before : State) (k : EntryNo) (t : SlotNo) (s : State) : IdStep s (slotFollows before k t s) := by
  refine ⟨slotFollows_lawful before k t s, fun h hlegal => ?_⟩
  refine (Shrunk.settleProposal _).law ?_
  split
  · exact (Shrunk.of_frame (restartRows_frame _ s)).law h
  · exact (recheckEntry_step before k s).law h hlegal

theorem setWalk_shrunk {b : State} (walk : List Row) (hclosed : b.enc.session = none) : Shrunk b (b.setEnc { b.enc with walk := walk }) := by
  refine .of_enc (setEnc_frame _ b) (fun _ hp => hp) fun hopen => ?_
  have hopen' : b.enc.session.isSome = true := hopen
  rw [hclosed] at hopen'
  exact absurd hopen' Bool.false_ne_true

/-- What a proposal open before an act says of its row and its candidate. -/
abbrev ProposalStands (b : State) : Prop :=
  ∀ r id, b.enc.proposal = some (r, id) → (rowId b r).isSome = true ∧ id ∈ b.candidates.map Candidate.id

theorem Act.law {b u : State} (hact : Act b u) (h : IdLaw b) (hlegal : SessionLegal b)
    (hstands : ProposalStands b) : IdLaw u := by
  cases hact
  case nothing => exact h
  case setting k v => exact settingWrite_law h k v
  case link l hbase hfree => exact linkWrite_law h hbase hfree
  case guard level => exact requestSave_law (h.retabled h.base rfl rfl fun _ => rfl)
  case freeze => exact ((Shrunk.of_frame (setMgu_frame _ b)).trans (.endSession _ _)).law h
  case offline hclosed => exact (Shrunk.enterState _ b).law h
  case active hoff =>
    exact (((Shrunk.of_frame (restartRows_frame _ b)).trans (.enterState _ _)).trans (.settleProposal _)).law h
  case save hidle => exact startSave_law h hidle
  case axle a rec hoff => exact axleWrite_law h hlegal (hlegal.closed (by rw [hoff]; decide)) a rec
  case writeRow r id hclosed habsent hid husable helsewhere =>
    refine rowWrite_law h hlegal hclosed fun x hx => Option.some.inj hx ▸ ⟨husable, hid, fun hheld => ?_⟩
    have hplace : r.val < 20 ∨ ∃ k, b.trailer = .identified k := by
      by_contra hno
      obtain ⟨htrailer, hnone⟩ := not_or.1 hno
      rw [rowAbsent, Bool.and_eq_false_iff, isTrailerRow_eq_false] at habsent
      rcases habsent with htruck | hsome
      · exact htrailer htruck
      · generalize b.trailer = v at hsome hnone
        cases v
        case identified k => exact hnone ⟨k, rfl⟩
        all_goals cases hsome
    exact Bool.false_ne_true (helsewhere.symm.trans ((heldElsewhereRow_iff hplace).2 hheld))
  case clearRow r hclosed habsent => exact rowWrite_law h hlegal hclosed nofun
  case tag k tag hzero hunique => exact tagWrite_law h k hzero hunique
  case entryAxle k a rec hclosed hfree =>
    obtain ⟨-, hplaces⟩ := tablesLegal_iff_places.1 h.tables.1.1
    obtain ⟨-, -, -, -, -, -, -, htags⟩ := h.base
    refine (axleFollows_step b k _).law (entryWrite_law h hlegal hclosed (fun hz => absurd hz hfree) (fun j hj hne htag => ?_)
      fun i x hx => ?_) ((writeEntry_lawful k _ b).session hlegal)
    · exact hj (htags j k htag (htag ▸ hne))
    · obtain ⟨hat, hshed⟩ := shedSlots_slot hx
      refine ⟨hat, ?_⟩
      have hwas : slotUsable b.tables.roster[k] i = true := hplaces (.inr (k, i)) x hat
      rw [slotShed, hwas, Bool.true_and, Bool.not_eq_false'] at hshed
      exact hshed
  case slot k t id hclosed hfree hnew =>
    have hentry := writeEntry_lawful k { b.tables.roster[k] with slots := b.tables.roster[k].slots.set t id } b
    exact (slotFollows_step b k t _).law (slotWrite_law h hlegal hclosed hnew)
      ((dropCandidates_lawful _ _).session (hentry.session hlegal))
  case rosterClear k hclosed =>
    have hcleared : IdLaw (writeEntry k .free b) := entryWrite_law h hlegal hclosed (fun _ => rfl) (fun _ _ hne => absurd rfl hne) fun i x hx => by
      simp [RosterEntry.free] at hx
    exact clearFollows_law hcleared ((writeEntry_lawful k .free b).session hlegal) hclosed
  case select k htrailer hwalk hfree => exact (selectTrailer_step k b).law h hlegal
  case limits g load asked hlw hlc hhw =>
    exact groupWrite_law h g (groupLegal_withLimits (h.base.2.1 g) load (pressureLimits_legal hlw hlc hhw)) _
  case temperatures g asked himbalance hleak hhyst => exact groupWrite_law h g (groupLegal_withTemp (h.base.2.1 g) himbalance hleak hhyst) _
  case announce a hmin hmask => exact announceWrite_law h hmin hmask
  case order start rows hclosed hlen => exact (setWalk_shrunk _ hclosed).law h
  case start allowMove hactive hclosed hfault => exact openSession_law h allowMove hfault
  case cancel => exact (Shrunk.endSession _ b).law h
  case accept r id hid hopen =>
    obtain ⟨hheld, hlisted⟩ := hstands r id hopen
    exact acceptProposal_law h hlegal hid hopen hheld hlisted
  case reject r id hopen =>
    refine (Shrunk.trans (.of_proposal (setEnc_frame _ b) rfl) (Shrunk.trans (.of_frame (putEpisode_frame _ _ _))
      ((Shrunk.raiseEvent _ _ _ _).trans (.search _)))).law h
  case laneFlags mask => exact (Shrunk.of_frame (setLanes_frame _ b)).law h
  case event =>
    have htaken : Shrunk b (b.setEvq (takeEvent b.evq)) :=
      ⟨rfl, rfl, rfl, rfl, fun _ hc => List.mem_map_of_mem hc, fun _ hp => hp, fun ho => ⟨ho, rfl⟩, fun _ hx => hx⟩
    exact htaken.law h
  case snapshot => exact (Shrunk.of_frame (setLink_frame _ b)).law h

/-! ### Resets and saves -/

theorem allTables_congr {law : Tables → Prop} {s t : State} (htables : t.tables = s.tables) (hcaptured : t.store.captured = s.store.captured)
    (himage : t.image = s.image) (h : AllTables law s) : AllTables law t := by
  obtain ⟨hnow, hsaved, hwritten⟩ := h
  exact ⟨htables ▸ hnow, fun c hc => hsaved c (hcaptured ▸ hc), fun c crc hc => hwritten c crc (himage ▸ hc)⟩

theorem enterStarting_allTables {law : Tables → Prop} (hfactory : law .factory) (before : Link) {s : State}
    (himage : ∀ c crc, s.image = .written c crc → law c) : AllTables law (enterStarting before s) := by
  have h := enterStarting_restarting before s
  by_cases hvalid : ∃ c, s.image = imageOf c
  · obtain ⟨c, hc⟩ := hvalid
    obtain ⟨htables, hstore, -⟩ := h.loaded c hc
    refine ⟨by rw [htables]; exact himage c _ hc, fun d hd => ?_, fun d crc hd => himage d crc (h.image.symm.trans hd)⟩
    rw [hstore] at hd
    cases hd
  · obtain ⟨htables, hstore, -⟩ := h.notLoaded (not_exists.1 hvalid)
    refine ⟨by rw [htables]; exact hfactory, fun d hd => ?_, fun d crc hd => himage d crc (h.image.symm.trans hd)⟩
    rw [hstore] at hd
    cases hd

/-- Nothing that a reset clears breaks the law of identities. -/
theorem IdLaw.of_cleared {t : State} (hall : AllTables TableLaw t) (hcandidates : t.candidates = []) (henc : t.enc = .reset)
    (hhanded : t.handed = []) : IdLaw t := by
  refine ⟨hall, fun c hc => ?_, fun p hp => ?_, fun hopen => ?_, fun x hx => ?_⟩
  · rw [hcandidates] at hc
    exact absurd hc List.not_mem_nil
  · rw [henc] at hp
    exact absurd hp List.not_mem_nil
  · rw [sessionOpen, henc] at hopen
    exact absurd hopen Bool.false_ne_true
  · rw [hhanded] at hx
    exact absurd hx List.not_mem_nil

theorem enterStarting_law (before : Link) {s : State} (himage : ∀ c crc, s.image = .written c crc → TableLaw c) :
    IdLaw (enterStarting before s) := by
  have h := enterStarting_restarting before s
  refine .of_cleared (enterStarting_allTables ⟨factory_tablesLegal, factory_heldLegal⟩ before himage) h.candidates h.enc ?_
  rw [enterStarting_eq, (startingFrom_frame _ _).handed, (loadTables_frame _).handed]
  rfl

theorem clearVolatile_law {s : State} (p : Phase) (h : AllTables TableLaw s) : IdLaw ((clearVolatile s).setPhase p) := by
  obtain ⟨htables, -, himage⟩ := h
  rw [clearVolatile_eq]
  exact .of_cleared ⟨htables, nofun, himage⟩ rfl rfl rfl

theorem cutSave_allTables {law : Tables → Prop} {s : State} (h : AllTables law s) : AllTables law (cutSave s) := by
  obtain ⟨htables, hcaptured, himage⟩ := h
  unfold cutSave
  split
  · exact ⟨htables, hcaptured, nofun⟩
  · exact ⟨htables, hcaptured, himage⟩

theorem warmReset_law {s : State} (h : IdLaw s) : IdLaw (warmReset s) := enterStarting_law _ h.tables.2.2

theorem coldReset_law {s : State} (h : IdLaw s) : IdLaw (coldReset s) := by
  obtain ⟨-, -, himage⟩ := cutSave_allTables h.tables
  exact enterStarting_law _ himage

/-- The save moves, and what it captured stays. -/
theorem Shrunk.of_store {c : List Field} {s t : State} (h : Frame c s t) (hcaptured : t.store.captured = s.store.captured)
    (k₁ : Field.tables ∉ c := by decide) (k₃ : Field.image ∉ c := by decide) (k₄ : Field.trailer ∉ c := by decide)
    (k₅ : Field.candidates ∉ c := by decide) (k₆ : Field.enc ∉ c := by decide) (k₇ : Field.handed ∉ c := by decide) : Shrunk s t := by
  have henc := h.enc k₆
  refine ⟨h.tables k₁, hcaptured, h.image k₃, h.trailer k₄, fun c hc => ?_, fun p hp => henc ▸ hp, fun hopen => ?_, fun x hx => h.handed k₇ ▸ hx⟩
  · rw [h.candidates k₅] at hc
    exact List.mem_map_of_mem hc
  · rw [sessionOpen, henc] at hopen
    exact ⟨hopen, by rw [henc]⟩

theorem crankAssert_shrunk (s : State) : Shrunk s (crankAssert s) := by
  refine .of_store (crankAssert_frame s) ?_
  unfold crankAssert
  dsimp only
  split <;> rfl

theorem crankRelease_shrunk (s : State) : Shrunk s (crankRelease s) := by
  refine .of_store (crankRelease_frame s) ?_
  unfold crankRelease
  dsimp only
  split <;> rfl

theorem resumeExpiry_shrunk (s : State) : Shrunk s (resumeExpiry s) := by
  refine .of_store (resumeExpiry_frame s) ?_
  unfold resumeExpiry
  split <;> rfl

theorem spendWriteTime_shrunk (s : State) : Shrunk s (spendWriteTime s) := by
  refine .of_store (spendWriteTime_frame s) ?_
  unfold spendWriteTime
  split <;> rfl

theorem takeDeferredOffline_shrunk (s : State) : Shrunk s (takeDeferredOffline s) := .of_frame (takeDeferredOffline_frame s)

theorem completeSave_law {s : State} {c : Tables} (h : IdLaw s) (hc : s.store.captured = some c) : IdLaw (completeSave c s) := by
  have hdone : completeSave c s = takeDeferredRestart (takeDeferredOffline (savedAgain c s)) := rfl
  obtain ⟨htables, hcaptured, himage⟩ := h.tables
  have hlaw : TableLaw c := hcaptured c hc
  have hsaved := savedState_frame c s
  have hstate : IdLaw (savedState c s) := by
    refine ⟨⟨hsaved.tables ▸ htables, fun d hd => ?_, fun d crc hd => ?_⟩, fun x hx => hsaved.tables ▸ h.candidates x (hsaved.candidates ▸ hx),
      fun p hp => pairLegal_congr hsaved.tables hsaved.trailer (h.pairs p (hsaved.enc ▸ hp)), fun hopen r hr => ?_,
      fun x hx => h.handed x (hsaved.handed ▸ hx)⟩
    · cases hd
    · obtain ⟨rfl, -⟩ := Image.written.inj hd
      exact hlaw
    · rw [sessionOpen, hsaved.enc] at hopen
      rw [rowUsable_congr hsaved.tables hsaved.trailer]
      exact h.walk hopen r (hsaved.enc ▸ hr)
  have hagain : IdLaw (savedAgain c s) := by
    unfold savedAgain
    split
    · exact startSave_law hstate rfl
    · exact hstate
  rw [hdone]
  have hoffline := (takeDeferredOffline_shrunk _).law hagain
  unfold takeDeferredRestart
  split
  · exact warmReset_law hoffline
  · exact hoffline

theorem Deferral.law {b u : State} (h : Deferral b u) (hb : IdLaw b) : IdLaw u := by
  cases h
  case restart => exact warmReset_law hb
  case restartLater tag _ => exact (Shrunk.of_frame (setMgu_frame _ b)).law hb
  case offlineLater tag _ _ _ => exact (Shrunk.of_frame (setOsc_frame _ b)).law hb

/-! ### Every step -/

theorem proposalStands_of_safe {s : State} (h : Safe s) (hrun : s.phase = .running) : ProposalStands s := by
  obtain ⟨-, -, -, -, hproposal, hwheels, -⟩ := h
  intro r id hopen
  obtain ⟨hmissing, hlisted⟩ := hproposal _ hopen
  obtain ⟨-, -, -, hvacant, -⟩ := hwheels r
  refine ⟨?_, hlisted⟩
  rw [Option.isSome_iff_ne_none]
  intro hnone
  exact absurd (((hvacant hrun).2 hnone).symm.trans hmissing) (by decide)

theorem takeOff_shrunk (s : State) : Shrunk s (takeOff s) := .of_frame (takeOff_frame s)

theorem takeOff_session {s : State} (h : SessionLegal s) : SessionLegal (takeOff s) := (takeOff_lawful s).session h

theorem takeOff_stands {s : State} (h : ProposalStands s) : ProposalStands (takeOff s) := by
  have hf := takeOff_frame s
  intro r id hopen
  rw [hf.enc] at hopen
  rw [rowId_congr hf.tables hf.trailer, hf.candidates]
  exact h r id hopen

theorem Work.law {s t : State} (h : Work s t) (hsafe : Safe s) (hrun : s.phase = .running) : IdLaw t := by
  have hs := idLaw_of_safe hsafe
  have hstands := takeOff_stands (proposalStands_of_safe hsafe hrun)
  have htaken := (takeOff_shrunk s).law hs
  obtain ⟨-, -, -, hlegal, -⟩ := hsafe
  have hlegal' := takeOff_session hlegal
  have hrun' : (takeOff s).phase = .running := (takeOff_frame s).phase.trans hrun
  cases h
  case nothing => exact hs
  case ignition on => exact (Shrunk.of_frame (ignitionTo_frame on s)).law hs
  case crankOn => exact (crankAssert_shrunk s).law hs
  case crankOff => exact (crankRelease_shrunk s).law hs
  case resume => exact (resumeExpiry_shrunk s).law hs
  case saved c hc _ => exact completeSave_law hs hc
  case loaded | sleeps => exact (Shrunk.enterState _ s).law hs
  case parks => exact (Shrunk.of_frame (parkDelayDone_frame s)).law hs
  case bit hmoved =>
    have hf := hmoved.frame
    exact ⟨allTables_congr hf.tables (congrArg Store.captured hf.store) hf.image hs.tables, fun c hc => hf.tables ▸ hs.candidates c (hf.candidates ▸ hc),
      fun p hp => pairLegal_congr hf.tables hf.trailer (hs.pairs p (hf.enc ▸ hp)), fun hopen r hr => by
        rw [sessionOpen, hf.enc] at hopen
        rw [rowUsable_congr hf.tables hf.trailer]
        exact hs.walk hopen r (hf.enc ▸ hr), fun x hx => (hmoved.handed x hx).elim (hs.handed x) id⟩
  case link hmoved => exact (Shrunk.of_frame hmoved.frame).law hs
  case record x rest hx hrest =>
    have hless : Shrunk s (s.setHanded rest) :=
      ⟨rfl, rfl, rfl, rfl, fun _ hc => List.mem_map_of_mem hc, fun _ hp => hp, fun ho => ⟨ho, rfl⟩, fun _ hy => hrest.subset hy⟩
    exact (acceptRecord_step (s := s.setHanded rest) hrun (hs.handed x hx)).law (hless.law hs) hlegal
  case window hrec =>
    have hstep := setTrailer_step (s := s) .unknown none (by rw [hrec]; rfl)
    exact (Shrunk.raiseEvent _ _ _ _).law (hstep.law hs hlegal)
  case aged keeps => exact ((Shrunk.filter_candidates keeps s).trans (.settleProposal _)).law hs
  case stale r _ => exact (Shrunk.of_frame (goStale_frame r s)).law hs
  case missing r _ => exact (Shrunk.of_frame (goMissing_frame r s)).law hs
  case repeats r => exact (Shrunk.of_frame (alertRepeatExpiry_frame r s)).law hs
  case due r => exact (Shrunk.trans (.of_frame (putEpisode_frame r _ s)) (.search _)).law hs
  case stepTimeout => exact (Shrunk.endSession _ s).law hs
  case vehicle data hawake _ =>
    have hf := fixRate_frame s
    exact (takeVehicleData_step data (by rwa [hf.osc])).law ((Shrunk.of_frame hf).law hs) (sessionLegal_congr hf.enc hf.phase (by rw [hf.osc]) hlegal)
  case frameTimeout => exact (frameTimeout_shrunk s).law hs
  case settle u load => exact (Shrunk.of_frame (applyLoad_frame u load s)).law hs
  case request code tag result bytes _ hact =>
    exact (Shrunk.of_frame (respond_frame code tag result bytes _)).law (hact.law htaken hlegal' hstands)
  case defers _ hlater => exact hlater.law htaken

theorem Effect.law {s t : State} (h : Effect s t) (hsafe : Safe s) : IdLaw t := by
  have hs := idLaw_of_safe hsafe
  cases h
  case works hrun hwork => exact hwork.law hsafe hrun
  case stopped => exact hs
  case lines l _ => exact (Shrunk.of_frame (setLines_frame l s)).law hs
  case cold => exact coldReset_law hs
  case loss => exact clearVolatile_law .off (cutSave_allTables hs.tables)
  case asserted => exact clearVolatile_law .inReset (cutSave_allTables hs.tables)
  case released => exact enterStarting_law _ hs.tables.2.2

theorem tick_shrunk (s : State) : Shrunk s (tick s) := by
  unfold tick
  split
  · exact .refl s
  · exact .of_frame (setClock_frame _ s)
  · exact ((Shrunk.of_frame (setClock_frame _ s)).trans (.of_frame (growEpisodes_frame _))).trans (spendWriteTime_shrunk _)

theorem safe_setPending {s : State} {l : List Instr} (h : Safe s) : Safe (s.setPending l) := h

theorem step_idLaw {s t : State} (hsafe : Safe s) (h : step s = .next t) : IdLaw t := by
  rcases step_cases h with ⟨-, rfl⟩ | ⟨c, rest, -, heffect⟩
  · exact (tick_shrunk s).law (idLaw_of_safe hsafe)
  · exact heffect.law (safe_setPending hsafe)

/-- Settles O59: each edit writes values in range and IDs where they are usable; no other step writes a table. -/
theorem tablesStayInRange : Obligations.TablesStayInRange := fun _ _ hsafe h => (allTables_and.1 (step_idLaw hsafe h).tables).1

end Sys2Proof.Machine
end

section
/-! The laws of the wheel records through every operation on them (R7, R70, R79, R95, R103). -/

namespace Sys2Proof.Machine

set_option Elab.async false

/-- The laws of the records, whatever the IDs; those of announcements outside `D`. -/
structure WheelLaws (D : Row → Prop) (s : State) : Prop where
  ring : ∀ r, RingLegal (s.wheel r).ring
  announced : ∀ r, ¬ D r → AnnouncedLegal s r
  imbalance : ∀ r, ImbalanceLegal s r
  vacant : ∀ r, (s.wheel r).status = .vacant → (s.wheel r).active = 0

theorem WheelLaws.mono {D E : Row → Prop} {s : State} (h : WheelLaws D s) (hDE : ∀ r, D r → E r) : WheelLaws E s :=
  ⟨h.ring, fun r hr => h.announced r (mt (hDE r) hr), h.imbalance, h.vacant⟩

/-- A record that differs in nothing that its laws read. -/
structure Calm (w v : WheelRecord) : Prop where
  active : v.active = w.active
  announced : v.announced = w.announced
  vacant : v.status = .vacant ↔ w.status = .vacant
  ring : RingLegal w.ring → RingLegal v.ring

theorem Calm.refl (w : WheelRecord) : Calm w w := ⟨rfl, rfl, .rfl, id⟩

/-- An operation that keeps the laws of the records, and makes no row vacant or in use. -/
structure WheelStep (s t : State) : Prop where
  vacant : ∀ r, (t.wheel r).status = .vacant ↔ (s.wheel r).status = .vacant
  laws : ∀ D, WheelLaws D s → WheelLaws D t

namespace WheelStep

variable {s t u : State}

theorem trans (h : WheelStep s t) (k : WheelStep t u) : WheelStep s u :=
  ⟨fun r => (k.vacant r).trans (h.vacant r), fun D hD => k.laws D (h.laws D hD)⟩

theorem of_calm (h : ∀ r, Calm (s.wheel r) (t.wheel r)) (ha : t.tables.announce = s.tables.announce) : WheelStep s t := by
  refine ⟨fun r => (h r).vacant, fun D hD => ⟨fun r => (h r).ring (hD.ring r), fun r hr => ?_, fun r => ?_, fun r hr => ?_⟩⟩
  · rw [AnnouncedLegal, (h r).announced, (h r).active, ha]
    exact hD.announced r hr
  · rw [ImbalanceLegal, (h r).active, (h (partner r)).active]
    exact hD.imbalance r
  · rw [(h r).active]
    exact hD.vacant r (((h r).vacant).1 hr)

theorem of_frame {c : List Field} (h : Frame c s t) (k₁ : Field.wheels ∉ c := by decide) (k₂ : Field.tables ∉ c := by decide) : WheelStep s t :=
  .of_calm (fun r => by rw [h.wheel r k₁]; exact .refl _) (by rw [h.tables k₂])

theorem refl (s : State) : WheelStep s s := .of_frame (.refl [] s)

theorem ite {p : Prop} [Decidable p] (h : p → WheelStep s t) (k : ¬ p → WheelStep s u) : WheelStep s (if p then t else u) := by
  split
  · exact h ‹_›
  · exact k ‹_›

theorem putWheel {r : Row} {w : WheelRecord} (h : Calm (s.wheel r) w) : WheelStep s (putWheel r w s) := by
  refine .of_calm (fun q => ?_) rfl
  rw [putWheel_wheel]
  split
  · next hq => exact hq ▸ h
  · exact .refl _

theorem raiseEvent (kind : EventKind) (row : Option Row) (value : Option Nat) (s : State) : WheelStep s (raiseEvent kind row value s) :=
  .of_frame (raiseEvent_frame kind row value s)

theorem forRows {f : Row → State → State} (h : ∀ r s, WheelStep s (f r s)) (rows : List Row) (s : State) : WheelStep s (forRows f rows s) := by
  induction rows generalizing s with
  | nil => exact .refl s
  | cons r rows ih => exact (h r s).trans (ih (f r s))

end WheelStep

/-! ### Judged, then announced -/

namespace WheelLaws

variable {D : Row → Prop} {P : Row → Prop} {s t : State}

theorem judged (h : WheelLaws D s) (k : Judging P s t) : WheelLaws (fun q => D q ∨ P q) t := by
  refine ⟨fun r => ?_, fun r hr => ?_, k.imbalance h.imbalance, fun r hr => ?_⟩
  · have hring : (t.wheel r).ring = (s.wheel r).ring := by rw [k.rejudged r]
    exact hring ▸ h.ring r
  · obtain ⟨hD, hP⟩ := not_or.1 hr
    rw [AnnouncedLegal, k.outside r hP, k.frame.tables]
    exact h.announced r hD
  · have hvacant := (k.rejudged r).status.symm.trans hr
    exact k.vacant r hvacant (h.vacant r hvacant)

theorem judged_mono (h : WheelLaws D s) (k : Judging P s t) (hP : ∀ q, P q → D q) : WheelLaws D t :=
  (h.judged k).mono fun q hq => hq.elim id (hP q)

theorem reannounce (h : WheelLaws D s) (r : Row) : WheelLaws (fun q => D q ∧ q ≠ r) (reannounce r s) := by
  have hreading := fun q => reannounce_reading r q s
  have hactive := fun q => reannounce_active r q s
  have htables := (reannounce_frame r s).tables
  refine ⟨fun q => ?_, fun q hq => ?_, fun q => ?_, fun q hv => ?_⟩
  · have hring : ((Machine.reannounce r s).wheel q).ring = (s.wheel q).ring := by rw [hreading q]
    exact hring ▸ h.ring q
  · by_cases hqr : q = r
    · subst hqr
      rw [AnnouncedLegal, reannounce_announced, hactive, htables]
    · rw [AnnouncedLegal, reannounce_other hqr, htables]
      exact h.announced q fun hD => hq ⟨hD, hqr⟩
  · rw [ImbalanceLegal, hactive, hactive]
    exact h.imbalance q
  · rw [hactive]
    exact h.vacant q ((hreading q).status.symm.trans hv)

theorem reannounceRows (h : WheelLaws D s) (rows : List Row) : WheelLaws (fun q => D q ∧ q ∉ rows) (forRows Machine.reannounce rows s) := by
  induction rows generalizing D s with
  | nil => exact h.mono fun q hq => ⟨hq, List.not_mem_nil⟩
  | cons r rows ih =>
    refine (ih (h.reannounce r)).mono fun q hq => ?_
    obtain ⟨⟨hD, hne⟩, hrows⟩ := hq
    exact ⟨hD, fun hmem => (List.mem_cons.1 hmem).elim hne hrows⟩

end WheelLaws

theorem reannounce_vacant (r q : Row) (s : State) : ((reannounce r s).wheel q).status = .vacant ↔ (s.wheel q).status = .vacant := by
  rw [(reannounce_reading r q s).status]

theorem reannounce_step (r : Row) (s : State) : WheelStep s (reannounce r s) :=
  ⟨fun q => reannounce_vacant r q s, fun _ hD => (hD.reannounce r).mono fun _ hq => hq.1⟩

theorem Judging.vacant_iff {P : Row → Prop} {s t : State} (h : Judging P s t) (r : Row) :
    (t.wheel r).status = .vacant ↔ (s.wheel r).status = .vacant := by rw [(h.rejudged r).status]

/-! ### Freshness (R81 to R86) -/

theorem announceAlert_step (r : Row) (s : State) : WheelStep s (announceAlert r s) := by
  refine WheelStep.trans (.of_frame (queueAlert_frame r s)) (.ite (fun _ => .refl _) fun _ => .putWheel ?_)
  exact ⟨rfl, rfl, .rfl, id⟩

theorem ringLegal_empty : RingLegal [] := ⟨Nat.zero_le 8, .nil, nofun⟩

theorem goStale_step {r : Row} {s : State} (h : (s.wheel r).status ≠ .vacant) : WheelStep s (goStale r s) :=
  .putWheel ⟨rfl, rfl, iff_of_false (by exact WheelStatus.noConfusion) h, id⟩

theorem goMissing_step {r : Row} {s : State} (h : (s.wheel r).status ≠ .vacant) : WheelStep s (goMissing r s) := by
  have hput : WheelStep s (putWheel r (silenced (s.wheel r)) s) :=
    .putWheel ⟨rfl, rfl, iff_of_false (by exact WheelStatus.noConfusion) h, fun _ => ringLegal_empty⟩
  have hstatus : ((putWheel r (silenced (s.wheel r)) s).wheel r).status ≠ .vacant := by
    rw [putWheel_wheel, if_pos rfl]
    exact WheelStatus.noConfusion
  have hjudging : Judging (· = r) (putWheel r (silenced (s.wheel r)) s) (withMissing r s) := setCondition_judging (by decide) fun _ => hstatus
  rw [goMissing_eq]
  refine ⟨fun q => (reannounce_vacant r q _).trans ((hjudging.vacant_iff q).trans (hput.vacant q)), fun D hD => ?_⟩
  refine (((hput.laws D hD).judged hjudging).reannounce r).mono fun q hq => ?_
  exact hq.1.elim id fun hqr => absurd hqr hq.2

theorem withDeadlines_calm (s : State) (r : Row) (base : Millis) (w : WheelRecord) : Calm w (withDeadlines s r base w) := ⟨rfl, rfl, .rfl, id⟩

theorem holdsMissing_not_vacant {v : WheelStatus} (h : holdsMissing v = true) : v ≠ .vacant := by
  rintro rfl
  cases h

theorem retimeRow_step (before : State) (r : Row) (s : State) : WheelStep s (retimeRow before r s) := by
  unfold retimeRow
  dsimp only
  refine .ite (fun _ => .refl s) fun hgo => ?_
  have hholds : holdsMissing (s.wheel r).status = true := by
    by_contra hno
    exact hgo (.inr (.inr (by simpa using hno)))
  have hin := holdsMissing_not_vacant hholds
  have hdated : ∀ base, WheelStep s (putWheel r (withDeadlines s r base (s.wheel r)) s) := fun base => .putWheel (withDeadlines_calm s r base _)
  refine .ite (fun _ => hdated _) fun _ => ?_
  have hput := hdated ((s.wheel r).base.getD s.now)
  generalize putWheel r (withDeadlines s r ((s.wheel r).base.getD s.now) (s.wheel r)) s = t at hput
  have hstale : WheelStep t (if due t (t.wheel r).staleAt = true then goStale r t else t) :=
    .ite (fun _ => goStale_step (mt (hput.vacant r).1 hin)) fun _ => .refl t
  have hlater := hput.trans hstale
  refine hlater.trans (.ite (fun _ => goMissing_step (mt (hlater.vacant r).1 hin)) fun _ => .refl _)

theorem retime_step (before s : State) : WheelStep s (retime before s) := .forRows (retimeRow_step before) allRows s

/-! ### Re-evaluation and lift axles -/

theorem reevaluate_step {rows : List Row} (s : State) (hnodup : rows.Nodup) (hclosed : ∀ r ∈ rows, partner r ∈ rows) :
    WheelStep s (reevaluate rows s) := by
  have h := (reevaluate_reevaluated s hnodup hclosed).toJudgedOnce
  have htables := (reevaluate_frame rows s).tables
  generalize reevaluate rows s = t at *
  refine ⟨fun r => by rw [(h.reading r).status], fun D hD => ⟨fun r => ?_, fun r hr => ?_, h.imbalance hD.imbalance, fun r hr => ?_⟩⟩
  · have hring : (t.wheel r).ring = (s.wheel r).ring := by rw [h.reading r]
    exact hring ▸ hD.ring r
  · by_cases hmem : r ∈ rows.filter (reevaluated s)
    · exact (h.announced r hmem).1
    · rw [AnnouncedLegal, h.outside r hmem, htables]
      exact hD.announced r hr
  · have hvacant := (h.reading r).status.symm.trans hr
    exact h.vacant r hvacant (hD.vacant r hvacant)

theorem raiseWheel_judging (r : Row) (s : State) : Judging (· = r) s (raiseWheel r s) :=
  (clearIfActive_judging (by decide) s).trans (clearIfActive_judging (by decide) _)

/-- Work on the rows of a list, whose announcements follow later. -/
structure RowsStep (rows : List Row) (s t : State) : Prop where
  vacant : ∀ r, (t.wheel r).status = .vacant ↔ (s.wheel r).status = .vacant
  laws : ∀ D : Row → Prop, (∀ r ∈ rows, D r) → WheelLaws D s → WheelLaws D t

namespace RowsStep

variable {rows : List Row} {s t u : State}

theorem trans (h : RowsStep rows s t) (k : RowsStep rows t u) : RowsStep rows s u :=
  ⟨fun r => (k.vacant r).trans (h.vacant r), fun D hr hD => k.laws D hr (h.laws D hr hD)⟩

theorem refl (s : State) : RowsStep rows s s := ⟨fun _ => .rfl, fun _ _ h => h⟩

theorem of_step (h : WheelStep s t) : RowsStep rows s t := ⟨h.vacant, fun D _ => h.laws D⟩

theorem of_judging {P : Row → Prop} (h : Judging P s t) (hP : ∀ q, P q → q ∈ rows) : RowsStep rows s t :=
  ⟨h.vacant_iff, fun _ hr hD => hD.judged_mono h fun q hq => hr q (hP q hq)⟩

/-- Row after row, where each relies on which rows are vacant. -/
theorem forRows {f : Row → State → State} (hf : ∀ r ∈ rows, ∀ t, RowsStep rows s t → RowsStep rows t (f r t)) :
    RowsStep rows s (Machine.forRows f rows s) := by
  suffices h : ∀ (l : List Row), (∀ r ∈ l, r ∈ rows) → ∀ t, RowsStep rows s t → RowsStep rows s (Machine.forRows f l t) from
    h rows (fun _ h => h) s (.refl s)
  intro l hl
  induction l with
  | nil => exact fun t ht => ht
  | cons r l ih =>
    intro t ht
    exact ih (fun q hq => hl q (List.mem_cons_of_mem _ hq)) (f r t) (ht.trans (hf r (hl r List.mem_cons_self) t ht))

/-- The announcements of the rows complete the work on them. -/
theorem announced (h : RowsStep rows s t) : WheelStep s (Machine.forRows reannounce rows t) := by
  refine ⟨fun q => ((WheelStep.forRows reannounce_step rows t).vacant q).trans (h.vacant q), fun D hD => ?_⟩
  have hlaws := h.laws (fun q => D q ∨ q ∈ rows) (fun r hr => .inr hr) (hD.mono fun _ => .inl)
  refine (hlaws.reannounceRows rows).mono fun q hq => ?_
  obtain ⟨hin | hin, hout⟩ := hq
  · exact hin
  · exact absurd hin hout

end RowsStep

/-- The partner of a row that has IMBALANCE has it too, so it is not vacant. -/
theorem raisePair_step {rows : List Row} {r : Row} {t : State} (hr : r ∈ rows)
    (hrows : (t.wheel (partner r)).status ≠ .vacant → partner r ∈ rows) : RowsStep rows t (raisePair r t) := by
  unfold raisePair
  split
  · next hcond =>
    have hjudging : Judging (fun q => q = r ∨ q = partner r) t (setImbalance r false t) := setImbalance_judging (on := false) nofun
    refine ⟨hjudging.vacant_iff, fun D hD hlaws => hlaws.judged_mono hjudging ?_⟩
    rintro q (rfl | rfl)
    · exact hD q hr
    · refine hD _ (hrows fun hv => ?_)
      have hpair : hasCond (t.wheel r).active .imbalance = hasCond (t.wheel (partner r)).active .imbalance := hlaws.imbalance r
      rw [hcond, hlaws.vacant (partner r) hv, hasCond_zero] at hpair
      cases hpair
  · exact .refl t

theorem raiseRest_step (before : State) {rows : List Row} {r : Row} (hr : r ∈ rows) (s : State) : RowsStep rows s (raiseRest before r s) := by
  unfold raiseRest
  dsimp only
  have hcounters : Judging (· = r) s (setCounter r .imbalance 0 (setCounter r .leak 0 (setCounter r .lowWarn 0 s))) :=
    ((setCounter_judging r _ 0 s).trans (setCounter_judging r _ 0 _)).trans (setCounter_judging r _ 0 _)
  refine (RowsStep.of_judging hcounters fun q hq => hq ▸ hr).trans (.of_step ?_)
  generalize setCounter r .imbalance 0 (setCounter r .leak 0 (setCounter r .lowWarn 0 s)) = t
  have hput : WheelStep t (putWheel r { t.wheel r with ring := [], leakRate := none } t) := .putWheel ⟨rfl, rfl, .rfl, fun _ => ringLegal_empty⟩
  exact hput.trans (retimeRow_step before r _)

theorem raiseRows_step (before : State) {rows : List Row} (hclosed : ∀ r ∈ rows, partner r ∈ rows) (s : State) :
    WheelStep s (raiseRows before rows s) := by
  unfold raiseRows
  dsimp only
  have hrows : ∀ q ∈ rows.filter (fun r => decide ((s.wheel r).status ≠ .vacant)), (s.wheel (partner q)).status ≠ .vacant →
      partner q ∈ rows.filter fun r => decide ((s.wheel r).status ≠ .vacant) := fun q hq hv =>
    List.mem_filter.2 ⟨hclosed q (List.mem_filter.1 hq).1, decide_eq_true hv⟩
  generalize rows.filter (fun r => decide ((s.wheel r).status ≠ .vacant)) = rows at hrows
  have hraised : RowsStep rows s (forRows raiseWheel rows s) :=
    .forRows fun r hr t _ => .of_judging (raiseWheel_judging r t) fun q hq => hq ▸ hr
  generalize forRows raiseWheel rows s = a at hraised
  have hpaired : RowsStep rows a (forRows raisePair rows a) :=
    .forRows fun r hr t ht => raisePair_step hr fun hv => hrows r hr fun hv' => hv ((ht.vacant _).2 ((hraised.vacant _).2 hv'))
  generalize forRows raisePair rows a = b at hpaired
  have hrest : RowsStep rows b (forRows (raiseRest before) rows b) := .forRows fun r hr t _ => raiseRest_step before hr t
  exact ((hraised.trans hpaired).trans hrest).announced

theorem axleRows_nodup (a : AxleNo) : (axleRows a).Nodup := (List.nodup_finRange 32).filter _

theorem partner_axleRows {a : AxleNo} {r : Row} (h : r ∈ axleRows a) : partner r ∈ axleRows a := by
  rw [mem_axleRows] at h ⊢
  rw [partner_axle, h]

theorem liftAxle_step (before : State) (a : AxleNo) (s : State) : WheelStep s (liftAxle before a s) :=
  .ite (fun _ => .refl s) fun _ => .ite (fun _ => raiseRows_step before (fun _ => partner_axleRows) s)
    fun _ => (reevaluate_step s (axleRows_nodup a) fun _ => partner_axleRows).trans (.forRows (retimeRow_step before) _ _)

theorem liftChange_step (before s : State) : WheelStep s (liftChange before s) := by
  have hfold : ∀ (axles : List AxleNo) (t : State), WheelStep t (axles.foldl (fun s a => liftAxle before a s) t) := by
    intro axles
    induction axles with
    | nil => exact fun t => .refl t
    | cons a axles ih => exact fun t => (liftAxle_step before a t).trans (ih _)
  exact .ite (fun _ => .refl s) fun _ => hfold _ s

/-! ### Measurements (R68, R80, R91 to R95) -/

theorem judged_imbalance {s : State} {r : Row} (h : judged s r .imbalance = true) :
    (s.wheel r).status = .live ∧ (s.wheel (partner r)).status = .live := by
  simp only [judged, Bool.and_eq_true, decide_eq_true_eq] at h
  obtain ⟨⟨⟨-, hr⟩, hp⟩, -⟩ := h
  exact ⟨hr, hp⟩

/-- A condition is judged on the row of the measurement, IMBALANCE on its pair. -/
theorem judgeOne_judging {r : Row} (low : Bool) (c : Condition) {s : State} (hin : (s.wheel r).status ≠ .vacant) :
    Judging (fun q => q = r ∨ q = partner r) s (judgeOne r low c s) := by
  unfold judgeOne
  refine .ite (fun h => (clearIfActive_judging (by decide) s).mono fun _ => .inl) fun _ => .ite (fun _ => .refl s) fun hjudged => ?_
  dsimp only
  refine .ite (fun _ => (setCounter_judging _ c _ s).mono fun q hq => ?_) fun _ => .ite (fun hc => ?_) fun hc => ?_
  · subst hq
    split
    · exact outerRow_eq r
    · exact .inl rfl
  · subst hc
    rw [Bool.not_eq_true', Bool.not_eq_false] at hjudged
    obtain ⟨hr, hp⟩ := judged_imbalance hjudged
    exact setImbalance_judging fun _ => ⟨hin, by rw [hp]; exact WheelStatus.noConfusion⟩
  · exact (setCondition_judging hc fun _ => hin).mono fun _ => .inl

theorem judgeAll_judging {r : Row} (low : Bool) {s : State} (hin : (s.wheel r).status ≠ .vacant) :
    Judging (fun q => q = r ∨ q = partner r) s (judgeAll r low s) := by
  suffices h : ∀ (l : List Condition) (t : State), (t.wheel r).status ≠ .vacant →
      Judging (fun q => q = r ∨ q = partner r) t (l.foldl (fun s c => judgeOne r low c s) t) from h _ s hin
  intro l
  induction l with
  | nil => exact fun t _ => .refl t
  | cons c l ih =>
    intro t ht
    have hone := judgeOne_judging low c ht
    exact hone.trans (ih _ (mt (hone.vacant_iff r).1 ht))

/-- The record of a row with the reading of a telegram (R68, R80, R82). -/
def measuredRecord (s : State) (r : Row) (t : TelegramRecord) (x : Computed) : WheelRecord :=
  let w := s.wheel r
  let w' : WheelRecord := { w with
    status := .live, raw := t.pressure.toNat, pc := x.pc, pg := x.pg, temperature := x.temperature
    flags := x.flags w.flags
    lastMode := some t.mode, lastSequence := some t.sequence, lastAccepted := some t.arrival
    base := some t.arrival }
  if s.osc.state = .active then withDeadlines s r t.arrival w' else w'

theorem writeMeasurement_eq (r : Row) (t : TelegramRecord) (x : Computed) (s : State) :
    writeMeasurement r t x s =
      if (s.wheel r).status = .missing then putEpisode r .reset (clearIfActive r .missing (putWheel r (measuredRecord s r t x) s))
      else putWheel r (measuredRecord s r t x) s := rfl

theorem measuredRecord_calm {s : State} {r : Row} (t : TelegramRecord) (x : Computed) (hin : (s.wheel r).status ≠ .vacant) :
    Calm (s.wheel r) (measuredRecord s r t x) := by
  unfold measuredRecord
  dsimp only
  split
  · exact ⟨rfl, rfl, iff_of_false (by exact WheelStatus.noConfusion) hin, id⟩
  · exact ⟨rfl, rfl, iff_of_false (by exact WheelStatus.noConfusion) hin, id⟩

theorem writeMeasurement_step {r : Row} (t : TelegramRecord) (x : Computed) {s : State} (hin : (s.wheel r).status ≠ .vacant) :
    RowsStep [r] s (writeMeasurement r t x s) := by
  have hput : RowsStep [r] s (putWheel r (measuredRecord s r t x) s) := .of_step (.putWheel (measuredRecord_calm t x hin))
  rw [writeMeasurement_eq]
  split
  · refine (hput.trans ?_).trans (.of_step (.of_frame (putEpisode_frame r .reset _)))
    exact .of_judging (clearIfActive_judging (by decide) _) fun q hq => hq ▸ List.mem_cons_self
  · exact hput

/-- The record with a sample in its trend ring (R69 to R73). -/
def trendedRecord (w : WheelRecord) (y : Sample) : WheelRecord :=
  { w with ring := (ringAdd w.ring y).ring, leakRate := ringRate (ringAdd w.ring y).ring }

theorem updateTrend_eq (r : Row) (t : TelegramRecord) (x : Computed) (s : State) :
    updateTrend r t x s =
      if x.fault = true then s
      else if raisedRow s r = true then putWheel r { s.wheel r with leakRate := none } s
      else if (ringAdd (s.wheel r).ring { pc := x.pc, time := t.arrival }).refill = true then
        clearIfActive r .leak (setCounter r .leak 0 (raiseEvent .refill (some r) (some x.pc)
          (putWheel r (trendedRecord (s.wheel r) { pc := x.pc, time := t.arrival }) s)))
      else putWheel r (trendedRecord (s.wheel r) { pc := x.pc, time := t.arrival }) s := rfl

theorem updateTrend_step {r : Row} (t : TelegramRecord) (x : Computed) (s : State) : RowsStep [r] s (updateTrend r t x s) := by
  have hput : RowsStep [r] s (putWheel r (trendedRecord (s.wheel r) { pc := x.pc, time := t.arrival }) s) :=
    .of_step (.putWheel ⟨rfl, rfl, .rfl, fun h => ringAdd_legal h _⟩)
  rw [updateTrend_eq]
  split
  · exact .refl s
  · split
    · exact .of_step (.putWheel ⟨rfl, rfl, .rfl, id⟩)
    · generalize putWheel r (trendedRecord (s.wheel r) { pc := x.pc, time := t.arrival }) s = u at hput ⊢
      split
      · refine (hput.trans (.of_step (.raiseEvent .refill (some r) (some x.pc) u))).trans ?_
        exact (RowsStep.of_judging (setCounter_judging r _ 0 _) fun q hq => hq ▸ List.mem_cons_self).trans
          (.of_judging (clearIfActive_judging (by decide) _) fun q hq => hq ▸ List.mem_cons_self)
      · exact hput

theorem measure_step {r : Row} (t : TelegramRecord) {s : State} (hin : (s.wheel r).status ≠ .vacant) : WheelStep s (measure r t s) := by
  unfold measure
  dsimp only
  generalize compute s.vdm.ambient (groupOf s r).temp.tref t = x
  have hwritten := (writeMeasurement_step t x hin).trans (updateTrend_step t x (writeMeasurement r t x s))
  generalize updateTrend r t x (writeMeasurement r t x s) = u at hwritten
  have hjudged : RowsStep [r, partner r] u (judgeAll r t.batteryLow u) :=
    .of_judging (judgeAll_judging t.batteryLow (mt (hwritten.vacant r).1 hin)) fun q hq => by simpa using hq
  have hboth : RowsStep [r, partner r] s (judgeAll r t.batteryLow u) :=
    RowsStep.trans ⟨hwritten.vacant, fun D hD => hwritten.laws D fun q hq => hD q (List.mem_cons.2 (.inl (List.mem_singleton.1 hq)))⟩ hjudged
  generalize judgeAll r t.batteryLow u = v at hboth
  have hannounced : WheelStep s (reannounce (partner r) (reannounce r v)) := hboth.announced
  exact hannounced.trans (.of_frame (noticeChange_frame _ _ _))

end Sys2Proof.Machine
end

section
/-! The wheel records through restarts, the operating state, the sessions, the trailer and the vehicle data. -/

namespace Sys2Proof.Machine

set_option Elab.async false

/-- The laws of the records, while the rows of a list may not yet tell whether they hold an ID. -/
structure WheelsLoose (rows : List Row) (s : State) : Prop where
  laws : WheelLaws (fun _ => False) s
  vacancy : ∀ r, r ∉ rows → ((s.wheel r).status = .vacant ↔ rowId s r = none)

/-- The laws of the records of a running part. -/
abbrev WheelsSound (s : State) : Prop := WheelsLoose [] s

theorem wheelsLegal_iff {s : State} : WheelsLegal s ↔
    WheelLaws (fun _ => False) s ∧ (s.phase = .running → ∀ r, (s.wheel r).status = .vacant ↔ rowId s r = none) := by
  constructor
  · intro h
    refine ⟨⟨fun r => ?_, fun r _ => ?_, fun r => ?_, fun r => ?_⟩, fun hrun r => ?_⟩ <;>
      obtain ⟨hring, hannounced, himbalance, hvacant, hactive⟩ := h r
    · exact hring
    · exact hannounced
    · exact himbalance
    · exact hactive
    · exact hvacant hrun
  · rintro ⟨⟨hring, hannounced, himbalance, hactive⟩, hvacant⟩ r
    exact ⟨hring r, hannounced r id, himbalance r, fun hrun => hvacant hrun r, hactive r⟩

namespace WheelsLoose

variable {rows : List Row} {s t : State}

theorem mono {more : List Row} (h : WheelsLoose rows s) (k : ∀ r ∈ rows, r ∈ more) : WheelsLoose more s :=
  ⟨h.laws, fun r hr => h.vacancy r (mt (k r) hr)⟩

theorem legal (h : WheelsSound s) : WheelsLegal s := wheelsLegal_iff.2 ⟨h.laws, fun _ r => h.vacancy r List.not_mem_nil⟩

/-- Work on the records that makes no row vacant or in use, with the IDs where they are. -/
theorem step (h : WheelsLoose rows s) (k : WheelStep s t) (hid : ∀ r, rowId t r = rowId s r) : WheelsLoose rows t :=
  ⟨k.laws _ h.laws, fun r hr => by rw [k.vacant r, hid r]; exact h.vacancy r hr⟩

theorem stepFrame {c : List Field} (h : WheelsLoose rows s) (k : WheelStep s t) (hf : Frame c s t) (k₁ : Field.tables ∉ c := by decide)
    (k₂ : Field.trailer ∉ c := by decide) : WheelsLoose rows t := h.step k (rowId_congr (hf.tables k₁) (hf.trailer k₂))

/-- Work that touches neither the records nor the map. -/
theorem beside {c : List Field} (h : WheelsLoose rows s) (hf : Frame c s t) (k₀ : Field.wheels ∉ c := by decide)
    (k₁ : Field.tables ∉ c := by decide) (k₂ : Field.trailer ∉ c := by decide) : WheelsLoose rows t :=
  h.stepFrame (.of_frame hf k₀ k₁) hf k₁ k₂

/-- IDs written, with the rows named whose ID may have changed. -/
theorem rewritten {more : List Row} (h : WheelsLoose rows s) (hwheels : t.wheels = s.wheels) (hannounce : t.tables.announce = s.tables.announce)
    (hrows : ∀ r ∈ rows, r ∈ more) (hid : ∀ r, r ∉ more → rowId t r = rowId s r) : WheelsLoose more t := by
  have hsame : ∀ r, t.wheel r = s.wheel r := fun r => by rw [State.wheel, hwheels]; rfl
  have hstep : WheelStep s t := .of_calm (fun r => by rw [hsame]; exact .refl _) hannounce
  exact ⟨hstep.laws _ h.laws, fun r hr => by rw [hsame, hid r hr]; exact h.vacancy r (mt (hrows r) hr)⟩

end WheelsLoose

/-! ### Restarts (R79) -/

theorem restartedRecord_ring (s : State) (r : Row) : (restartedRecord s r).ring = [] := by unfold restartedRecord; split <;> rfl

theorem restartedRecord_active (s : State) (r : Row) : (restartedRecord s r).active = 0 := by unfold restartedRecord; split <;> rfl

theorem restartedRecord_announced (s : State) (r : Row) : (restartedRecord s r).announced = 0 := by unfold restartedRecord; split <;> rfl

theorem restartedRecord_vacant (s : State) (r : Row) : (restartedRecord s r).status = .vacant ↔ rowId s r = none := by
  unfold restartedRecord
  cases h : rowId s r with
  | none => exact iff_of_true rfl rfl
  | some x =>
    refine iff_of_false ?_ nofun
    split <;> exact WheelStatus.noConfusion

theorem hasCond_dropCond_same (set : ConditionSet) (c : Condition) : hasCond (dropCond set c) c = false := by simp

section
variable {rows : List Row} {s t : State} (h : RowsRestarted rows s t) (hlaws : WheelLaws (fun _ => False) s)
include h hlaws

/-- No pair shares IMBALANCE any more of which a row restarted. -/
theorem RowsRestarted.uncoupled_pair {r : Row} (hr : r ∈ rows ∨ partner r ∈ rows) : hasCond (t.wheel r).active .imbalance = false := by
  by_cases hin : r ∈ rows
  · rw [h.restarted r hin, restartedRecord_active, hasCond_zero]
  · have hpartner := hr.resolve_left hin
    by_cases hcond : hasCond (s.wheel (partner r)).active .imbalance = true
    · rw [h.uncoupled r hin hpartner hcond, hasCond_dropCond_same]
    · rcases h.outside r hin with hsame | ⟨-, hun⟩
      · have hpair : hasCond (s.wheel r).active .imbalance = hasCond (s.wheel (partner r)).active .imbalance := hlaws.imbalance r
        rw [hsame, hpair]
        exact Bool.not_eq_true _ ▸ hcond
      · exact absurd hun.imbalance hcond

theorem RowsRestarted.laws (hannounce : t.tables.announce = s.tables.announce) : WheelLaws (fun _ => False) t := by
  refine ⟨fun r => ?_, fun r _ => ?_, fun r => ?_, fun r hv => ?_⟩
  · by_cases hr : r ∈ rows
    · rw [h.restarted r hr, restartedRecord_ring]
      exact ringLegal_empty
    · have hring : (t.wheel r).ring = (s.wheel r).ring := by rw [h.reading r hr]
      exact hring ▸ hlaws.ring r
  · rw [AnnouncedLegal, hannounce]
    by_cases hr : r ∈ rows
    · rw [h.restarted r hr, restartedRecord_announced, restartedRecord_active]
      exact (announcedOf_zero _).symm
    · rcases h.outside r hr with hsame | ⟨-, hun⟩
      · rw [hsame]
        exact hlaws.announced r id
      · exact hun.announced
  · by_cases hr : r ∈ rows ∨ partner r ∈ rows
    · have hback : partner r ∈ rows ∨ partner (partner r) ∈ rows := by rw [partner_partner]; exact hr.symm
      rw [ImbalanceLegal, h.uncoupled_pair hlaws hr, h.uncoupled_pair hlaws hback]
    · obtain ⟨hin, hpartner⟩ := not_or.1 hr
      rw [ImbalanceLegal, h.kept hin hpartner, h.kept hpartner (by rwa [partner_partner])]
      exact hlaws.imbalance r
  · by_cases hr : r ∈ rows
    · rw [h.restarted r hr, restartedRecord_active]
    · have hwas : (s.wheel r).active = 0 := hlaws.vacant r ((h.reading r hr).status.symm.trans hv)
      rcases h.outside r hr with hsame | ⟨-, hun⟩
      · rw [hsame, hwas]
      · rw [hun.active, hwas]
        decide

end

/-- A restart of the rows whose IDs changed makes the records sound. -/
theorem WheelsLoose.restart {rows : List Row} {s : State} (h : WheelsLoose rows s) : WheelsSound (restartRows rows s) := by
  have hrows := restartRows_restarted rows s
  have hf := restartRows_frame rows s
  generalize restartRows rows s = t at *
  have hid := rowId_congr hf.tables hf.trailer
  refine ⟨hrows.laws h.laws (congrArg Tables.announce hf.tables), fun r _ => ?_⟩
  by_cases hr : r ∈ rows
  · rw [hrows.restarted r hr, restartedRecord_vacant, hid]
  · rw [(hrows.reading r hr).status, hid]
    exact h.vacancy r hr

/-! ### The operating state -/

theorem enterState_step (n : OpState) (s : State) : WheelStep s (enterState n s) := by
  obtain ⟨-, -, -, hwheels, -⟩ := enterState_entered n s
  refine .of_calm (fun r => ?_) (congrArg Tables.announce (enterState_frame n s).tables)
  rw [hwheels r]
  refine ⟨rfl, rfl, ?_, id⟩
  dsimp only
  split
  · next hlive => exact iff_of_false (by exact WheelStatus.noConfusion) (by rw [hlive.2]; exact WheelStatus.noConfusion)
  · rfl

section
variable {rows : List Row} {s : State}

theorem WheelsLoose.entered (h : WheelsLoose rows s) (n : OpState) : WheelsLoose rows (enterState n s) :=
  h.stepFrame (enterState_step n s) (enterState_frame n s)

theorem WheelsLoose.sessionClosed (h : WheelsLoose rows s) : WheelsLoose rows (sessionClosed s) := by
  unfold Machine.sessionClosed
  split
  · have hosc := setOsc_frame { s.osc with parkPending := false } s
    dsimp only
    split
    · exact h.beside hosc
    · exact (h.beside hosc).entered _
  · exact h

theorem WheelsLoose.raised (h : WheelsLoose rows s) (kind : EventKind) (row : Option Row) (value : Option Nat) :
    WheelsLoose rows (raiseEvent kind row value s) := h.beside (raiseEvent_frame kind row value s)

theorem WheelsLoose.searched (h : WheelsLoose rows s) : WheelsLoose rows (search s) := h.beside (search_frame s)

theorem WheelsLoose.settled (h : WheelsLoose rows s) : WheelsLoose rows (settleProposal s) := h.beside (settleProposal_frame s)

theorem WheelsLoose.ended (h : WheelsLoose rows s) (how : Ending) : WheelsLoose rows (endSession how s) := by
  unfold endSession
  split
  · exact h
  · exact (((h.beside (setEnc_frame _ s)).raised _ _ _).sessionClosed).searched

theorem WheelsLoose.parked (h : WheelsLoose rows s) : WheelsLoose rows (parkDelayDone s) := by
  have hosc := h.beside (setOsc_frame { s.osc with parkDelay := none } s)
  unfold parkDelayDone
  dsimp only
  split
  · exact hosc.beside (setOsc_frame _ _)
  · exact hosc.entered _

theorem WheelsLoose.ignition (h : WheelsLoose rows s) (on : Bool) : WheelsLoose rows (ignitionTo on s) := by
  unfold ignitionTo
  split
  · exact h
  · have hlines := h.beside (setLines_frame { s.lines with ignition := on } s)
    dsimp only
    split
    · split
      · exact hlines.parked
      · exact hlines.beside (setOsc_frame _ _)
    · exact hlines.beside (setOsc_frame _ _)
    · exact hlines.entered _
    · exact hlines.entered _
    · exact hlines

theorem WheelsLoose.moved (h : WheelsLoose rows s) : WheelsLoose rows (sessionMoved s) := by
  unfold sessionMoved
  split
  · exact h.ended _
  · exact h

theorem WheelsLoose.trailerLost (h : WheelsLoose rows s) : WheelsLoose rows (sessionTrailerLost s) := by
  unfold sessionTrailerLost
  split
  · exact h.ended _
  · exact h

end

/-! ### Sessions -/

section
variable {s : State} (h : WheelsSound s)
include h

theorem completion_sound (i : Nat) : WheelsSound (applyCompletion i s) := by
  have hpairs := applyPairs_frame s.enc.pairs s
  have hafter : WheelsLoose (changedRows s (applyPairs s.enc.pairs s)) (applyPairs s.enc.pairs s) := by
    refine h.rewritten hpairs.wheels ?_ nofun fun r hr => ?_
    · rw [(IdsOnly.applyPairs s.enc.pairs s).rest]
    · by_contra hne
      exact hr (List.mem_filter.2 ⟨mem_allRows r, decide_eq_true (Ne.symm hne)⟩)
  unfold applyCompletion
  dsimp only
  generalize applyPairs s.enc.pairs s = after at hafter
  refine WheelsLoose.searched (WheelsLoose.sessionClosed (WheelsLoose.beside (WheelsLoose.raised (WheelsLoose.beside ?_ (requestSave_frame _)) _ _ _)
    (setEnc_frame _ _)))
  have hdropped := hafter.restart.beside (dropCandidates_frame (s.enc.pairs.map EnrolPair.id) _)
  split
  · exact hdropped
  · exact hdropped.beside (markDirty_frame _)

theorem advance_sound (i : Nat) : WheelsSound (advance i s) := by
  unfold advance
  split
  · exact h.beside (setEnc_frame _ s)
  · unfold completeSession
    split
    · exact completion_sound h i
    · exact h.ended _

theorem acceptAnswer_sound (i : Nat) (r : Row) (id : SensorId) (source : Option Row) : WheelsSound (acceptAnswer i r id source s) :=
  advance_sound ((h.beside (setEnc_frame _ s)).raised _ _ _) i

theorem takeAnswer_sound (c : AnswerClass) (id : SensorId) : WheelsSound (takeAnswer c id s) := by
  unfold takeAnswer
  split
  · exact h
  · split
    · exact h
    · split
      · exact h.raised _ _ _
      · split
        · exact h.raised _ _ _
        · exact acceptAnswer_sound h _ _ _ _
        · split
          · exact acceptAnswer_sound h _ _ _ _
          · split
            · exact acceptAnswer_sound h _ _ _ _
            · exact h.raised _ _ _

theorem takeTool_sound (code : Nat) : WheelsSound (takeTool code s) := by
  unfold takeTool
  split
  · exact h
  · split
    · exact advance_sound (h.raised _ _ _) _
    · split
      · unfold stepBack
        split
        · exact h.beside (setEnc_frame _ s)
        · exact h.beside (setEnc_frame _ s)
      · split
        · exact h.ended _
        · exact h

/-! ### The trailer -/

theorem trailerRestart_sound {t : State} (hf : Frame [.trailer, .window, .recog] s t) : WheelsSound (restartRows trailerRows t) := by
  refine WheelsLoose.restart (h.rewritten hf.wheels (congrArg Tables.announce hf.tables) nofun fun r hr => ?_)
  exact rowId_of_truck hf.tables (by rw [mem_trailerRows] at hr; omega)

theorem identify_sound (k : EntryNo) : WheelsSound (identify k s) := by
  refine WheelsLoose.raised (trailerRestart_sound h ?_) _ _ _
  exact (((setTrailer_frame _ s).mono (by decide)).trans ((setWindow_frame _ _).mono (by decide))).trans ((setRecog_frame _ _).mono (by decide))

theorem unload_sound (next : TrailerState) : WheelsSound (unload next s) := trailerRestart_sound h ((setTrailer_frame next s).mono (by decide))

/-- The trailer state moves between states in which no entry is identified. -/
theorem unidentified_sound {v : TrailerState} (hs : ∀ k, s.trailer ≠ .identified k) (hv : ∀ k, v ≠ .identified k) : WheelsSound (s.setTrailer v) := by
  refine h.step (.of_frame (setTrailer_frame v s)) fun r => ?_
  by_cases hr : r.val < 20
  · exact setTrailer_rowId_truck v hr
  · rw [rowId_of_noTrailer (s := s.setTrailer v) hv (by omega), rowId_of_noTrailer hs (by omega)]

theorem checkRecognition_sound (k : EntryNo) : WheelsSound (checkRecognition k s) := by
  unfold checkRecognition
  dsimp only
  split
  · exact (identify_sound h k).settled
  · exact h

theorem recheckEntry_sound (before : State) (k : EntryNo) : WheelsSound (recheckEntry before k s) := by
  unfold recheckEntry
  split
  · exact checkRecognition_sound (h.beside (setRecog_frame _ s)) k
  · exact h

theorem connectTrailer_sound : WheelsSound (connectTrailer s) := by
  unfold connectTrailer
  split
  · next hnone =>
    have hmoved := unidentified_sound h (v := .recognising) (by rw [hnone]; nofun) nofun
    exact (hmoved.beside (setWindow_frame _ _)).beside (setRecog_frame _ _)
  · exact h

theorem disconnectTrailer_sound : WheelsSound (disconnectTrailer s) := by
  unfold disconnectTrailer
  split
  · exact h
  · refine WheelsLoose.settled (WheelsLoose.trailerLost (WheelsLoose.raised (WheelsLoose.beside (WheelsLoose.beside ?_ (setWindow_frame _ _))
      (setRecog_frame _ _)) _ _ _))
    split
    · exact unload_sound h .none
    · next hno => exact unidentified_sound h (fun k hk => hno ((entry_isSome_iff s).2 ⟨k, hk⟩)) nofun

theorem selectTrailer_sound (k : EntryNo) : WheelsSound (selectTrailer k s) := by
  unfold selectTrailer
  split
  · exact h
  · refine (identify_sound ?_ k).settled
    split
    · exact (unload_sound h .unknown).trailerLost
    · exact h

end

end Sys2Proof.Machine
end

section
/-! The wheel records through the acceptance of telegrams, the vehicle data and the map. -/

namespace Sys2Proof.Machine

set_option Elab.async false

/-! ### Acceptance -/

section
variable {s : State} (h : WheelsSound s)
include h

theorem handToEnc_sound {act : State → State} (hact : ∀ u, WheelsSound u → WheelsSound (act u)) (t : TelegramRecord) :
    WheelsSound (handToEnc act t s) := by
  unfold handToEnc
  split
  · exact hact _ (h.beside (setEnc_frame _ s))
  · exact h

theorem takeEnrolled_sound {r : Row} {t : TelegramRecord} (hr : rowId s r = some t.id) : WheelsSound (takeEnrolled r t s) := by
  have hnoted : WheelStep s (noteRssi r t s) := .putWheel ⟨rfl, rfl, .rfl, id⟩
  have hframe : Frame [.wheels] s (noteRssi r t s) := putWheel_frame r _ s
  have hsound := h.stepFrame hnoted hframe
  have hin : ((noteRssi r t s).wheel r).status ≠ .vacant := by
    rw [Ne, hsound.vacancy r List.not_mem_nil, hframe.rowId, hr]
    nofun
  unfold takeEnrolled
  dsimp only
  split
  · exact hsound
  · have hmeasured := hsound.stepFrame (measure_step t hin) (measure_frame r t _)
    refine WheelsLoose.settled ?_
    split
    · exact takeAnswer_sound hmeasured _ _
    · exact hmeasured

theorem takeCandidate_sound (t : TelegramRecord) : WheelsSound (takeCandidate t s) := by
  unfold takeCandidate
  split
  · have hupdated := fun l => h.beside (setCandidates_frame l s)
    dsimp only
    split
    · exact (hupdated _).searched
    · exact hupdated _
  · exact (h.beside (setCandidates_frame _ s)).settled.searched

theorem acceptRecord_sound (t : TelegramRecord) : WheelsSound (acceptRecord t s) := by
  unfold acceptRecord
  split
  · exact h
  · unfold classify
    by_cases htool : inToolBlock t.id = true
    · rw [if_pos htool]
      exact handToEnc_sound h (fun _ hu => takeTool_sound hu _) t
    · rw [if_neg htool]
      cases hholding : rowHolding s t.id with
      | some r => exact takeEnrolled_sound h (rowHolding_eq_some hholding)
      | none =>
        cases slotsWith s t.id with
        | nil =>
          show WheelsSound (takeUnknown t s)
          unfold takeUnknown
          split
          · exact handToEnc_sound h (fun _ hu => takeAnswer_sound hu _ _) t
          · exact takeCandidate_sound h t
        | cons p rest =>
          show WheelsSound (takeForeign p.1 p.2 t s)
          have hcounted : WheelsSound (if s.trailer = .recognising ∧ (!slotCopy s p.1 p.2 t) = true then countTelegram p.1 p.2 t s else s) := by
            split
            · exact checkRecognition_sound (h.beside (setRecog_frame _ s)) p.1
            · exact h
          unfold takeForeign
          dsimp only
          split
          · exact handToEnc_sound hcounted (fun _ hu => takeAnswer_sound hu _ _) t
          · exact hcounted

/-! ### Vehicle data -/

theorem setSpeed_sound (speed : Option Nat) : WheelsSound (setSpeed speed s) := by
  unfold setSpeed
  split
  · exact h
  · exact ((h.beside (setVdm_frame _ s)).stepFrame (retime_step s _) (retime_frame s _)).moved

theorem putUnit_sound (u : UnitName) (v : UnitLoad) : WheelsSound (putUnit u v s) := h.beside (putUnit_frame u v s)

theorem applyLoad_sound (u : UnitName) (load : LoadState) : WheelsSound (applyLoad u load s) := by
  have hput := putUnit_sound h u { unitLoad s u with applied := load, settle := none }
  unfold applyLoad
  dsimp only
  split
  · exact hput
  · refine hput.stepFrame (reevaluate_step _ (unitRows_nodup u) fun r hr => ?_) (reevaluate_frame _ _)
    rw [mem_unitRows] at hr ⊢
    rw [partner_unit, hr]

theorem settleLoad_sound (u : UnitName) (load : LoadState) : WheelsSound (settleLoad u load s) := by
  unfold settleLoad
  dsimp only
  split
  · exact putUnit_sound h u _
  · split
    · exact h
    · split
      · exact applyLoad_sound h u load
      · exact putUnit_sound h u _

theorem reportLoad_sound (u : UnitName) (rep : LoadReport) : WheelsSound (reportLoad u rep s) := by
  have hput := putUnit_sound h u { unitLoad s u with reported := rep }
  cases rep
  case unladen | laden => exact settleLoad_sound hput u _
  case tipping => exact putUnit_sound hput u _
  case unknown => exact applyLoad_sound hput u _

theorem setConnected_sound (code : Nat) : WheelsSound (setConnected code s) := by
  unfold setConnected
  split
  · exact connectTrailer_sound (h.beside (setVdm_frame _ s))
  · split
    · exact disconnectTrailer_sound (h.beside (setVdm_frame _ s))
    · exact h

theorem liftChange_sound (before : State) : WheelsSound (liftChange before s) := h.stepFrame (liftChange_step before s) (liftChange_frame before s)

theorem takeVehicleData_sound (data : List Byte) : WheelsSound (takeVehicleData data s) := by
  have hloads := reportLoad_sound (reportLoad_sound (setSpeed_sound (h.beside (frameSeen_frame s)) (speedOf (natAt data 0))) .truck
    (loadReportOf (natAt data 1))) .trailer (loadReportOf (natAt data 2))
  have hlift := fun t : State => fun ht : WheelsSound t => liftChange_sound (ht.beside (setVdm_frame { t.vdm with liftMask := byteAt data 4 } t)) t
  exact ((hlift _ (setConnected_sound hloads (natAt data 3))).beside (setVdm_frame _ _)).beside (notice_frame _ _)

theorem frameTimeout_sound : WheelsSound (frameTimeout s) := by
  unfold frameTimeout
  split
  · have hlost := h.beside (setVdm_frame { s.vdm with status := .lost, frameDeadline := none } s)
    dsimp only
    split
    · exact hlost
    · exact reportLoad_sound (reportLoad_sound (setSpeed_sound (hlost.raised _ _ _) none) _ _) _ _
  · exact h

theorem alertRepeat_sound (r : Row) : WheelsSound (alertRepeatExpiry r s) := by
  refine h.stepFrame ?_ (alertRepeatExpiry_frame r s)
  refine .ite (fun _ => .ite (fun _ => announceAlert_step r s) fun _ => .putWheel ⟨rfl, rfl, .rfl, id⟩) fun _ => .refl s

end

theorem placeOf_slot {s : State} {r : Row} {k : EntryNo} {i : SlotNo} (h : placeOf s r = some (.inr (k, i))) :
    s.trailer = .identified k ∧ slotRow i = r := by
  by_cases hr : r.val < 20
  · rw [placeOf_truck hr] at h
    cases h
  · rw [placeOf_trailer hr, Option.map_eq_some_iff] at h
    obtain ⟨j, hj, hplace⟩ := h
    obtain ⟨rfl, rfl⟩ := Prod.mk.inj (Sum.inr.inj hplace)
    exact ⟨(identifiedAs_iff s j).1 (decide_eq_true hj), (slotRow_eq_iff (by omega)).2 rfl⟩

theorem placeOf_slotRow {s : State} {k : EntryNo} (h : s.trailer = .identified k) (i : SlotNo) :
    placeOf s (slotRow i) = some (.inr (k, i)) := by
  have hrow : ¬ (slotRow i).val < 20 := by rw [slotRow_val]; omega
  have hslot : i = rowSlot (slotRow i) := (slotRow_eq_iff (by rw [slotRow_val]; omega)).1 rfl
  rw [placeOf_trailer hrow, h, ← hslot]
  rfl

theorem rowUsable_slotRow {s : State} {k : EntryNo} (h : s.trailer = .identified k) (i : SlotNo) :
    rowUsable s (slotRow i) = slotUsable s.tables.roster[k] i := by
  rw [Bool.eq_iff_iff, rowUsable_iff_place, placeOf_slotRow h]
  simp [placeUsableIn]

/-- Of trailer rows alone the records may be loose when the trailer is unloaded. -/
theorem WheelsLoose.unloaded {s : State} (h : WheelsLoose trailerRows s) (next : TrailerState) : WheelsSound (unload next s) := by
  unfold unload
  refine WheelsLoose.restart (h.rewritten rfl rfl (fun _ hr => hr) fun r hr => ?_)
  rw [mem_trailerRows] at hr
  exact setTrailer_rowId_truck next (by omega)

section
variable {s : State} (h : WheelsSound s)
include h

/-! ### The map (R5, R10, R11, R15, R16, R18) -/

theorem writeRowId_loose (r : Row) (id : Option SensorId) : WheelsLoose [r] (writeRowId r id s) := by
  have hwritten := writeRowId_frame r id s
  refine h.rewritten hwritten.wheels (by rw [writeRowId_tables]) nofun fun q hq => ?_
  have hne : q ≠ r := fun hqr => hq (hqr ▸ List.mem_cons_self)
  rw [rowId_eq_place, rowId_eq_place, placeOf_congr hwritten.trailer]
  cases hp : placeOf s q with
  | none => rfl
  | some p =>
    show idAtPlace _ p = idAtPlace _ p
    rw [writeRowId_place, if_neg fun hr => hne (placeOf_injective hp hr)]

theorem changeRow_sound (r : Row) (id : Option SensorId) : WheelsSound (changeRow r id s) :=
  (((writeRowId_loose h r id).beside (dropCandidates_frame id.toList _)).restart.beside (markDirty_frame _)).settled

theorem writeAxle_sound (a : Fin 5) (rec : AxleRecord) : WheelsSound (writeAxle a rec s).state := by
  unfold writeAxle
  split
  · exact h
  · let written := writeTables { s.tables with axles := s.tables.axles.set a rec } s
    have hempty := emptyRows_frame (strandedRows s written) written
    have hid := emptyRows_place (strandedRows s written) written
    have honly : IdsOnly written.tables (forRows (fun r => writeRowId r none) (strandedRows s written) written).tables :=
      .foldl (fun s r => .writeRowId r none s) _ written
    have husable : ∀ r, rowUsable (forRows (fun r => writeRowId r none) (strandedRows s written) written) r = rowUsable written r := fun r => by
      rw [Bool.eq_iff_iff, rowUsable_iff_place, rowUsable_iff_place, placeOf_congr hempty.trailer]
      simp only [honly.usable]
    show WheelsSound (settleProposal (restartRows (usabilityChanged s (forRows (fun r => writeRowId r none) (strandedRows s written) written))
      (forRows (fun r => writeRowId r none) (strandedRows s written) written)))
    refine (WheelsLoose.restart (h.rewritten hempty.wheels ?_ nofun fun r hr => ?_)).settled
    · rw [honly.rest]
      rfl
    · have hstranded : r ∉ strandedRows s written := fun hmem => hr <| by
        rw [mem_usabilityChanged, husable]
        simp only [strandedRows, List.mem_filter, Bool.and_eq_true, Bool.not_eq_true'] at hmem
        obtain ⟨-, ⟨hwas, hnow⟩, -⟩ := hmem
        rw [hwas, hnow]
        decide
      rw [rowId_eq_place, rowId_eq_place, placeOf_congr hempty.trailer]
      show (placeOf s r).bind _ = _
      cases hp : placeOf s r with
      | none => rfl
      | some p =>
        refine (hid p).trans ((if_neg ?_).trans ?_)
        · rintro ⟨q, hq, hqp⟩
          exact hstranded (placeOf_injective (s := s) hp hqp ▸ hq)
        · cases p <;> rfl

/-- An entry written: only the rows that show its slots may have changed. -/
theorem writeEntry_loose (k : EntryNo) (e : RosterEntry) {rows : List Row}
    (hrows : ∀ i : SlotNo, s.trailer = .identified k → slotRow i ∉ rows → e.slots[i] = s.tables.roster[k].slots[i]) :
    WheelsLoose rows (writeEntry k e s) := by
  refine h.rewritten rfl rfl nofun fun r hr => ?_
  rw [rowId_eq_place, rowId_eq_place]
  show (placeOf s r).bind _ = _
  cases hp : placeOf s r with
  | none => rfl
  | some p =>
    show idAtPlace (withEntry k e s.tables) p = idAtPlace s.tables p
    rcases p with q | ⟨j, i⟩
    · rfl
    · rw [withEntry_slot]
      split
      · next hkj =>
        subst hkj
        obtain ⟨htrailer, hslot⟩ := placeOf_slot hp
        exact hrows i htrailer (hslot ▸ hr)
      · rfl

/-- An axle record of an entry, with the slots that it makes unusable emptied. -/
theorem entryAxle_sound (k : EntryNo) (a : Fin 3) (rec : AxleRecord) : WheelsSound (axleFollows s k (writeEntry k
    (shedSlots s.tables.roster[k] { s.tables.roster[k] with axles := s.tables.roster[k].axles.set a rec }).1 s)) := by
  let e := (shedSlots s.tables.roster[k] { s.tables.roster[k] with axles := s.tables.roster[k].axles.set a rec }).1
  show WheelsSound (axleFollows s k (writeEntry k e s))
  unfold axleFollows
  split
  · next hident =>
    have htrailer : s.trailer = .identified k := (identifiedAs_iff s k).1 hident
    refine (liftChange_sound (WheelsLoose.restart (writeEntry_loose h k e fun i _ hi => ?_)) s).settled
    have hsame : slotUsable e i = slotUsable s.tables.roster[k] i := by
      rw [mem_usabilityChanged, not_not] at hi
      have hshown : ∀ t : State, t.trailer = .identified k → rowUsable t (slotRow i) = slotUsable t.tables.roster[k] i :=
        fun t ht => rowUsable_slotRow ht i
      have hnow := hshown (writeEntry k e s) htrailer
      have hentry : (writeEntry k e s).tables.roster[k] = e := (withEntry_roster k k e s.tables).trans (if_pos rfl)
      rw [hentry] at hnow
      exact hnow.symm.trans (hi.symm.trans (hshown s htrailer))
    have hshed : slotShed s.tables.roster[k] { s.tables.roster[k] with axles := s.tables.roster[k].axles.set a rec } i = false := by
      have hlater : slotUsable { s.tables.roster[k] with axles := s.tables.roster[k].axles.set a rec } i = slotUsable e i := rfl
      rw [slotShed, hlater, hsame]
      cases slotUsable s.tables.roster[k] i <;> rfl
    have hat : e.slots[i] = if slotShed s.tables.roster[k] { s.tables.roster[k] with axles := s.tables.roster[k].axles.set a rec } i
        then none else s.tables.roster[k].slots[i] := by simp [e, shedSlots]
    rw [hat, hshed]
    rfl
  · next hident =>
    have hwritten : WheelsSound (writeEntry k e s) :=
      writeEntry_loose h k e fun _ htrailer _ => absurd ((identifiedAs_iff s k).2 htrailer) hident
    exact recheckEntry_sound hwritten s k

theorem slot_sound (k : EntryNo) (t : SlotNo) (id : Option SensorId) : WheelsSound (slotFollows s k t (dropCandidates id.toList
    (writeEntry k { s.tables.roster[k] with slots := s.tables.roster[k].slots.set t id } s))) := by
  unfold slotFollows
  refine WheelsLoose.settled ?_
  split
  · refine WheelsLoose.restart (WheelsLoose.beside (writeEntry_loose h k _ fun i _ hi => ?_) (dropCandidates_frame _ _))
    have hne : t ≠ i := fun hti => hi (hti ▸ List.mem_cons_self)
    exact Vector.getElem_set_ne t.isLt i.isLt fun hval => hne (Fin.ext hval)
  · next hident =>
    have hwritten : WheelsSound (writeEntry k { s.tables.roster[k] with slots := s.tables.roster[k].slots.set t id } s) :=
      writeEntry_loose h k _ fun _ htrailer _ => absurd ((identifiedAs_iff s k).2 htrailer) hident
    exact recheckEntry_sound (hwritten.beside (dropCandidates_frame _ _)) s k

theorem clear_sound (k : EntryNo) : WheelsSound (clearFollows k (writeEntry k .free s)) := by
  unfold clearFollows
  split
  · have hloose : WheelsLoose trailerRows (writeEntry k .free s) := writeEntry_loose h k _ fun i _ hi =>
      absurd ((mem_trailerRows _).2 (by rw [slotRow_val]; omega)) hi
    generalize writeEntry k .free s = t at hloose
    exact ((hloose.unloaded .unknown).raised .trailerUnknown none none).settled
  · next hident =>
    have hwritten : WheelsSound (writeEntry k .free s) :=
      writeEntry_loose h k _ fun _ htrailer _ => absurd ((identifiedAs_iff s k).2 htrailer) hident
    split
    · exact hwritten.beside (setRecog_frame _ _)
    · exact hwritten

end

end Sys2Proof.Machine
end

section
/-! The wheel records through every request, save and reset: every step keeps their laws. The settlement of O57. -/

namespace Sys2Proof.Machine

set_option Elab.async false

/-! ### The acts of the owners -/

section
variable {s : State} (h : WheelsSound s)
include h

theorem settingEffect_sound (before : State) (k : Setting) : WheelsSound (settingEffect before k s) := by
  cases k
  case candidateAgeS => exact (h.beside (setCandidates_frame _ s)).settled
  case movingSpeedKmh => exact (h.stepFrame (retime_step before s) (retime_frame before s)).moved
  case proposalDelayS => exact h.beside (dueAfterWrite_frame before s)
  case laneEnableMask | parkLane => exact h.beside (relane_frame s)
  all_goals exact h

/-- Tables written that name the same IDs and announce alike. -/
theorem writeTables_sound {v : Tables} (hannounce : v.announce = s.tables.announce) (hid : ∀ r, rowId (writeTables v s) r = rowId s r) :
    WheelsSound (writeTables v s) := h.rewritten rfl hannounce nofun fun r _ => hid r

theorem writeSettings_sound (v : Settings) : WheelsSound (writeTables { s.tables with settings := v } s) :=
  writeTables_sound h rfl fun _ => rfl

theorem writeTag_sound (k : EntryNo) (tag : BitVec 16) : WheelsSound (writeEntry k { s.tables.roster[k] with tag := tag } s) :=
  writeEntry_loose h k _ fun _ _ _ => rfl

theorem limits_sound (g : GroupNo) (x : ThresholdGroup) {rows : List Row} (hnodup : rows.Nodup) (hclosed : ∀ r ∈ rows, partner r ∈ rows) :
    WheelsSound (reevaluate rows (writeTables (withGroup g x s.tables) s)) := by
  have hwritten : WheelsSound (writeTables (withGroup g x s.tables) s) := writeTables_sound h rfl fun _ => rfl
  exact hwritten.stepFrame (reevaluate_step _ hnodup hclosed) (reevaluate_frame _ _)

theorem announce_sound (a : Announce) : WheelsSound (forRows reannounce allRows (writeTables { s.tables with announce := a } s)) := by
  let written := writeTables { s.tables with announce := a } s
  have hlaws : WheelLaws (fun _ => True) written := ⟨h.laws.ring, fun _ hr => absurd trivial hr, h.laws.imbalance, h.laws.vacant⟩
  have hframe := reannounceRows_frame allRows written
  have hvacant := (WheelStep.forRows reannounce_step allRows written).vacant
  have hdone : WheelLaws (fun _ => False) (forRows reannounce allRows written) :=
    (hlaws.reannounceRows allRows).mono fun q hq => hq.2 (mem_allRows q)
  refine ⟨hdone, fun r hr => (hvacant r).trans ?_⟩
  rw [hframe.rowId]
  exact h.vacancy r hr

theorem accept_sound (r : Row) (id : SensorId) : WheelsSound (acceptProposal r id s) := by
  let asked := s.setEnc { s.enc with proposal := none }
  have hasked : WheelsSound asked := h.beside (setEnc_frame _ s)
  have hloose := writeRowId_loose hasked r (some id)
  have hrestarted := (hloose.beside (dropCandidates_frame [id] _)).restart
  exact (((hrestarted.beside (markDirty_frame _)).beside (requestSave_frame _)).raised _ _ _).searched

theorem reject_sound (r : Row) (id : SensorId) : WheelsSound (rejectProposal r id s) := h.beside (rejectProposal_frame r id s)

end

theorem limitRows_closed (s : State) (g : GroupNo) (load : LoadState) :
    ∀ r ∈ (groupRows s g).filter (fun r => decide ((unitLoad s (unitOfRow r)).applied = load)),
      partner r ∈ (groupRows s g).filter fun r => decide ((unitLoad s (unitOfRow r)).applied = load) := by
  intro r hr
  obtain ⟨hgroup, hload⟩ := List.mem_filter.1 hr
  refine List.mem_filter.2 ⟨?_, ?_⟩
  · exact partner_group r hgroup
  · rw [partner_unit]
    exact hload

theorem Act.sound {b u : State} (h : Act b u) (hb : WheelsSound b) : WheelsSound u := by
  cases h
  case nothing => exact hb
  case setting k v => exact settingEffect_sound (writeSettings_sound hb _) b k
  case link => exact writeTables_sound hb rfl fun _ => rfl
  case guard level => exact (writeTables_sound (v := { b.tables with guardLevel := level }) hb rfl fun _ => rfl).beside (requestSave_frame _)
  case freeze => exact (hb.beside (setMgu_frame _ b)).ended _
  case offline => exact hb.entered _
  case active => exact (((hb.mono fun _ hr => absurd hr List.not_mem_nil).restart (rows := allRows)).entered _).settled
  case save => exact hb.beside (startSave_frame b)
  case axle a rec _ => exact writeAxle_sound hb a rec
  case writeRow r id _ _ _ _ _ => exact changeRow_sound hb r (some id)
  case clearRow r _ _ => exact changeRow_sound hb r none
  case tag k tag _ _ => exact writeTag_sound hb k tag
  case entryAxle k a rec _ _ => exact entryAxle_sound hb k a rec
  case slot k t id _ _ _ => exact slot_sound hb k t id
  case rosterClear k _ => exact clear_sound hb k
  case select k _ _ _ => exact selectTrailer_sound hb k
  case limits g load asked _ _ _ => exact limits_sound hb g _ ((groupRows_nodup _ _).filter _) (limitRows_closed _ g load)
  case temperatures g asked _ _ _ => exact limits_sound hb g _ (groupRows_nodup _ _) partner_group
  case announce a _ _ => exact announce_sound hb a
  case order => exact hb.beside (setEnc_frame _ b)
  case start allowMove _ _ _ => exact hb.beside (openSession_frame allowMove b)
  case cancel => exact hb.ended _
  case accept r id _ _ => exact accept_sound hb r id
  case reject r id _ => exact reject_sound hb r id
  case laneFlags mask => exact hb.beside (setLanes_frame _ b)
  case event => exact hb.rewritten rfl rfl nofun fun _ _ => rfl
  case snapshot => exact hb.beside (setLink_frame _ b)

/-! ### Resets and saves -/

/-- Fresh records without IDs on them break no law. -/
theorem wheelLaws_of_fresh {s : State} {status : Row → WheelStatus} (h : ∀ r, s.wheel r = .fresh (status r)) : WheelLaws (fun _ => False) s := by
  refine ⟨fun r => ?_, fun r _ => ?_, fun r => ?_, fun r _ => ?_⟩
  · rw [h]
    exact ringLegal_empty
  · rw [AnnouncedLegal, h]
    exact (announcedOf_zero _).symm
  · rw [ImbalanceLegal, h, h]
    rfl
  · rw [h]
    rfl

theorem enterStarting_sound (before : Link) (s : State) : WheelsSound (enterStarting before s) := by
  have h := enterStarting_restarting before s
  generalize enterStarting before s = t at h
  refine ⟨wheelLaws_of_fresh h.wheels, fun r _ => ?_⟩
  rw [h.wheels]
  cases rowId t r with
  | none => exact iff_of_true rfl rfl
  | some x => exact iff_of_false (by exact WheelStatus.noConfusion) nofun

theorem clearVolatile_wheelsLegal (s : State) {p : Phase} (hp : p ≠ .running) : WheelsLegal ((clearVolatile s).setPhase p) := by
  rw [clearVolatile_eq]
  refine wheelsLegal_iff.2 ⟨wheelLaws_of_fresh (status := fun _ => .vacant) fun r => ?_, fun hrun => absurd hrun hp⟩
  simp [cleared, State.wheel]

theorem Deferral.sound {b u : State} (h : Deferral b u) (hb : WheelsSound b) : WheelsSound u := by
  cases h
  case restart => exact enterStarting_sound _ b
  case restartLater => exact hb.beside (setMgu_frame _ b)
  case offlineLater => exact hb.beside (setOsc_frame _ b)

theorem completeSave_sound (c : Tables) {s : State} (h : WheelsSound s) : WheelsSound (completeSave c s) := by
  have hdone : completeSave c s = takeDeferredRestart (takeDeferredOffline (savedAgain c s)) := rfl
  have hsaved := h.beside (savedAgain_frame c s)
  rw [hdone]
  generalize savedAgain c s = t at hsaved
  have hoffline : WheelsSound (takeDeferredOffline t) := by
    unfold takeDeferredOffline
    split
    · exact hsaved
    · have hosc := hsaved.beside (setOsc_frame { t.osc with deferredOffline := none } t)
      dsimp only
      split
      · exact hosc.beside (respond_frame _ _ _ _ _)
      · exact (hosc.entered _).beside (respond_frame _ _ _ _ _)
  unfold takeDeferredRestart
  split
  · exact enterStarting_sound _ _
  · exact hoffline

/-! ### Every step -/

theorem takeOff_sound {s : State} (h : WheelsSound s) : WheelsSound (takeOff s) := by
  have hlink := h.beside (setLink_frame { s.link with requests := s.link.requests.tail } s)
  unfold takeOff
  refine WheelsLoose.beside ?_ (notice_frame _ _)
  dsimp only
  split
  · exact hlink.entered _
  · exact hlink

theorem Work.sound {s t : State} (h : Work s t) (hs : WheelsSound s) : WheelsSound t := by
  cases h
  case nothing => exact hs
  case ignition on => exact hs.ignition on
  case crankOn => exact hs.beside (crankAssert_frame s)
  case crankOff => exact hs.beside (crankRelease_frame s)
  case resume => exact hs.beside (resumeExpiry_frame s)
  case saved c _ _ => exact completeSave_sound c hs
  case loaded | sleeps => exact hs.entered _
  case parks => exact hs.parked
  case bit hmoved => exact hs.beside hmoved.frame
  case link hmoved => exact hs.beside hmoved.frame
  case record x rest _ _ => exact acceptRecord_sound (hs.beside (setHanded_frame rest s)) x
  case window hrec =>
    have hmoved := unidentified_sound hs (v := .unknown) (by rw [hrec]; nofun) nofun
    exact ((hmoved.beside (setWindow_frame _ _)).beside (setRecog_frame _ _)).raised _ _ _
  case aged keeps => exact (hs.beside (setCandidates_frame _ s)).settled
  case stale r hlive => exact hs.stepFrame (goStale_step (by rw [hlive]; exact WheelStatus.noConfusion)) (goStale_frame r s)
  case missing r hholds => exact hs.stepFrame (goMissing_step (holdsMissing_not_vacant hholds)) (goMissing_frame r s)
  case repeats r => exact alertRepeat_sound hs r
  case due r => exact (hs.beside (putEpisode_frame r _ s)).searched
  case stepTimeout => exact hs.ended _
  case vehicle data _ _ => exact takeVehicleData_sound (hs.beside (fixRate_frame s)) data
  case frameTimeout => exact frameTimeout_sound hs
  case settle u load => exact applyLoad_sound hs u load
  case request code tag result bytes _ hact => exact (hact.sound (takeOff_sound hs)).beside (respond_frame code tag result bytes _)
  case defers _ hlater => exact hlater.sound (takeOff_sound hs)

theorem wheelsLegal_of_frame {c : List Field} {s t : State} (h : WheelsLegal s) (hf : Frame c s t) (k₀ : Field.wheels ∉ c := by decide)
    (k₁ : Field.tables ∉ c := by decide) (k₂ : Field.trailer ∉ c := by decide) (k₃ : Field.phase ∉ c := by decide) : WheelsLegal t := by
  obtain ⟨hlaws, hvacant⟩ := wheelsLegal_iff.1 h
  refine wheelsLegal_iff.2 ⟨(WheelStep.of_frame hf k₀ k₁).laws _ hlaws, fun hrun r => ?_⟩
  rw [hf.wheel r k₀, hf.rowId k₁ k₂]
  exact hvacant ((hf.phase k₃).symm.trans hrun) r

theorem Effect.wheelsLegal {s t : State} (h : Effect s t) (hs : WheelsLegal s) : WheelsLegal t := by
  obtain ⟨hlaws, hvacant⟩ := wheelsLegal_iff.1 hs
  cases h
  case works hrun hwork => exact (hwork.sound ⟨hlaws, fun r _ => hvacant hrun r⟩).legal
  case stopped => exact hs
  case lines l _ => exact wheelsLegal_of_frame hs (setLines_frame l s)
  case cold => exact (enterStarting_sound _ _).legal
  case loss => exact clearVolatile_wheelsLegal _ nofun
  case asserted => exact clearVolatile_wheelsLegal _ nofun
  case released => exact (enterStarting_sound _ _).legal

theorem tick_wheelsLegal {s : State} (h : WheelsLegal s) : WheelsLegal (tick s) := by
  unfold tick
  split
  · exact h
  · exact wheelsLegal_of_frame h (setClock_frame _ s)
  · exact wheelsLegal_of_frame (wheelsLegal_of_frame (wheelsLegal_of_frame h (setClock_frame _ s)) (growEpisodes_frame _)) (spendWriteTime_frame _)

/-- Settles O57: each operation on the records judges, announces or restarts as the laws ask. -/
theorem wheelsStayLawful : Obligations.WheelsStayLawful := by
  intro s t hs h
  rcases step_cases h with ⟨-, rfl⟩ | ⟨c, rest, -, heffect⟩
  · exact tick_wheelsLegal hs
  · exact heffect.wheelsLegal (wheelsLegal_of_frame hs (setPending_frame rest s))

end Sys2Proof.Machine
end

section
/-! An open proposal through every step: its row stays MISSING and its candidate listed (R57, R129). -/

namespace Sys2Proof.Machine

set_option Elab.async false

/-! ### Rows that stay MISSING -/

/-- No row leaves MISSING. -/
structure MissingStep (s t : State) : Prop where
  kept : ∀ r, (s.wheel r).status = .missing → (t.wheel r).status = .missing

namespace MissingStep

variable {s t u : State}

theorem trans (h : MissingStep s t) (k : MissingStep t u) : MissingStep s u := ⟨fun r hr => k.kept r (h.kept r hr)⟩

theorem of_status (h : ∀ r, (t.wheel r).status = (s.wheel r).status) : MissingStep s t := ⟨fun r hr => (h r).trans hr⟩

theorem of_frame {c : List Field} (h : Frame c s t) (k : Field.wheels ∉ c := by decide) : MissingStep s t :=
  .of_status fun r => by rw [h.wheel r k]

theorem refl (s : State) : MissingStep s s := .of_status fun _ => rfl

theorem ite {p : Prop} [Decidable p] (h : p → MissingStep s t) (k : ¬ p → MissingStep s u) : MissingStep s (if p then t else u) := by
  split
  · exact h ‹_›
  · exact k ‹_›

theorem putWheel {r : Row} {w : WheelRecord} (h : (s.wheel r).status = .missing → w.status = .missing) : MissingStep s (putWheel r w s) := by
  refine ⟨fun q hq => ?_⟩
  rw [putWheel_wheel]
  split
  · next hqr => exact h (hqr ▸ hq)
  · exact hq

theorem of_judging {P : Row → Prop} (h : Judging P s t) : MissingStep s t := .of_status fun r => (h.rejudged r).status

theorem reannounce (r : Row) (s : State) : MissingStep s (reannounce r s) := .of_status fun q => (reannounce_reading r q s).status

theorem forRows {f : Row → State → State} (h : ∀ r s, MissingStep s (f r s)) (rows : List Row) (s : State) :
    MissingStep s (forRows f rows s) := by
  induction rows generalizing s with
  | nil => exact .refl s
  | cons r rows ih => exact (h r s).trans (ih (f r s))

end MissingStep

theorem goMissing_missing (r : Row) (s : State) : MissingStep s (goMissing r s) := by
  obtain ⟨d, hd⟩ := goMissing_wheel r s
  refine ⟨fun q hq => ?_⟩
  rw [hd]
  split
  · rfl
  · exact hq

theorem retimeRow_missing (before : State) (r : Row) (s : State) : MissingStep s (retimeRow before r s) := by
  unfold retimeRow
  dsimp only
  refine .ite (fun _ => .refl s) fun hgo => ?_
  have hnot : (s.wheel r).status ≠ .missing := fun hmissing => hgo (.inr (.inr (by rw [hmissing]; rfl)))
  have hdated : ∀ base, MissingStep s (putWheel r (withDeadlines s r base (s.wheel r)) s) := fun base => .putWheel id
  refine .ite (fun _ => hdated _) fun _ => (hdated ((s.wheel r).base.getD s.now)).trans ?_
  have hnow : ((putWheel r (withDeadlines s r ((s.wheel r).base.getD s.now) (s.wheel r)) s).wheel r).status ≠ .missing := by
    rw [putWheel_wheel, if_pos rfl]
    exact hnot
  generalize putWheel r (withDeadlines s r ((s.wheel r).base.getD s.now) (s.wheel r)) s = t at hnow
  have hstale : MissingStep t (if due t (t.wheel r).staleAt = true then goStale r t else t) :=
    .ite (fun _ => .putWheel fun hmissing => absurd hmissing hnow) fun _ => .refl t
  exact hstale.trans (.ite (fun _ => goMissing_missing r _) fun _ => .refl _)

theorem reevaluate_missing {rows : List Row} (s : State) (hnodup : rows.Nodup) (hclosed : ∀ r ∈ rows, partner r ∈ rows) :
    MissingStep s (reevaluate rows s) := .of_status fun r => ((reevaluate_reevaluated s hnodup hclosed).reading r).status

theorem raiseRest_missing (before : State) (r : Row) (s : State) : MissingStep s (raiseRest before r s) := by
  unfold raiseRest
  dsimp only
  have hcounters : MissingStep s (setCounter r .imbalance 0 (setCounter r .leak 0 (setCounter r .lowWarn 0 s))) :=
    .of_judging (((setCounter_judging r _ 0 s).trans (setCounter_judging r _ 0 _)).trans (setCounter_judging r _ 0 _))
  refine hcounters.trans ?_
  generalize setCounter r .imbalance 0 (setCounter r .leak 0 (setCounter r .lowWarn 0 s)) = t
  have hput : MissingStep t (putWheel r { t.wheel r with ring := [], leakRate := none } t) := .putWheel id
  exact hput.trans (retimeRow_missing before r _)

theorem raiseRows_missing (before : State) (rows : List Row) (s : State) : MissingStep s (raiseRows before rows s) := by
  unfold raiseRows
  dsimp only
  refine (((MissingStep.forRows (fun r t => .of_judging (raiseWheel_judging r t)) _ s).trans (.forRows (fun r t => ?_) _ _)).trans
    (.forRows (raiseRest_missing before) _ _)).trans (.forRows MissingStep.reannounce _ _)
  exact .ite (fun _ => .of_judging (setImbalance_judging (on := false) nofun)) fun _ => .refl t

theorem liftChange_missing (before s : State) : MissingStep s (liftChange before s) := by
  have hone : ∀ (a : AxleNo) (t : State), MissingStep t (liftAxle before a t) := fun a t =>
    .ite (fun _ => .refl t) fun _ => .ite (fun _ => raiseRows_missing before _ t) fun _ =>
      (reevaluate_missing t (axleRows_nodup a) fun _ => partner_axleRows).trans (.forRows (retimeRow_missing before) _ _)
  have hfold : ∀ (axles : List AxleNo) (t : State), MissingStep t (axles.foldl (fun s a => liftAxle before a s) t) := by
    intro axles
    induction axles with
    | nil => exact fun t => .refl t
    | cons a axles ih => exact fun t => (hone a t).trans (ih _)
  exact .ite (fun _ => .refl s) fun _ => hfold _ s

theorem enterState_missing (n : OpState) (s : State) : MissingStep s (enterState n s) := by
  obtain ⟨-, -, -, hwheels, -⟩ := enterState_entered n s
  refine ⟨fun r hr => ?_⟩
  rw [hwheels r]
  exact (if_neg fun hlive => absurd (hr.symm.trans hlive.2) (by decide)).trans hr

/-! ### Proposals -/

/-- A proposal stands only while no session is open. -/
def ProposalAside (s : State) : Prop := s.enc.session ≠ none → s.enc.proposal = none

/-- An open proposal is sound, and stands beside no session. -/
structure ProposalSound (s : State) : Prop where
  legal : ProposalLegal s
  aside : ProposalAside s

theorem ProposalSound.of_none {s : State} (h : s.enc.proposal = none) : ProposalSound s :=
  ⟨fun _ hp => absurd (h.symm.trans hp) nofun, fun _ => h⟩

namespace ProposalAside

variable {s t : State}

theorem of_enc (h : ProposalAside s) (hproposal : t.enc.proposal = s.enc.proposal) (hsession : t.enc.session ≠ none → s.enc.session ≠ none) :
    ProposalAside t := fun ht => hproposal.trans (h (hsession ht))

theorem beside {c : List Field} (h : ProposalAside s) (hf : Frame c s t) (k : Field.enc ∉ c := by decide) : ProposalAside t :=
  h.of_enc (by rw [hf.enc k]) (by rw [hf.enc k]; exact id)

theorem raised (h : ProposalAside s) (kind : EventKind) (row : Option Row) (value : Option Nat) :
    ProposalAside (raiseEvent kind row value s) := h.beside (raiseEvent_frame kind row value s)

theorem searched (h : ProposalAside s) : ProposalAside (search s) := by
  by_cases hclosed : s.enc.session = none
  · obtain ⟨p, hp⟩ := search_enc s
    intro hopen
    rw [hp] at hopen
    exact absurd hclosed hopen
  · rw [search_enc_of_open hclosed]
    exact h

theorem ended (h : ProposalAside s) (how : Ending) : ProposalAside (endSession how s) := by
  cases hsession : s.enc.session with
  | none =>
    rw [endSession_of_closed how hsession]
    exact h
  | some i =>
    obtain ⟨p, hp⟩ := endSession_enc how hsession
    intro hopen
    rw [hp] at hopen
    exact absurd rfl hopen

theorem trailerLost (h : ProposalAside s) : ProposalAside (sessionTrailerLost s) := by
  unfold sessionTrailerLost
  split
  · exact h.ended _
  · exact h

/-- Settling makes sound whatever stands. -/
theorem settled (h : ProposalAside s) : ProposalSound (settleProposal s) := by
  have hf := settleProposal_frame s
  refine ⟨fun p hp => ?_, fun hopen => ?_⟩
  · rw [hf.wheel, hf.candidates]
    exact settleProposal_proposal hp
  · obtain ⟨p, hp⟩ := settleProposal_enc s
    have hsession : (settleProposal s).enc.session = s.enc.session := by rw [hp]
    rw [settleProposal_of_none (h (hsession ▸ hopen))]
    exact h (hsession ▸ hopen)

end ProposalAside

namespace ProposalSound

variable {s t : State}

/-- Work that keeps the rows MISSING, the candidates and ENC. -/
theorem step {c : List Field} (h : ProposalSound s) (k : MissingStep s t) (hf : Frame c s t) (k₁ : Field.enc ∉ c := by decide)
    (k₂ : Field.candidates ∉ c := by decide) : ProposalSound t := by
  refine ⟨fun p hp => ?_, h.aside.beside hf k₁⟩
  rw [hf.enc k₁] at hp
  obtain ⟨hmissing, hlisted⟩ := h.legal p hp
  exact ⟨k.kept _ hmissing, by rwa [hf.candidates k₂]⟩

theorem beside {c : List Field} (h : ProposalSound s) (hf : Frame c s t) (k₀ : Field.wheels ∉ c := by decide)
    (k₁ : Field.enc ∉ c := by decide) (k₂ : Field.candidates ∉ c := by decide) : ProposalSound t := h.step (.of_frame hf k₀) hf k₁ k₂

/-- ENC may change beside the proposal, as long as no session opens. -/
theorem setEnc (h : ProposalSound s) {v : Enrolment} (hproposal : v.proposal = s.enc.proposal)
    (hsession : v.session ≠ none → s.enc.session ≠ none) : ProposalSound (s.setEnc v) :=
  ⟨fun p hp => h.legal p (hproposal.symm.trans hp), h.aside.of_enc hproposal hsession⟩

theorem raised (h : ProposalSound s) (kind : EventKind) (row : Option Row) (value : Option Nat) :
    ProposalSound (raiseEvent kind row value s) := h.beside (raiseEvent_frame kind row value s)

theorem searched (h : ProposalSound s) : ProposalSound (search s) := by
  have hf := search_frame s
  refine ⟨fun p hp => ?_, h.aside.searched⟩
  rw [hf.wheel, hf.candidates]
  rcases search_proposal hp with hopen | ⟨hdue, hlisted⟩
  · exact h.legal p hopen
  · obtain ⟨hmissing, -⟩ := hdue
    exact ⟨hmissing, hlisted⟩

theorem settled (h : ProposalSound s) : ProposalSound (settleProposal s) := h.aside.settled

theorem entered (h : ProposalSound s) (n : OpState) : ProposalSound (enterState n s) := h.step (enterState_missing n s) (enterState_frame n s)

theorem sessionClosed (h : ProposalSound s) : ProposalSound (sessionClosed s) := by
  unfold Machine.sessionClosed
  split
  · have hosc := setOsc_frame { s.osc with parkPending := false } s
    dsimp only
    split
    · exact h.beside hosc
    · exact (h.beside hosc).entered _
  · exact h

theorem ended (h : ProposalSound s) (how : Ending) : ProposalSound (endSession how s) := by
  unfold endSession
  split
  · exact h
  · exact (((h.setEnc (v := closedEnc s.enc how 0 0) rfl fun hopen => absurd rfl hopen).raised _ _ _).sessionClosed).searched

theorem parked (h : ProposalSound s) : ProposalSound (parkDelayDone s) := by
  have hosc := h.beside (setOsc_frame { s.osc with parkDelay := none } s)
  unfold parkDelayDone
  dsimp only
  split
  · exact hosc.beside (setOsc_frame _ _)
  · exact hosc.entered _

theorem ignition (h : ProposalSound s) (on : Bool) : ProposalSound (ignitionTo on s) := by
  unfold ignitionTo
  split
  · exact h
  · have hlines := h.beside (setLines_frame { s.lines with ignition := on } s)
    dsimp only
    split
    · split
      · exact hlines.parked
      · exact hlines.beside (setOsc_frame _ _)
    · exact hlines.beside (setOsc_frame _ _)
    · exact hlines.entered _
    · exact hlines.entered _
    · exact hlines

theorem moved (h : ProposalSound s) : ProposalSound (sessionMoved s) := by
  unfold sessionMoved
  split
  · exact h.ended _
  · exact h

end ProposalSound

end Sys2Proof.Machine
end

section
/-! An open proposal through the sessions, the trailer, the acceptance of telegrams and the vehicle data. -/

namespace Sys2Proof.Machine

set_option Elab.async false

/-! ### Sessions -/

section
variable {s : State}

theorem completeSession_proposal (i : Nat) (h : s.enc.proposal = none) : ProposalSound (completeSession i s) := by
  unfold completeSession
  split
  · rw [applyCompletion_eq]
    refine ProposalSound.searched (ProposalSound.sessionClosed (.of_none ?_))
    rw [completedState_enc]
    exact h
  · exact (ProposalSound.of_none h).ended _

theorem advance_proposal (i : Nat) (h : s.enc.proposal = none) : ProposalSound (advance i s) := by
  unfold advance
  split
  · exact .of_none h
  · exact completeSession_proposal i h

theorem acceptAnswer_proposal (i : Nat) (r : Row) (id : SensorId) (source : Option Row) (h : s.enc.proposal = none) :
    ProposalSound (acceptAnswer i r id source s) := by
  refine advance_proposal i ?_
  rw [stepEvent, (raiseEvent_frame _ _ _ _).enc]
  exact h

theorem takeAnswer_proposal (h : ProposalSound s) (c : AnswerClass) (id : SensorId) : ProposalSound (takeAnswer c id s) := by
  unfold takeAnswer
  split
  · exact h
  · next i hsession =>
    have hnone : s.enc.proposal = none := h.aside (by rw [hsession]; exact Option.some_ne_none i)
    split
    · exact h
    · split
      · exact h.raised _ _ _
      · split
        · exact h.raised _ _ _
        · exact acceptAnswer_proposal _ _ _ _ hnone
        · split
          · exact acceptAnswer_proposal _ _ _ _ hnone
          · split
            · exact acceptAnswer_proposal _ _ _ _ hnone
            · exact h.raised _ _ _

theorem takeTool_proposal (h : ProposalSound s) (code : Nat) : ProposalSound (takeTool code s) := by
  unfold takeTool
  split
  · exact h
  · next i hsession =>
    have hnone : s.enc.proposal = none := h.aside (by rw [hsession]; exact Option.some_ne_none i)
    split
    · refine advance_proposal i ?_
      rw [(raiseEvent_frame _ _ _ _).enc]
      exact hnone
    · split
      · unfold stepBack
        split
        · exact .of_none hnone
        · exact .of_none hnone
      · split
        · exact h.ended _
        · exact h

/-! ### The trailer -/

theorem identify_aside (h : ProposalAside s) (k : EntryNo) : ProposalAside (identify k s) := by
  refine h.of_enc ?_ ?_ <;> rw [identify_enc]
  exact id

theorem checkRecognition_proposal (h : ProposalSound s) (k : EntryNo) : ProposalSound (checkRecognition k s) := by
  unfold checkRecognition
  dsimp only
  split
  · exact (identify_aside h.aside k).settled
  · exact h

theorem recheckEntry_proposal (h : ProposalSound s) (before : State) (k : EntryNo) : ProposalSound (recheckEntry before k s) := by
  unfold recheckEntry
  split
  · exact checkRecognition_proposal (h.beside (setRecog_frame _ s)) k
  · exact h

theorem connectTrailer_proposal (h : ProposalSound s) : ProposalSound (connectTrailer s) := by
  unfold connectTrailer
  split
  · exact ((h.beside (setTrailer_frame _ s)).beside (setWindow_frame _ _)).beside (setRecog_frame _ _)
  · exact h

theorem unload_aside (h : ProposalAside s) (next : TrailerState) : ProposalAside (unload next s) := h.beside (unload_frame_kept next s)

theorem disconnectTrailer_proposal (h : ProposalSound s) : ProposalSound (disconnectTrailer s) := by
  unfold disconnectTrailer
  split
  · exact h
  · refine ProposalAside.settled (ProposalAside.trailerLost (ProposalAside.raised (ProposalAside.beside (ProposalAside.beside ?_ (setWindow_frame _ _))
      (setRecog_frame _ _)) _ _ _))
    split
    · exact unload_aside h.aside .none
    · exact h.aside.beside (setTrailer_frame _ s)

theorem selectTrailer_proposal (h : ProposalSound s) (k : EntryNo) : ProposalSound (selectTrailer k s) := by
  unfold selectTrailer
  split
  · exact h
  · refine (identify_aside ?_ k).settled
    split
    · exact (unload_aside h.aside .unknown).trailerLost
    · exact h.aside

/-! ### Acceptance -/

theorem handToEnc_proposal {act : State → State} (h : ProposalSound s) (hact : ∀ u, ProposalSound u → ProposalSound (act u))
    (t : TelegramRecord) : ProposalSound (handToEnc act t s) := by
  unfold handToEnc
  split
  · exact hact _ (h.setEnc rfl id)
  · exact h

theorem takeEnrolled_proposal (h : ProposalSound s) (r : Row) (t : TelegramRecord) : ProposalSound (takeEnrolled r t s) := by
  have hnoted : ProposalSound (noteRssi r t s) := h.step (.putWheel id) (putWheel_frame r _ s)
  unfold takeEnrolled
  dsimp only
  split
  · exact hnoted
  · have hmeasured := hnoted.aside.beside (measure_frame r t (noteRssi r t s))
    refine ProposalAside.settled ?_
    split
    · next hopen =>
      exact (takeAnswer_proposal (.of_none (hmeasured ((sessionOpen_iff _).1 hopen.1))) _ _).aside
    · exact hmeasured

theorem takeCandidate_proposal (h : ProposalSound s) (t : TelegramRecord) : ProposalSound (takeCandidate t s) := by
  unfold takeCandidate
  split
  · next c hc =>
    have hsame : (updateCandidate s t c).id = t.id := by
      rw [updateCandidate_id]
      simpa using List.find?_some hc
    have hids := updatedCandidates_ids hsame s.candidates
    have hupdated : ProposalSound (s.setCandidates (s.candidates.map fun x => if x.id = t.id then updateCandidate s t c else x)) := by
      refine ⟨fun p hp => ?_, h.aside.beside (setCandidates_frame _ s)⟩
      obtain ⟨hmissing, hlisted⟩ := h.legal p hp
      exact ⟨hmissing, hids ▸ hlisted⟩
    dsimp only
    split
    · exact hupdated.searched
    · exact hupdated
  · exact (h.aside.beside (setCandidates_frame _ s)).settled.searched

theorem acceptRecord_proposal (h : ProposalSound s) (t : TelegramRecord) : ProposalSound (acceptRecord t s) := by
  unfold acceptRecord
  split
  · exact h
  · unfold classify
    by_cases htool : inToolBlock t.id = true
    · rw [if_pos htool]
      exact handToEnc_proposal h (fun _ hu => takeTool_proposal hu _) t
    · rw [if_neg htool]
      cases rowHolding s t.id with
      | some r => exact takeEnrolled_proposal h r t
      | none =>
        cases slotsWith s t.id with
        | nil =>
          show ProposalSound (takeUnknown t s)
          unfold takeUnknown
          split
          · exact handToEnc_proposal h (fun _ hu => takeAnswer_proposal hu _ _) t
          · exact takeCandidate_proposal h t
        | cons p rest =>
          show ProposalSound (takeForeign p.1 p.2 t s)
          have hcounted : ProposalSound (if s.trailer = .recognising ∧ (!slotCopy s p.1 p.2 t) = true then countTelegram p.1 p.2 t s else s) := by
            split
            · exact checkRecognition_proposal (h.beside (setRecog_frame _ s)) p.1
            · exact h
          unfold takeForeign
          dsimp only
          split
          · exact handToEnc_proposal hcounted (fun _ hu => takeAnswer_proposal hu _ _) t
          · exact hcounted

/-! ### Vehicle data -/

theorem setSpeed_proposal (h : ProposalSound s) (speed : Option Nat) : ProposalSound (setSpeed speed s) := by
  unfold setSpeed
  split
  · exact h
  · exact ((h.beside (setVdm_frame _ s)).step (.forRows (retimeRow_missing s) _ _) (retime_frame s _)).moved

theorem putUnit_proposal (h : ProposalSound s) (u : UnitName) (v : UnitLoad) : ProposalSound (putUnit u v s) := h.beside (putUnit_frame u v s)

theorem applyLoad_proposal (h : ProposalSound s) (u : UnitName) (load : LoadState) : ProposalSound (applyLoad u load s) := by
  have hput := putUnit_proposal h u { unitLoad s u with applied := load, settle := none }
  unfold applyLoad
  dsimp only
  split
  · exact hput
  · refine hput.step (reevaluate_missing _ (unitRows_nodup u) fun r hr => ?_) (reevaluate_frame _ _)
    rw [mem_unitRows] at hr ⊢
    rw [partner_unit, hr]

theorem settleLoad_proposal (h : ProposalSound s) (u : UnitName) (load : LoadState) : ProposalSound (settleLoad u load s) := by
  unfold settleLoad
  dsimp only
  split
  · exact putUnit_proposal h u _
  · split
    · exact h
    · split
      · exact applyLoad_proposal h u load
      · exact putUnit_proposal h u _

theorem reportLoad_proposal (h : ProposalSound s) (u : UnitName) (rep : LoadReport) : ProposalSound (reportLoad u rep s) := by
  have hput := putUnit_proposal h u { unitLoad s u with reported := rep }
  cases rep
  case unladen | laden => exact settleLoad_proposal hput u _
  case tipping => exact putUnit_proposal hput u _
  case unknown => exact applyLoad_proposal hput u _

theorem setConnected_proposal (h : ProposalSound s) (code : Nat) : ProposalSound (setConnected code s) := by
  unfold setConnected
  split
  · exact connectTrailer_proposal (h.beside (setVdm_frame _ s))
  · split
    · exact disconnectTrailer_proposal (h.beside (setVdm_frame _ s))
    · exact h

theorem takeVehicleData_proposal (h : ProposalSound s) (data : List Byte) : ProposalSound (takeVehicleData data s) := by
  have hloads := reportLoad_proposal (reportLoad_proposal (setSpeed_proposal (h.beside (frameSeen_frame s)) (speedOf (natAt data 0))) .truck
    (loadReportOf (natAt data 1))) .trailer (loadReportOf (natAt data 2))
  have hlift : ∀ t, ProposalSound t → ProposalSound (setLift (byteAt data 4) t) := fun t ht =>
    (ht.beside (setVdm_frame { t.vdm with liftMask := byteAt data 4 } t)).step (liftChange_missing t _) (liftChange_frame t _)
  exact ((hlift _ (setConnected_proposal hloads (natAt data 3))).beside (setVdm_frame _ _)).beside (notice_frame _ _)

theorem frameTimeout_proposal (h : ProposalSound s) : ProposalSound (frameTimeout s) := by
  unfold frameTimeout
  split
  · have hlost := h.beside (setVdm_frame { s.vdm with status := .lost, frameDeadline := none } s)
    dsimp only
    split
    · exact hlost
    · exact reportLoad_proposal (reportLoad_proposal (setSpeed_proposal (hlost.raised _ _ _) none) _ _) _ _
  · exact h

end

end Sys2Proof.Machine
end

section
/-! An open proposal through every request, save and reset: every step keeps it sound. The settlement of O60. -/

namespace Sys2Proof.Machine

set_option Elab.async false

/-! ### The acts of the owners -/

section
variable {s : State}

theorem settingEffect_proposal (h : ProposalSound s) (before : State) (k : Setting) : ProposalSound (settingEffect before k s) := by
  cases k
  case candidateAgeS => exact (h.aside.beside (setCandidates_frame _ s)).settled
  case movingSpeedKmh => exact (h.step (.forRows (retimeRow_missing before) _ _) (retime_frame before s)).moved
  case proposalDelayS =>
    have hepisodes := fun v => h.beside (setEpisodes_frame v s)
    show ProposalSound (dueAfterWrite before s)
    unfold dueAfterWrite
    dsimp only
    split
    · exact hepisodes _
    · exact (hepisodes _).searched
  case laneEnableMask | parkLane => exact h.beside (relane_frame s)
  all_goals exact h

theorem writeTables_proposal (h : ProposalSound s) (v : Tables) : ProposalSound (writeTables v s) :=
  (h.beside (setTables_frame v s)).beside (markDirty_frame _)

theorem writeEntry_proposal (h : ProposalSound s) (k : EntryNo) (e : RosterEntry) : ProposalSound (writeEntry k e s) :=
  h.beside (writeEntry_frame k e s)

theorem changeRow_proposal (h : ProposalAside s) (r : Row) (id : Option SensorId) : ProposalSound (changeRow r id s) :=
  ((((h.beside (writeRowId_frame r id s)).beside (dropCandidates_frame id.toList _)).beside (restartRows_frame _ _)).beside
    (markDirty_frame _)).settled

theorem writeAxle_proposal (h : ProposalSound s) (a : Fin 5) (rec : AxleRecord) : ProposalSound (writeAxle a rec s).state := by
  unfold writeAxle
  split
  · exact h
  · have hwritten := writeTables_proposal h { s.tables with axles := s.tables.axles.set a rec }
    exact ((hwritten.aside.beside (emptyRows_frame _ _)).beside (restartRows_frame _ _)).settled

theorem axleFollows_proposal (h : ProposalSound s) (before : State) (k : EntryNo) : ProposalSound (axleFollows before k s) := by
  unfold axleFollows
  split
  · exact ((h.aside.beside (restartRows_frame _ s)).beside (liftChange_frame _ _)).settled
  · exact recheckEntry_proposal h before k

/-- An entry rewritten beside a closed session: whatever the candidates are by then. -/
theorem recheckEntry_aside (h : ProposalAside s) (before : State) (k : EntryNo) : ProposalAside (recheckEntry before k s) := by
  unfold recheckEntry
  split
  · unfold checkRecognition
    dsimp only
    split
    · exact ((identify_aside (h.beside (setRecog_frame _ s)) k).settled).aside
    · exact h.beside (setRecog_frame _ s)
  · exact h

theorem slotFollows_proposal (h : ProposalAside s) (before : State) (k : EntryNo) (t : SlotNo) : ProposalSound (slotFollows before k t s) := by
  unfold slotFollows
  refine ProposalAside.settled ?_
  split
  · exact h.beside (restartRows_frame _ s)
  · exact recheckEntry_aside h before k

theorem clearFollows_proposal (h : ProposalSound s) (k : EntryNo) : ProposalSound (clearFollows k s) := by
  unfold clearFollows
  split
  · exact ((unload_aside h.aside .unknown).raised _ _ _).settled
  · split
    · exact h.beside (setRecog_frame _ s)
    · exact h

theorem limits_proposal (h : ProposalSound s) (v : Tables) {rows : List Row} (hnodup : rows.Nodup) (hclosed : ∀ r ∈ rows, partner r ∈ rows) :
    ProposalSound (reevaluate rows (writeTables v s)) :=
  (writeTables_proposal h v).step (reevaluate_missing _ hnodup hclosed) (reevaluate_frame _ _)

theorem openSession_proposal (allowMove : Bool) : ProposalSound (openSession allowMove s) :=
  .of_none (congrArg Enrolment.proposal (withdraw_enc s))

theorem acceptProposal_proposal (r : Row) (id : SensorId) : ProposalSound (acceptProposal r id s) := by
  have hnone : ProposalSound (s.setEnc { s.enc with proposal := none }) := .of_none rfl
  have hwritten := writeRowId_frame r (some id) (s.setEnc { s.enc with proposal := none })
  have hdone : (requestSave (markDirty (restartRows [r] (dropCandidates [id] (writeRowId r (some id)
      (s.setEnc { s.enc with proposal := none })))))).enc.proposal = none := by
    rw [(requestSave_frame _).enc, (markDirty_frame _).enc, (restartRows_frame _ _).enc, (dropCandidates_frame _ _).enc, hwritten.enc]
    rfl
  exact ((ProposalSound.of_none hdone).raised _ _ _).searched

theorem rejectProposal_proposal (r : Row) (id : SensorId) : ProposalSound (rejectProposal r id s) := by
  have hnone : ProposalSound (s.setEnc { s.enc with proposal := none }) := .of_none rfl
  exact ((hnone.beside (putEpisode_frame r _ _)).raised _ _ _).searched

end

theorem Act.proposal {b u : State} (h : Act b u) (hb : ProposalSound b) : ProposalSound u := by
  cases h
  case nothing => exact hb
  case setting k v => exact settingEffect_proposal (writeTables_proposal hb _) b k
  case link => exact writeTables_proposal hb _
  case guard level => exact (writeTables_proposal hb { b.tables with guardLevel := level }).beside (requestSave_frame _)
  case freeze => exact (hb.beside (setMgu_frame _ b)).ended _
  case offline => exact hb.entered _
  case active => exact ((hb.aside.beside (restartRows_frame _ b)).beside (enterState_frame _ _)).settled
  case save => exact hb.beside (startSave_frame b)
  case axle a rec _ => exact writeAxle_proposal hb a rec
  case writeRow r id _ _ _ _ _ => exact changeRow_proposal hb.aside r (some id)
  case clearRow r _ _ => exact changeRow_proposal hb.aside r none
  case tag k tag _ _ => exact writeEntry_proposal hb k _
  case entryAxle k a rec _ _ => exact axleFollows_proposal (writeEntry_proposal hb k _) b k
  case slot k t id _ _ _ => exact slotFollows_proposal ((writeEntry_proposal hb k _).aside.beside (dropCandidates_frame _ _)) b k t
  case rosterClear k _ => exact clearFollows_proposal (writeEntry_proposal hb k .free) k
  case select k _ _ _ => exact selectTrailer_proposal hb k
  case limits g load asked _ _ _ => exact limits_proposal hb _ ((groupRows_nodup _ _).filter _) (limitRows_closed _ g load)
  case temperatures g asked _ _ _ => exact limits_proposal hb _ (groupRows_nodup _ _) partner_group
  case announce a _ _ => exact (writeTables_proposal hb _).step (.forRows MissingStep.reannounce _ _) (reannounceRows_frame _ _)
  case order => exact hb.setEnc rfl id
  case start allowMove _ _ _ => exact openSession_proposal allowMove
  case cancel => exact hb.ended _
  case accept r id _ _ => exact acceptProposal_proposal r id
  case reject r id _ => exact rejectProposal_proposal r id
  case laneFlags mask => exact hb.beside (setLanes_frame _ b)
  case event => exact ⟨hb.legal, hb.aside⟩
  case snapshot => exact hb.beside (setLink_frame _ b)

/-! ### Resets and saves -/

theorem enterStarting_proposal (before : Link) (s : State) : ProposalSound (enterStarting before s) :=
  .of_none (congrArg Enrolment.proposal (enterStarting_restarting before s).enc)

theorem clearVolatile_proposal (s : State) (p : Phase) : ProposalSound ((clearVolatile s).setPhase p) := by
  rw [clearVolatile_eq]
  exact .of_none rfl

theorem Deferral.proposal {b u : State} (h : Deferral b u) (hb : ProposalSound b) : ProposalSound u := by
  cases h
  case restart => exact enterStarting_proposal _ b
  case restartLater => exact hb.beside (setMgu_frame _ b)
  case offlineLater => exact hb.beside (setOsc_frame _ b)

theorem completeSave_proposal (c : Tables) {s : State} (h : ProposalSound s) : ProposalSound (completeSave c s) := by
  have hdone : completeSave c s = takeDeferredRestart (takeDeferredOffline (savedAgain c s)) := rfl
  have hsaved := h.beside (savedAgain_frame c s)
  rw [hdone]
  generalize savedAgain c s = t at hsaved
  have hoffline : ProposalSound (takeDeferredOffline t) := by
    unfold takeDeferredOffline
    split
    · exact hsaved
    · have hosc := hsaved.beside (setOsc_frame { t.osc with deferredOffline := none } t)
      dsimp only
      split
      · exact hosc.beside (respond_frame _ _ _ _ _)
      · exact (hosc.entered _).beside (respond_frame _ _ _ _ _)
  unfold takeDeferredRestart
  split
  · exact enterStarting_proposal _ _
  · exact hoffline

/-! ### Every step -/

theorem takeOff_proposal {s : State} (h : ProposalSound s) : ProposalSound (takeOff s) := by
  have hlink := h.beside (setLink_frame { s.link with requests := s.link.requests.tail } s)
  unfold takeOff
  refine ProposalSound.beside ?_ (notice_frame _ _)
  dsimp only
  split
  · exact hlink.entered _
  · exact hlink

theorem Work.proposal {s t : State} (h : Work s t) (hs : ProposalSound s) : ProposalSound t := by
  cases h
  case nothing => exact hs
  case ignition on => exact hs.ignition on
  case crankOn => exact hs.beside (crankAssert_frame s)
  case crankOff => exact hs.beside (crankRelease_frame s)
  case resume => exact hs.beside (resumeExpiry_frame s)
  case saved c _ _ => exact completeSave_proposal c hs
  case loaded | sleeps => exact hs.entered _
  case parks => exact hs.parked
  case bit hmoved => exact hs.beside hmoved.frame
  case link hmoved => exact hs.beside hmoved.frame
  case record x rest _ _ => exact acceptRecord_proposal (hs.beside (setHanded_frame rest s)) x
  case window =>
    have hmoved := hs.beside (setTrailer_frame .unknown s)
    exact ((hmoved.beside (setWindow_frame _ _)).beside (setRecog_frame _ _)).raised _ _ _
  case aged keeps => exact (hs.aside.beside (setCandidates_frame _ s)).settled
  case stale r hlive => exact hs.step (.putWheel fun hmissing => absurd (hlive.symm.trans hmissing) (by decide)) (goStale_frame r s)
  case missing r _ => exact hs.step (goMissing_missing r s) (goMissing_frame r s)
  case repeats r =>
    refine hs.step ?_ (alertRepeatExpiry_frame r s)
    refine .ite (fun _ => .ite (fun _ => ?_) fun _ => .putWheel id) fun _ => .refl s
    exact MissingStep.trans (.of_frame (queueAlert_frame r s)) (.ite (fun _ => .refl _) fun _ => .putWheel id)
  case due r => exact (hs.beside (putEpisode_frame r _ s)).searched
  case stepTimeout => exact hs.ended _
  case vehicle data _ _ => exact takeVehicleData_proposal (hs.beside (fixRate_frame s)) data
  case frameTimeout => exact frameTimeout_proposal hs
  case settle u load => exact applyLoad_proposal hs u load
  case request code tag result bytes _ hact => exact (hact.proposal (takeOff_proposal hs)).beside (respond_frame code tag result bytes _)
  case defers _ hlater => exact hlater.proposal (takeOff_proposal hs)

theorem Effect.proposal {s t : State} (h : Effect s t) (hs : ProposalSound s) : ProposalSound t := by
  cases h
  case works hwork => exact hwork.proposal hs
  case stopped => exact hs
  case lines l _ => exact hs.beside (setLines_frame l s)
  case cold => exact enterStarting_proposal _ _
  case loss => exact clearVolatile_proposal _ _
  case asserted => exact clearVolatile_proposal _ _
  case released => exact enterStarting_proposal _ _

theorem tick_proposal {s : State} (h : ProposalSound s) : ProposalSound (tick s) := by
  unfold tick
  split
  · exact h
  · exact h.beside (setClock_frame _ s)
  · exact ((h.beside (setClock_frame _ s)).beside (growEpisodes_frame _)).beside (spendWriteTime_frame _)

theorem proposalSound_of_safe {s : State} (h : Safe s) : ProposalSound s := by
  obtain ⟨-, -, -, ⟨-, -, -, hopened⟩, hproposal, -⟩ := h
  refine ⟨hproposal, fun hopen => ?_⟩
  obtain ⟨i, hi⟩ := Option.ne_none_iff_exists'.1 hopen
  obtain ⟨-, -, -, -, -, hnone, -⟩ := hopened i hi
  exact hnone

theorem step_proposal {s t : State} (hs : ProposalSound s) (h : step s = .next t) : ProposalSound t := by
  rcases step_cases h with ⟨-, rfl⟩ | ⟨c, rest, -, heffect⟩
  · exact tick_proposal hs
  · exact heffect.proposal (hs.beside (setPending_frame rest s))

/-- Settles O60: an ID is written only where it stands nowhere else, and a proposal is settled wherever its row or candidate may go. -/
theorem identitiesStayUnique : Obligations.IdentitiesStayUnique := fun _ _ hsafe h =>
  ⟨(step_idLaw hsafe h).identities, (step_proposal (proposalSound_of_safe hsafe) h).legal⟩

end Sys2Proof.Machine
end

section
/-! A fresh record of a row without an ID through the work on lift axles (R97, R98). -/

namespace Sys2Proof.Machine

set_option Elab.async false

/-- What each step of a list keeps, the whole list keeps. -/
theorem forRows_keeps {P : State → Prop} {f : Row → State → State} {rows : List Row} (h : ∀ q ∈ rows, ∀ t, P t → P (f q t)) {s : State}
    (hs : P s) : P (forRows f rows s) := by
  induction rows generalizing s with
  | nil => exact hs
  | cons q rows ih => exact ih (fun q' hq' => h q' (List.mem_cons_of_mem _ hq')) (h q List.mem_cons_self s hs)

/-- The row holds no ID, and its record says nothing. -/
abbrev VacantFresh (r : Row) (s : State) : Prop := s.wheel r = .fresh .vacant

section
variable {r : Row} {s : State} (h : VacantFresh r s)
include h

theorem VacantFresh.status : (s.wheel r).status = .vacant := by rw [h]; rfl

theorem VacantFresh.putOther {q : Row} (hq : r ≠ q) (w : WheelRecord) : VacantFresh r (putWheel q w s) := by
  rw [VacantFresh, putWheel_wheel, if_neg hq]
  exact h

theorem VacantFresh.judged {q : Row} (hq : r ≠ q) {t : State} (k : Judging (· = q) s t) : VacantFresh r t := (k.outside r hq).trans h

theorem VacantFresh.reannounced {q : Row} (hq : r ≠ q) : VacantFresh r (reannounce q s) := (reannounce_other hq s).trans h

theorem VacantFresh.unpaired (q : Row) : VacantFresh r (setImbalance q false s) := by
  rw [VacantFresh, setImbalance_wheel]
  split
  · rw [h]
    decide
  · exact h

theorem VacantFresh.missingOther {q : Row} (hq : r ≠ q) : VacantFresh r (goMissing q s) := by
  obtain ⟨d, hd⟩ := goMissing_wheel q s
  rw [VacantFresh, hd, if_neg hq]
  exact h

theorem VacantFresh.retimed (before : State) (q : Row) : VacantFresh r (retimeRow before q s) := by
  unfold retimeRow
  dsimp only
  split
  · exact h
  · next hgo =>
    have hq : r ≠ q := by
      rintro rfl
      exact hgo (.inr (.inr (by rw [h.status]; rfl)))
    split
    · exact h.putOther hq _
    · have hput := h.putOther hq (withDeadlines s q ((s.wheel q).base.getD s.now) (s.wheel q))
      generalize putWheel q (withDeadlines s q ((s.wheel q).base.getD s.now) (s.wheel q)) s = t at hput
      have hstale : VacantFresh r (if due t (t.wheel q).staleAt = true then goStale q t else t) := by
        split
        · exact hput.putOther hq _
        · exact hput
      generalize (if due t (t.wheel q).staleAt = true then goStale q t else t) = u at hstale ⊢
      split
      · exact hstale.missingOther hq
      · exact hstale

theorem VacantFresh.raised (before : State) (rows : List Row) : VacantFresh r (raiseRows before rows s) := by
  unfold raiseRows
  dsimp only
  have hne : ∀ q ∈ rows.filter (fun q => decide ((s.wheel q).status ≠ .vacant)), r ≠ q := fun q hq hrq => by
    subst hrq
    exact (of_decide_eq_true (List.mem_filter.1 hq).2) h.status
  generalize rows.filter (fun q => decide ((s.wheel q).status ≠ .vacant)) = rows at hne
  have hraised : VacantFresh r (forRows raiseWheel rows s) :=
    forRows_keeps (P := VacantFresh r) (fun q hq t ht => VacantFresh.judged ht (hne q hq) (raiseWheel_judging q t)) h
  have hpaired : VacantFresh r (forRows raisePair rows (forRows raiseWheel rows s)) := forRows_keeps (P := VacantFresh r) (fun q _ t ht => by
    unfold raisePair
    split
    · exact VacantFresh.unpaired ht q
    · exact ht) hraised
  have hrested : VacantFresh r (forRows (raiseRest before) rows (forRows raisePair rows (forRows raiseWheel rows s))) :=
    forRows_keeps (P := VacantFresh r) (fun q hq t ht => by
      unfold raiseRest
      dsimp only
      have hcounters := VacantFresh.judged ht (hne q hq)
        (((setCounter_judging q .lowWarn 0 t).trans (setCounter_judging q .leak 0 _)).trans (setCounter_judging q .imbalance 0 _))
      exact (hcounters.putOther (hne q hq) _).retimed before q) hpaired
  exact forRows_keeps (P := VacantFresh r) (fun q hq t ht => VacantFresh.reannounced ht (hne q hq)) hrested

theorem VacantFresh.lowered (before : State) (a : AxleNo) : VacantFresh r (lowerRows before (axleRows a) s) := by
  have hjudged := (reevaluate_reevaluated s (axleRows_nodup a) fun _ => partner_axleRows).outside r fun hmem => by
    have hlive := (List.mem_filter.1 hmem).2
    simp [reevaluated, h.status] at hlive
  exact forRows_keeps (P := VacantFresh r) (rows := axleRows a) (s := reevaluate (axleRows a) s)
    (fun q _ t ht => VacantFresh.retimed ht before q) (hjudged.trans h)

theorem VacantFresh.lifted (before : State) : VacantFresh r (liftChange before s) := by
  have hone : ∀ (a : AxleNo) (t : State), VacantFresh r t → VacantFresh r (liftAxle before a t) := fun a t ht => by
    unfold liftAxle
    split
    · exact ht
    · split
      · exact VacantFresh.raised ht before _
      · exact VacantFresh.lowered ht before a
  have hfold : ∀ (axles : List AxleNo) (t : State), VacantFresh r t → VacantFresh r (axles.foldl (fun s a => liftAxle before a s) t) := by
    intro axles
    induction axles with
    | nil => exact fun _ ht => ht
    | cons a axles ih => exact fun t ht => ih _ (hone a t ht)
  unfold liftChange
  split
  · exact h
  · exact hfold _ s h

theorem VacantFresh.restarted (hid : rowId s r = none) : Restarted s r := by
  unfold Restarted
  rw [h, hid]
  exact ⟨rfl, rfl, rfl, rfl, rfl, rfl, rfl, rfl, rfl, rfl, rfl, rfl, rfl⟩

end

/-- A restart leaves a row without an ID fresh. -/
theorem vacantFresh_of_restart {rows : List Row} {s : State} {r : Row} (hr : r ∈ rows) (hid : rowId s r = none) :
    VacantFresh r (restartRows rows s) := by
  rw [VacantFresh, (restartRows_restarted rows s).restarted r hr, restartedRecord, hid]
  rfl

end Sys2Proof.Machine
end

section
/-! ROSTER_WRITE of a tag, an axle record and a slot, with recognition worked out anew: the settlement of O42. -/

namespace Sys2Proof.Machine

set_option Elab.async false

/-! ### Recognition worked out anew (R20) -/

/-- The recognition data of an entry that was `old` and is `new`. -/
def recheckedEntry (old new : RosterEntry) (g : RecogEntry) : RecogEntry :=
  { heard := g.heard.filter fun id => decide (some id ∈ new.slots.toList)
    sequence := Vector.ofFn fun i => if old.slots[i] = new.slots[i] then g.sequence[i] else none }

theorem recheckEntry_of_recognising {k : EntryNo} {b c : State} (h : c.trailer = .recognising) : recheckEntry b k c =
    checkRecognition k (c.setRecog (c.recog.set k (recheckedEntry b.tables.roster[k] c.tables.roster[k] c.recog[k]))) := by
  have hheard : (fun id : SensorId => c.tables.roster[k].slots.toList.any fun x => decide (x = some id))
      = fun id => decide (some id ∈ c.tables.roster[k].slots.toList) := by
    funext id
    rw [Bool.eq_iff_iff, List.any_eq_true, decide_eq_true_iff]
    exact ⟨fun ⟨x, hx, hid⟩ => of_decide_eq_true hid ▸ hx, fun hid => ⟨_, hid, decide_eq_true rfl⟩⟩
  unfold recheckEntry recheckedEntry
  rw [if_pos h]
  dsimp only
  rw [hheard]

theorem recheckEntry_of_other {k : EntryNo} {b c : State} (h : c.trailer ≠ .recognising) : recheckEntry b k c = c := if_neg h

theorem takesPart_iff {e : RosterEntry} (h : e.tag ≠ 0) : takesPart e = true ↔ 0 < (e.slots.toList.filter Option.isSome).length := by
  simp [takesPart, slotCount, (isFree_eq_false_iff e).2 h]

theorem recheckEntry_rechecked {k : EntryNo} {b c : State} (hf : Frame [.tables, .store, .candidates] b c) (h : b.trailer = .recognising)
    (htag : c.tables.roster[k].tag ≠ 0) : Rechecked k b.tables.roster[k] c.tables.roster[k] b (recheckEntry b k c) := by
  have htrailer : c.trailer = .recognising := hf.trailer.trans h
  rw [recheckEntry_of_recognising htrailer, hf.recog]
  let g := recheckedEntry b.tables.roster[k] c.tables.roster[k] b.recog[k]
  let m := c.setRecog (b.recog.set k g)
  have hm : Frame [.tables, .store, .candidates, .recog] b m := (hf.mono (by decide)).trans ((setRecog_frame _ c).mono (by decide))
  have hat : m.recog[k] = g := Vector.getElem_set_self k.isLt
  have hpart := takesPart_iff htag
  refine ⟨fun hheld hreach => ?_, fun hshort => ?_⟩
  · have hreached : Reached k m := ⟨htrailer, hpart.2 hheld, by rw [hat]; exact hreach⟩
    have hid := (identify_identified k m).searched (settleProposal_frame (identify k m))
    show _ ∧ _
    rw [checkRecognition_of_reached hreached]
    have hraised := hid.raised
    rw [hm.now] at hraised
    exact ⟨hid.trailer, hid.window, hid.recog, hid.slots, hid.restarted, raised_earlier hm hraised⟩
  · have hnot : ¬ Reached k m := fun ⟨_, htakes, hreach⟩ => by
      rw [hat] at hreach
      have hheld := hpart.1 htakes
      have hle : min 3 (c.tables.roster[k].slots.toList.filter Option.isSome).length ≤ g.heard.length := hreach
      rcases hshort with hnone | hless
      · omega
      · exact absurd hle (Nat.not_le.2 hless)
    show _ ∧ _
    rw [checkRecognition_of_short hnot]
    exact ⟨htrailer, hm.window, hm.wheels, rfl⟩

theorem rechecked_settled {k : EntryNo} {old new : RosterEntry} {b t u : State} (h : Rechecked k old new b t) (hf : Frame searchFields t u) :
    Rechecked k old new b u := by
  obtain ⟨hreached, hshort⟩ := h
  refine ⟨fun hheld hle => ?_, fun hless => ?_⟩
  · obtain ⟨htrailer, hwindow, hrecog, hslots, hrestarted, hraised⟩ := hreached hheld hle
    exact ⟨hf.trailer.trans htrailer, hf.window.trans hwindow, hf.recog.trans hrecog, fun i => (hf.rowId (r := slotRow i)).trans (hslots i),
      fun r hr => restarted_congr (hf.wheel r) (hf.rowId (r := r)) (hrestarted r hr), raised_later hraised hf⟩
  · obtain ⟨htrailer, hwindow, hwheels, hrecog⟩ := hshort hless
    exact ⟨hf.trailer.trans htrailer, hf.window.trans hwindow, hf.wheels.trans hwheels, hf.recog.trans hrecog⟩

/-! ### The items -/

section
variable {s : State} {data : List Byte} (hw : WaitingFor 0x15 s data)
include hw

theorem isRosterWrite_eq (kind : Option RosterItem → Bool) : isRosterWrite kind data = kind (rosterItem (natAt data 3)) := by
  obtain ⟨-, hlen, hcode, -⟩ := hw
  simp [isRosterWrite, isRequest, hlen, hcode]

/-- A ROSTER_WRITE of an item reaches its owner, with the guard's leave. -/
theorem serve_rosterWrite {kind : Option RosterItem → Bool} (owner : List Byte → State → Served)
    (hkind : kind (rosterItem (natAt data 3)) = true) :
    whileRunning (serve (isRosterWrite kind) (judge owner)) s = .next (deliver data (owner data (takeOff s))) := by
  refine (serve_waiting hw.1 _ _ ((isRosterWrite_eq hw kind).trans hkind)).trans ?_
  obtain ⟨-, -, -, hguard⟩ := hw
  rw [judge, if_pos hguard]

theorem rosterWrite_of_badSelector (hbad : 3 < natAt data 2 ∨ rosterItem (natAt data 3) = none) :
    exec (rosterCommand (rosterItem (natAt data 3))) s = replied data .badValue [] (takeOff s) := by
  obtain ⟨hwait, hlen, hcode, hguard⟩ := hw
  obtain ⟨owner, howner, hexec⟩ := rosterWrite_waiting hwait hlen hcode
  obtain ⟨act, hact⟩ := howner (takeOff s)
  rw [hexec, judge, if_pos hguard, hact, rosterWrite]
  rcases hbad with hbad | hbad
  · rw [indexAt_none hbad]
    rfl
  · rw [hbad]
    cases indexAt 4 data 2 <;> rfl

end

theorem rosterWrite_of_entry {data : List Byte} {s : State} {k : EntryNo} {item : RosterItem} (act : EntryNo → RosterItem → State → Served)
    (hk : natAt data 2 = k.val) (hitem : rosterItem (natAt data 3) = some item) (hclosed : sessionOpen s = false) :
    rosterWrite data act s = act k item s := by
  simp [rosterWrite, indexAt_eq k hk, hitem, hclosed]

/-! ### Tags (R14) -/

theorem tagTaken_iff {s : State} {k : EntryNo} {tag : BitVec 16} :
    ((List.finRange 4).any fun j => decide (j ≠ k) && decide (s.tables.roster[j].tag = tag)) = true
      ↔ ∃ j : EntryNo, j ≠ k ∧ s.tables.roster[j].tag = tag := by simp

/-! ### Axle records (R15) -/

/-- The slots that the layout `new` of an axle makes unusable. -/
abbrev slotLost (e : RosterEntry) (a : Fin 3) (new : AxleRecord) (t : SlotNo) : Bool :=
  t.val / 4 = a.val && placeUsable e.axles[a].layout (t.val % 4) && !placeUsable new.layout (t.val % 4)

theorem slotShed_eq (e : RosterEntry) (a : Fin 3) (new : AxleRecord) (t : SlotNo) :
    slotShed e { e with axles := e.axles.set a new } t = slotLost e a new t := by
  have hnew : slotUsable { e with axles := e.axles.set a new } t
      = if t.val / 4 = a.val then placeUsable new.layout (t.val % 4) else slotUsable e t := by
    simp only [slotUsable, slotAxle, Fin.getElem_fin, Vector.getElem_set, eq_comm (a := a.val)]
    split <;> rfl
  rw [slotShed, hnew]
  by_cases ha : t.val / 4 = a.val
  · have haxle : slotAxle t = a := Fin.ext ha
    have hwas : slotUsable e t = placeUsable e.axles[a].layout (t.val % 4) := by
      subst haxle
      rfl
    rw [if_pos ha, hwas, slotLost, decide_eq_true ha, Bool.true_and]
  · rw [if_neg ha]
    simp [slotLost, ha]

/-- The entry with an axle record written, and the slots that it makes unusable emptied. -/
def axleEntry (e : RosterEntry) (a : Fin 3) (new : AxleRecord) : RosterEntry :=
  { e with axles := e.axles.set a new, slots := Vector.ofFn fun t => if slotLost e a new t then none else e.slots[t] }

theorem shedSlots_eq (e : RosterEntry) (a : Fin 3) (new : AxleRecord) :
    shedSlots e { e with axles := e.axles.set a new }
      = (axleEntry e a new, ((List.finRange 12).filter fun t => slotLost e a new t && e.slots[t].isSome).length) := by
  unfold shedSlots axleEntry
  simp only [slotShed_eq, Bool.and_comm]

theorem writeEntryAxle_of_change {k : EntryNo} {a : Fin 3} {new : AxleRecord} {s : State} (htag : s.tables.roster[k].tag ≠ 0)
    (hne : s.tables.roster[k].axles[a] ≠ new) : writeEntryAxle k a new s = answered .ok
      (be8 ((List.finRange 12).filter fun t => slotLost s.tables.roster[k] a new t && s.tables.roster[k].slots[t].isSome).length)
      (axleFollows s k (writeEntry k (axleEntry s.tables.roster[k] a new) s)) := by
  unfold writeEntryAxle
  dsimp only
  rw [if_neg ((isFree_eq_false_iff _).2 htag), if_neg hne, shedSlots_eq]

theorem writeEntry_entry (k : EntryNo) (e : RosterEntry) (s : State) : (writeEntry k e s).tables.roster[k] = e :=
  (withEntry_roster k k e s.tables).trans (if_pos rfl)

/-- In the identified entry the rows of the emptied slots restart as VACANT, and stay so as their axle is raised or lowered. -/
theorem axleFollows_of_identified {k : EntryNo} {a : Fin 3} {new : AxleRecord} {s : State} (h : s.trailer = .identified k) {t : SlotNo}
    (hlost : slotLost s.tables.roster[k] a new t = true) :
    Restarted (axleFollows s k (writeEntry k (axleEntry s.tables.roster[k] a new) s)) (slotRow t) := by
  let c := writeEntry k (axleEntry s.tables.roster[k] a new) s
  have htrailer : c.trailer = .identified k := h
  have hentry : c.tables.roster[k] = axleEntry s.tables.roster[k] a new := writeEntry_entry k _ s
  have hid : rowId c (slotRow t) = none := by
    have hat : (axleEntry s.tables.roster[k] a new).slots[t]
        = if slotLost s.tables.roster[k] a new t then none else s.tables.roster[k].slots[t] := Vector.getElem_ofFn t.isLt
    rw [rowId_slotRow htrailer, hentry, hat, hlost, if_pos rfl]
  have hwas : slotUsable s.tables.roster[k] t = true ∧ slotUsable (axleEntry s.tables.roster[k] a new) t = false := by
    have hshed : slotShed s.tables.roster[k] (axleEntry s.tables.roster[k] a new) t = true := (slotShed_eq _ a new t).trans hlost
    simpa [slotShed] using hshed
  have hmem : slotRow t ∈ usabilityChanged s c := by
    rw [mem_usabilityChanged, rowUsable_slotRow h, rowUsable_slotRow htrailer, hentry, hwas.1, hwas.2]
    decide
  have hfresh := (vacantFresh_of_restart hmem hid).lifted s
  have hlift := liftChange_frame s (restartRows (usabilityChanged s c) c)
  have hrows := restartRows_frame (usabilityChanged s c) c
  have hsettle := settleProposal_frame (liftChange s (restartRows (usabilityChanged s c) c))
  show Restarted (axleFollows s k c) (slotRow t)
  unfold axleFollows
  rw [if_pos ((identifiedAs_iff c k).2 htrailer)]
  refine VacantFresh.restarted ((hsettle.wheel _).trans hfresh) ?_
  rw [hsettle.rowId, hlift.rowId, hrows.rowId]
  exact hid

theorem axleFollows_of_unidentified {k : EntryNo} {b c : State} (h : c.trailer ≠ .identified k) : axleFollows b k c = recheckEntry b k c :=
  if_neg (mt (identifiedAs_iff c k).1 h)

theorem axleFollows_same (b : State) (k : EntryNo) (c : State) : (axleFollows b k c).tables = c.tables ∧ (axleFollows b k c).store = c.store
    ∧ (axleFollows b k c).candidates = c.candidates ∧ (axleFollows b k c).vdm = c.vdm := by
  have hf := axleFollows_frame b k c
  exact ⟨hf.tables, hf.store, hf.candidates, hf.vdm⟩

theorem axleFollows_trailer {b c : State} {k : EntryNo} (h : c.trailer = .identified k) : (axleFollows b k c).trailer = .identified k := by
  unfold axleFollows
  rw [if_pos ((identifiedAs_iff c k).2 h), (settleProposal_frame _).trailer, (liftChange_frame _ _).trailer, (restartRows_frame _ _).trailer]
  exact h

end Sys2Proof.Machine
end

section
/-! ROSTER_WRITE of a slot, and the checks of each item in order: the settlement of O42. -/

namespace Sys2Proof.Machine

set_option Elab.async false

/-! ### Slots (R16) -/

/-- The part with a slot written and the candidate of its new ID gone. -/
def slotWritten (k : EntryNo) (t : SlotNo) (new : Option SensorId) (s : State) : State :=
  dropCandidates new.toList (writeEntry k { s.tables.roster[k] with slots := s.tables.roster[k].slots.set t new } s)

theorem slotWritten_frame (k : EntryNo) (t : SlotNo) (new : Option SensorId) (s : State) :
    Frame [.tables, .store, .candidates] s (slotWritten k t new s) :=
  ((writeEntry_frame k _ s).mono (by decide)).trans ((dropCandidates_frame _ _).mono (by decide))

theorem slotWritten_entry (k : EntryNo) (t : SlotNo) (new : Option SensorId) (s : State) :
    (slotWritten k t new s).tables.roster[k] = { s.tables.roster[k] with slots := s.tables.roster[k].slots.set t new } :=
  writeEntry_entry k _ s

theorem slotFollows_of_identified {k : EntryNo} {t : SlotNo} {new : Option SensorId} {s : State} (h : s.trailer = .identified k) :
    rowId (slotFollows s k t (slotWritten k t new s)) (slotRow t) = new
      ∧ Restarted (slotFollows s k t (slotWritten k t new s)) (slotRow t) := by
  have htrailer : (slotWritten k t new s).trailer = .identified k := (slotWritten_frame k t new s).trailer.trans h
  have hid : rowId (slotWritten k t new s) (slotRow t) = new := by
    rw [rowId_slotRow htrailer, slotWritten_entry]
    exact Vector.getElem_set_self t.isLt
  generalize slotWritten k t new s = c at htrailer hid
  have hrows := restartRows_restarted [slotRow t] c
  have hf := restartRows_frame [slotRow t] c
  have hsettle := settleProposal_frame (restartRows [slotRow t] c)
  have hid' : rowId (restartRows [slotRow t] c) (slotRow t) = rowId c (slotRow t) := hf.rowId (r := slotRow t)
  unfold slotFollows
  rw [if_pos ((identifiedAs_iff c k).2 htrailer)]
  refine ⟨(hsettle.rowId (r := slotRow t)).trans (hid'.trans hid), restarted_congr (hsettle.wheel _) (hsettle.rowId (r := slotRow t)) ?_⟩
  exact restartedRecord_restarted hid' (hrows.restarted _ List.mem_cons_self)

theorem slotFollows_of_unidentified {b c : State} {k : EntryNo} {t : SlotNo} (h : c.trailer ≠ .identified k) :
    slotFollows b k t c = settleProposal (recheckEntry b k c) := by
  unfold slotFollows
  rw [if_neg (mt (identifiedAs_iff c k).1 h)]

theorem slotFollows_same (b : State) (k : EntryNo) (t : SlotNo) (c : State) : (slotFollows b k t c).tables = c.tables
    ∧ (slotFollows b k t c).store = c.store ∧ (slotFollows b k t c).candidates = c.candidates := by
  have hf := slotFollows_frame b k t c
  exact ⟨hf.tables, hf.store, hf.candidates⟩

/-- The candidates left when the ID of a slot is written. -/
theorem slotWritten_candidates (k : EntryNo) (t : SlotNo) (new : Option SensorId) (s : State) :
    (slotWritten k t new s).candidates = s.candidates.filter fun c => decide (c.id ∉ new.toList) := rfl

section
variable {k : EntryNo} {t : SlotNo} {id : SensorId} {s : State} (htool : inToolBlock id = false)
include htool

theorem writeSlot_of_free (h : s.tables.roster[k].tag = 0) : writeSlot k t id s = refuse .wrongState s := by
  unfold writeSlot
  dsimp only
  rw [htool, (isFree_iff _).2 h]
  rfl

variable (htag : s.tables.roster[k].tag ≠ 0)
include htag

theorem writeSlot_of_unusable (hid : id ≠ 0) (h : slotUsable s.tables.roster[k] t = false) : writeSlot k t id s = refuse .badValue s := by
  have hfree : s.tables.roster[k].isFree = false := Bool.not_eq_true _ ▸ (isFree_eq_false_iff _).2 htag
  unfold writeSlot
  dsimp only
  rw [htool, hfree, h, if_neg hid]
  rfl

theorem writeSlot_of_held (hid : id ≠ 0) (h : slotUsable s.tables.roster[k] t = true) (hheld : heldElsewhereSlot s k t id = true) :
    writeSlot k t id s = refuse .inUse s := by
  have hfree : s.tables.roster[k].isFree = false := Bool.not_eq_true _ ▸ (isFree_eq_false_iff _).2 htag
  unfold writeSlot
  dsimp only
  rw [htool, hfree, h, if_neg hid, hheld]
  rfl

theorem writeSlot_of_allowed (h : id = 0 ∨ (slotUsable s.tables.roster[k] t = true ∧ heldElsewhereSlot s k t id = false)) :
    writeSlot k t id s = if s.tables.roster[k].slots[t] = (if id = 0 then none else some id) then answered .ok [] s
      else answered .ok [] (slotFollows s k t (slotWritten k t (if id = 0 then none else some id) s)) := by
  have hfree : s.tables.roster[k].isFree = false := Bool.not_eq_true _ ▸ (isFree_eq_false_iff _).2 htag
  have husable : ((if id = 0 then none else some id : Option SensorId).isSome && !slotUsable s.tables.roster[k] t) = false := by
    rcases h with rfl | ⟨hu, -⟩
    · rfl
    · rw [hu]
      simp
  have hheld : ((if id = 0 then none else some id : Option SensorId).isSome && heldElsewhereSlot s k t id) = false := by
    rcases h with rfl | ⟨-, hno⟩
    · rfl
    · rw [hno]
      simp
  unfold writeSlot
  dsimp only
  rw [htool, hfree, husable, hheld]
  rfl

end

/-! ### The settlement -/

theorem closed_takeOff {s : State} (h : s.enc.session = none) : sessionOpen (takeOff s) = false := by
  rw [sessionOpen_takeOff, sessionOpen, h]
  rfl

section
variable {s : State} {data : List Byte} {k : EntryNo} (hw : WaitingFor 0x15 s data) (hclosed : s.enc.session = none) (hk : natAt data 2 = k.val)
include hw hclosed hk

theorem exec_rosterWriteTag (hitem : natAt data 3 = 0) : exec .rosterWriteTag s
    = .next (deliver data (writeTag k (BitVec.ofNat 16 (natAt2 data 4)) (takeOff s))) := by
  have hitem' : rosterItem (natAt data 3) = some .tag := by rw [hitem]; rfl
  refine (serve_rosterWrite hw (kind := isTagWrite) rosterWriteTag (by rw [hitem']; rfl)).trans ?_
  rw [rosterWriteTag, rosterWrite_of_entry _ hk hitem' (closed_takeOff hclosed)]

theorem exec_rosterWriteSlot {t : SlotNo} (hitem : natAt data 3 = 16 + t.val) : exec .rosterWriteSlot s
    = .next (deliver data (writeSlot k t (idAt data 4) (takeOff s))) := by
  have hitem' : rosterItem (natAt data 3) = some (.slot t) := by rw [hitem, rosterItem_slot]
  refine (serve_rosterWrite hw (kind := isSlotWrite) rosterWriteSlot (by rw [hitem']; rfl)).trans ?_
  rw [rosterWriteSlot, rosterWrite_of_entry _ hk hitem' (closed_takeOff hclosed)]

theorem exec_rosterWriteAxle_bad {a : Fin 3} (hitem : natAt data 3 = 1 + a.val) (hbad : AxleFieldsBad data 4) :
    exec .rosterWriteAxle s = replied data .badValue [] (takeOff s) := by
  have hitem' : rosterItem (natAt data 3) = some (.axle a) := by rw [hitem, rosterItem_axle]
  refine (serve_rosterWrite hw (kind := isAxleWrite) rosterWriteAxle (by rw [hitem']; rfl)).trans ?_
  rw [rosterWriteAxle, rosterWrite_of_entry _ hk hitem' (closed_takeOff hclosed), axleAt_of_bad hbad]
  rfl

theorem exec_rosterWriteAxle {a : Fin 3} {new : AxleRecord} (hitem : natAt data 3 = 1 + a.val) (hfields : AxleFields data 4 new) :
    exec .rosterWriteAxle s = .next (deliver data (writeEntryAxle k a new (takeOff s))) := by
  have hitem' : rosterItem (natAt data 3) = some (.axle a) := by rw [hitem, rosterItem_axle]
  refine (serve_rosterWrite hw (kind := isAxleWrite) rosterWriteAxle (by rw [hitem']; rfl)).trans ?_
  rw [rosterWriteAxle, rosterWrite_of_entry _ hk hitem' (closed_takeOff hclosed), axleAt_of_fields hfields]

end

/-- Settles O42, item by item, each by the order of its checks. -/
theorem rosterWrites : Obligations.RosterWrites := by
  intro s data hw hclosed b entry dirty
  refine ⟨rosterWrite_of_badSelector hw, fun k hk => ?_⟩
  intro e
  refine ⟨fun hitem => ?tag, fun a hitem => ?axle, fun t hitem => ?slot⟩
  case tag =>
    intro tag
    rw [exec_rosterWriteTag hw hclosed hk hitem]
    refine ⟨fun hzero => ?_, fun hzero htaken => ?_, fun hzero hfree => ?_⟩
    · rw [writeTag, if_pos hzero]
      rfl
    · rw [writeTag, if_neg hzero, if_pos (tagTaken_iff.2 htaken)]
      rfl
    · have hnot : ¬ ∃ j : EntryNo, j ≠ k ∧ b.tables.roster[j].tag = tag := fun ⟨j, hj, htag⟩ => hfree j hj htag
      rw [writeTag, if_neg hzero, if_neg (mt tagTaken_iff.1 hnot)]
      refine ⟨fun hsame => ?_, fun hne => ?_⟩
      · dsimp only
        rw [if_pos hsame]
        rfl
      · dsimp only
        rw [if_neg hne]
        rfl
  case axle =>
    refine ⟨exec_rosterWriteAxle_bad hw hclosed hk hitem, fun new hfields => ?_⟩
    intro lost
    rw [exec_rosterWriteAxle hw hclosed hk hitem hfields]
    refine ⟨fun hfree => ?_, fun htag hsame => ?_, fun htag hne => ?_⟩
    · rw [writeEntryAxle, if_pos ((isFree_iff _).2 hfree)]
      rfl
    · rw [writeEntryAxle, if_neg ((isFree_eq_false_iff _).2 htag), if_pos hsame]
      rfl
    · rw [writeEntryAxle_of_change htag hne]
      let c := writeEntry k (axleEntry e a new) b
      have hc : Frame [.tables, .store] b c := writeEntry_frame k _ b
      have hentry : c.tables.roster[k] = axleEntry e a new := writeEntry_entry k _ b
      obtain ⟨htables, hstore, hcandidates, hvdm⟩ := axleFollows_same b k c
      refine ⟨axleFollows b k c, rfl, htables, hstore, hcandidates.trans hc.candidates, hvdm.trans hc.vdm, fun hno hquiet => ?_,
        fun hrecog => ?_, fun hid => ⟨axleFollows_trailer (c := c) hid, fun t hlost => axleFollows_of_identified hid hlost⟩⟩
      · rw [htables, axleFollows_of_unidentified (c := c) hno, recheckEntry_of_other (c := c) hquiet]
        rfl
      · have hno : c.trailer ≠ .identified k := by
          rw [hc.trailer, hrecog]
          exact TrailerState.noConfusion
        rw [htables, axleFollows_of_unidentified hno]
        refine recheckEntry_rechecked (hc.mono (by decide)) hrecog ?_
        rw [hentry]
        exact htag
  case slot =>
    intro id new elsewhere usable
    rw [exec_rosterWriteSlot hw hclosed hk hitem]
    refine ⟨fun htool => ?_, fun htool => ?_⟩
    · rw [writeSlot, if_pos (show inToolBlock id = true from decide_eq_true htool)]
      rfl
    · have htool' : inToolBlock id = false := decide_eq_false (Nat.not_le.2 htool)
      have hheld : elsewhere ↔ heldElsewhereSlot b k t id = true := heldElsewhereSlot_iff.symm
      have hallowed : id = 0 ∨ (usable = true ∧ ¬ elsewhere) →
          id = 0 ∨ (slotUsable b.tables.roster[k] t = true ∧ heldElsewhereSlot b k t id = false) :=
        Or.imp_right (And.imp_right fun hno => Bool.not_eq_true _ ▸ mt hheld.2 hno)
      refine ⟨fun hfree => ?_, fun htag hid hno => ?_, fun htag hid husable hin => ?_, fun htag hok hsame => ?_, fun htag hok hne => ?_⟩
      · rw [writeSlot_of_free htool' hfree]
        rfl
      · rw [writeSlot_of_unusable htool' htag hid hno]
        rfl
      · rw [writeSlot_of_held htool' htag hid husable (hheld.1 hin)]
        rfl
      · rw [writeSlot_of_allowed htool' htag (hallowed hok), if_pos hsame]
        rfl
      · rw [writeSlot_of_allowed htool' htag (hallowed hok), if_neg hne]
        let c := slotWritten k t new b
        have hc := slotWritten_frame k t new b
        have hentry := slotWritten_entry k t new b
        obtain ⟨htables, hstore, hcandidates⟩ := slotFollows_same b k t c
        have hlist : (slotFollows b k t c).candidates = b.candidates.filter fun x => decide (x.id ∉ new.toList) :=
          hcandidates.trans (slotWritten_candidates k t new b)
        refine ⟨slotFollows b k t c, rfl, htables, hstore, fun hzero => ?_, fun hid => ?_, fun hid => slotFollows_of_identified hid,
          fun hrecog => ?_, fun hno hquiet => ?_⟩
        · have hnone : new = none := if_pos hzero
          rw [hlist, hnone]
          exact List.filter_eq_self.2 fun _ _ => rfl
        · have hsome : new = some id := if_neg hid
          rw [hlist, hsome]
          exact List.filter_congr fun x _ => by simp
        · have hno : c.trailer ≠ .identified k := by
            rw [hc.trailer, hrecog]
            exact TrailerState.noConfusion
          rw [htables, slotFollows_of_unidentified hno]
          refine rechecked_settled (recheckEntry_rechecked hc hrecog ?_) (settleProposal_frame _)
          rw [hentry]
          exact htag
        · have hno' : c.trailer ≠ .identified k := by rw [hc.trailer]; exact hno
          have hquiet' : c.trailer ≠ .recognising := by rw [hc.trailer]; exact hquiet
          rw [slotFollows_of_unidentified hno', recheckEntry_of_other hquiet', (settleProposal_frame c).wheels, hc.wheels]

end Sys2Proof.Machine
end

section
/-! A change of the timing set, row by row: what `retime` makes of each record (R83). -/

namespace Sys2Proof.Machine

set_option Elab.async false

/-- A record `v` whose deadlines follow a change of the timing set, from the record `w` of a row that used the moving set or not. -/
structure TimedAs (s : State) (r : Row) (wasMoving : Bool) (w v : WheelRecord) : Prop where
  starts : wasMoving = false → usesMoving s r = true →
    v.status = w.status ∧ v.base = some s.now ∧ v.staleAt = (if w.status = .live then some (s.now + staleMs s r) else none)
      ∧ v.missingAt = some (s.now + missingMs s r)
  gone : ∀ base, wasMoving = true → usesMoving s r = false → w.base = some base → base + missingMs s r ≤ s.now →
    v.status = .missing ∧ v.missingAt = none
  runs : ∀ base, wasMoving = true → usesMoving s r = false → w.base = some base → s.now < base + missingMs s r →
    v.base = some base ∧ v.missingAt = some (base + missingMs s r)
      ∧ (w.status = .live → base + staleMs s r ≤ s.now → v.status = .stale ∧ v.staleAt = none)
      ∧ (w.status = .live → s.now < base + staleMs s r → v.status = .live ∧ v.staleAt = some (base + staleMs s r))
      ∧ (w.status ≠ .live → v.status = w.status ∧ v.staleAt = none)
  same : wasMoving = usesMoving s r → v = w

theorem TimedAs.retimed {b c u : State} {r : Row} (h : TimedAs c r (usesMoving b r) (b.wheel r) (u.wheel r)) (hnow : c.now = b.now)
    (hmoving : usesMoving u r = usesMoving c r) (hstale : staleMs u r = staleMs c r) (hmissing : missingMs u r = missingMs c r) :
    Retimed b u r := by
  rw [Retimed, hmoving, hstale, hmissing, ← hnow]
  refine ⟨h.starts, fun base hwas his hbase => ⟨h.gone base hwas his hbase, fun hlater => ?_⟩⟩
  obtain ⟨hb, hm, hgoes, hstays, hother⟩ := h.runs base hwas his hbase hlater
  exact ⟨hb, hm, hgoes, hstays, hother⟩

/-! ### One row -/

theorem retimeRow_other (before : State) {r q : Row} (hq : q ≠ r) (s : State) : (retimeRow before r s).wheel q = s.wheel q := by
  have hput : ∀ w t, (putWheel r w t).wheel q = t.wheel q := fun w t => by rw [putWheel_wheel, if_neg hq]
  unfold retimeRow
  dsimp only
  split
  · rfl
  · split
    · exact hput _ s
    · have ht := hput (withDeadlines s r ((s.wheel r).base.getD s.now) (s.wheel r)) s
      generalize putWheel r (withDeadlines s r ((s.wheel r).base.getD s.now) (s.wheel r)) s = t at ht ⊢
      have hstale : (if due t (t.wheel r).staleAt = true then goStale r t else t).wheel q = s.wheel q := by
        split
        · exact (hput _ t).trans ht
        · exact ht
      generalize (if due t (t.wheel r).staleAt = true then goStale r t else t) = u at hstale ⊢
      split
      · obtain ⟨d, hd⟩ := goMissing_wheel r u
        rw [hd, if_neg hq, hstale]
      · exact hstale

theorem due_some (s : State) (t : Millis) : due s (some t) = true ↔ t ≤ s.now := by simp [due]

theorem due_none (s : State) : due s none = false := rfl

theorem retimeRow_of_same {before s : State} {r : Row} (h : usesMoving before r = usesMoving s r) : retimeRow before r s = s :=
  if_pos (.inr (.inl h))

section
variable {before s : State} {r : Row} (hactive : s.osc.state = .active) (hholds : holdsMissing (s.wheel r).status = true)
include hactive hholds

theorem retimeRow_of_change (h : usesMoving before r ≠ usesMoving s r) : retimeRow before r s =
    if usesMoving s r = true then putWheel r (withDeadlines s r s.now (s.wheel r)) s
    else
      let t := putWheel r (withDeadlines s r ((s.wheel r).base.getD s.now) (s.wheel r)) s
      let u := if due t (t.wheel r).staleAt = true then goStale r t else t
      if due u (u.wheel r).missingAt = true then goMissing r u else u := by
  refine if_neg ?_
  rw [hactive, hholds]
  rintro (hno | hsame | hno)
  · exact hno rfl
  · exact h hsame
  · cases hno

/-- The record of a row whose deadlines restart from `base` and have come or not. -/
theorem retimeRow_parked (h : usesMoving before r = true) (hnow : usesMoving s r = false) {base : Millis} (hbase : (s.wheel r).base = some base) :
    let stale := (s.wheel r).status = .live ∧ base + staleMs s r ≤ s.now
    let u := if stale then goStale r (putWheel r (withDeadlines s r base (s.wheel r)) s) else putWheel r (withDeadlines s r base (s.wheel r)) s
    retimeRow before r s = (if base + missingMs s r ≤ s.now then goMissing r u else u)
      ∧ u.wheel r = (if stale then { withDeadlines s r base (s.wheel r) with status := .stale, staleAt := none }
        else withDeadlines s r base (s.wheel r)) := by
  intro stale u
  have hat : (putWheel r (withDeadlines s r base (s.wheel r)) s).wheel r = withDeadlines s r base (s.wheel r) := by
    rw [putWheel_wheel, if_pos rfl]
  have hwheel : u.wheel r = (if stale then { withDeadlines s r base (s.wheel r) with status := .stale, staleAt := none }
      else withDeadlines s r base (s.wheel r)) := by
    show (if stale then _ else _ : State).wheel r = _
    split
    · rw [goStale, putWheel_wheel, if_pos rfl, hat]
    · exact hat
  have hstale : due (putWheel r (withDeadlines s r base (s.wheel r)) s) (withDeadlines s r base (s.wheel r)).staleAt = true ↔ stale := by
    by_cases hlive : (s.wheel r).status = .live
    · have hsome : (withDeadlines s r base (s.wheel r)).staleAt = some (base + staleMs s r) := if_pos hlive
      rw [hsome, due_some]
      exact (and_iff_right hlive).symm
    · have hnone : (withDeadlines s r base (s.wheel r)).staleAt = none := if_neg hlive
      rw [hnone, due_none]
      exact iff_of_false Bool.false_ne_true fun hs => hlive hs.1
  have hdue : ∀ t : State, t.now = s.now → (due t (u.wheel r).missingAt = true ↔ base + missingMs s r ≤ s.now) := fun t ht => by
    have hsome : (u.wheel r).missingAt = some (base + missingMs s r) := by
      rw [hwheel]
      split <;> exact if_pos hholds
    rw [hsome, due_some, ht]
  have hunow : u.now = s.now := by
    show (if stale then _ else _ : State).now = _
    split <;> rfl
  refine ⟨?_, hwheel⟩
  rw [retimeRow_of_change hactive hholds (by rw [h, hnow]; decide), hnow, if_neg Bool.false_ne_true, hbase, Option.getD_some]
  dsimp only
  rw [hat]
  have hu : (if due (putWheel r (withDeadlines s r base (s.wheel r)) s) (withDeadlines s r base (s.wheel r)).staleAt = true
      then goStale r (putWheel r (withDeadlines s r base (s.wheel r)) s) else putWheel r (withDeadlines s r base (s.wheel r)) s) = u :=
    if_congr hstale rfl rfl
  rw [hu]
  exact if_congr (hdue u hunow) rfl rfl

theorem retimeRow_timed : TimedAs s r (usesMoving before r) (s.wheel r) ((retimeRow before r s).wheel r) := by
  refine ⟨fun hwas his => ?_, fun base hwas his hbase hlate => ?_, fun base hwas his hbase hearly => ?_, fun hsame => ?_⟩
  · rw [retimeRow_of_change hactive hholds (by rw [hwas, his]; decide), if_pos his, putWheel_wheel, if_pos rfl]
    exact ⟨rfl, rfl, rfl, if_pos hholds⟩
  · obtain ⟨heq, -⟩ := retimeRow_parked hactive hholds hwas his hbase
    rw [heq, if_pos hlate]
    obtain ⟨d, hd⟩ := goMissing_wheel r (if (s.wheel r).status = .live ∧ base + staleMs s r ≤ s.now
      then goStale r (putWheel r (withDeadlines s r base (s.wheel r)) s) else putWheel r (withDeadlines s r base (s.wheel r)) s)
    rw [hd, if_pos rfl]
    exact ⟨rfl, rfl⟩
  · obtain ⟨heq, hwheel⟩ := retimeRow_parked hactive hholds hwas his hbase
    rw [heq, if_neg (Nat.not_le.2 hearly), hwheel]
    by_cases hlive : (s.wheel r).status = .live
    · by_cases hold : base + staleMs s r ≤ s.now
      · rw [if_pos ⟨hlive, hold⟩]
        exact ⟨rfl, if_pos hholds, fun _ _ => ⟨rfl, rfl⟩, fun _ hyoung => absurd hold (Nat.not_le.2 hyoung), fun hno => absurd hlive hno⟩
      · rw [if_neg fun h => hold h.2]
        exact ⟨rfl, if_pos hholds, fun _ h => absurd h hold, fun _ _ => ⟨hlive, if_pos hlive⟩, fun hno => absurd hlive hno⟩
    · rw [if_neg fun h => hlive h.1]
      exact ⟨rfl, if_pos hholds, fun h => absurd h hlive, fun h => absurd h hlive, fun _ => ⟨rfl, if_neg hlive⟩⟩
  · rw [retimeRow_of_same hsame]

end

/-! ### All rows -/

/-- A row of a list of rows that each change their own record alone. -/
theorem forRows_wheel {f : Row → State → State} (hother : ∀ r q s, q ≠ r → (f r s).wheel q = s.wheel q) {P : State → Prop}
    (hkept : ∀ r s, P s → P (f r s)) {q : Row} {w : WheelRecord} {Q : WheelRecord → Prop}
    (hself : ∀ s, P s → s.wheel q = w → Q ((f q s).wheel q)) {rows : List Row} (hnodup : rows.Nodup) (hq : q ∈ rows) {s : State} (hs : P s)
    (hw : s.wheel q = w) : Q ((forRows f rows s).wheel q) := by
  have hskip : ∀ (l : List Row) (t : State), q ∉ l → (forRows f l t).wheel q = t.wheel q := by
    intro l
    induction l with
    | nil => exact fun _ _ => rfl
    | cons r l ih =>
      intro t hnot
      obtain ⟨hne, hnot'⟩ := List.ne_and_not_mem_of_not_mem_cons hnot
      exact (ih (f r t) hnot').trans (hother r q t hne)
  induction rows generalizing s with
  | nil => exact absurd hq List.not_mem_nil
  | cons r rows ih =>
    obtain ⟨hnot, hnodup'⟩ := List.nodup_cons.1 hnodup
    rcases List.mem_cons.1 hq with rfl | hmem
    · rw [forRows_cons, hskip rows _ hnot]
      exact hself s hs hw
    · have hne : q ≠ r := fun h => hnot (h ▸ hmem)
      rw [forRows_cons]
      exact ih hnodup' hmem (hkept r s hs) ((hother r q s hne).trans hw)

/-- What the timing of a record reads of a state that was retimed in part. -/
structure RetimedFrom (c s : State) : Prop where
  frame : Frame wheelFields c s
  osc_state : s.osc.state = c.osc.state

theorem RetimedFrom.row {c s : State} (h : RetimedFrom c s) (before : State) (r : Row) : RetimedFrom c (retimeRow before r s) :=
  ⟨h.frame.trans (retimeRow_frame before r s), (retimeRow_work before r s).osc_state.trans h.osc_state⟩

theorem timedAs_congr {c s : State} (h : RetimedFrom c s) {r : Row} {wasMoving : Bool} {w v : WheelRecord} (k : TimedAs s r wasMoving w v) :
    TimedAs c r wasMoving w v := by
  have hnow := h.frame.now
  have hmoving := h.frame.usesMoving (r := r)
  have hstale := h.frame.staleMs (r := r)
  have hmissing := h.frame.missingMs (r := r)
  obtain ⟨hstarts, hgone, hruns, hsame⟩ := k
  rw [hnow, hmoving, hstale, hmissing] at hstarts
  rw [hnow, hmoving, hmissing] at hgone
  rw [hnow, hmoving, hmissing, hstale] at hruns
  rw [hmoving] at hsame
  exact ⟨hstarts, hgone, hruns, hsame⟩

theorem retimeRows_timed {before c : State} {rows : List Row} (hactive : c.osc.state = .active) {q : Row}
    (hholds : holdsMissing (c.wheel q).status = true) (hnodup : rows.Nodup) (hq : q ∈ rows) :
    TimedAs c q (usesMoving before q) (c.wheel q) ((forRows (retimeRow before) rows c).wheel q) := by
  refine forRows_wheel (P := RetimedFrom c) (f := retimeRow before) (fun r p s hp => retimeRow_other before hp s)
    (fun r s hs => hs.row before r) (fun s hs hw => ?_) hnodup hq ⟨.refl _ c, rfl⟩ rfl
  have htimed := retimeRow_timed (before := before) (s := s) (r := q) (hs.osc_state.trans hactive) (by rw [hw]; exact hholds)
  rw [hw] at htimed
  exact timedAs_congr hs htimed

theorem allRows_nodup : allRows.Nodup := List.nodup_finRange 32

theorem retime_timed {before c : State} (hactive : c.osc.state = .active) {q : Row} (hholds : holdsMissing (c.wheel q).status = true) :
    TimedAs c q (usesMoving before q) (c.wheel q) ((retime before c).wheel q) :=
  retimeRows_timed hactive hholds allRows_nodup (mem_allRows q)

end Sys2Proof.Machine
end

section
/-! SET_SETTING: the value stored, the answer, and what follows at once. -/

namespace Sys2Proof.Machine

set_option Elab.async false

/-! ### Values brought into their ranges (R82, R178) -/

theorem settingRange_le (i : Fin 21) : settingRanges[i].1 ≤ settingRanges[i].2.1 := by revert i; decide

theorem clamp_ne_iff (k : Setting) (v : Nat) : k.clamp v ≠ v ↔ v < settingRanges[k.item].1 ∨ settingRanges[k.item].2.1 < v := by
  have hle := settingRange_le k.item
  unfold Setting.clamp
  dsimp only
  generalize settingRanges[k.item].1 = lo at hle ⊢
  generalize settingRanges[k.item].2.1 = hi at hle ⊢
  omega

theorem structural_iff (k : Setting) : k.structural = true ↔ 18 ≤ k.item.val := by cases k <;> decide

theorem raiseMissing_eq (k : Setting) (v : Settings) : raiseMissing k v =
    if k = .staleMovingS ∨ k = .missingMovingS then v.set 4 (max v[4] v[3])
    else if k = .staleParkedS ∨ k = .missingParkedS then v.set 6 (max v[6] v[5])
    else v := by cases k <;> rfl

/-- The settings after a value is stored. -/
def settingsStored (k : Setting) (v : Nat) (t : Settings) : Settings := raiseMissing k (t.set k.item (k.clamp v))

/-- The value or the settings needed to be brought into range. -/
def settingAdjusted (k : Setting) (v : Nat) (t : Settings) : Bool :=
  decide (k.clamp v ≠ v) || decide (settingsStored k v t ≠ t.set k.item (k.clamp v))

/-- The part with the settings stored. -/
def withSettings (v : Settings) (b : State) : State := writeTables { b.tables with settings := v } b

theorem settingAdjusted_iff (k : Setting) (v : Nat) (t : Settings) : settingAdjusted k v t = true ↔
    v < settingRanges[k.item].1 ∨ settingRanges[k.item].2.1 < v ∨ settingsStored k v t ≠ t.set k.item (k.clamp v) := by
  rw [settingAdjusted, Bool.or_eq_true, decide_eq_true_iff, decide_eq_true_iff, clamp_ne_iff, or_assoc]

section
variable {data : List Byte} {b : State} {k : Setting} (hk : natAt data 2 = k.item.val)
include hk

theorem setSetting_eq : setSetting data b =
    if (k.structural && decide (k.clamp (natAt4 data 3) ≠ natAt4 data 3)) = true then refuse .badValue b
    else answered (okOrClamped (settingAdjusted k (natAt4 data 3) b.tables.settings))
      (byteAt data 2 :: be32 (settingsStored k (natAt4 data 3) b.tables.settings)[k.item])
      (if settingsStored k (natAt4 data 3) b.tables.settings = b.tables.settings then b
        else settingEffect b k (withSettings (settingsStored k (natAt4 data 3) b.tables.settings) b)) := by
  rw [setSetting, hk, settingOf_item]
  rfl

theorem setSetting_refused (hstructural : 18 ≤ k.item.val)
    (hout : natAt4 data 3 < settingRanges[k.item].1 ∨ settingRanges[k.item].2.1 < natAt4 data 3) : setSetting data b = refuse .badValue b := by
  rw [setSetting_eq hk, if_pos]
  rw [(structural_iff k).2 hstructural, Bool.true_and]
  exact decide_eq_true ((clamp_ne_iff k _).2 hout)

variable (hok : k.item.val < 18 ∨ (settingRanges[k.item].1 ≤ natAt4 data 3 ∧ natAt4 data 3 ≤ settingRanges[k.item].2.1))
include hok

theorem setSetting_taken : setSetting data b =
    answered (okOrClamped (settingAdjusted k (natAt4 data 3) b.tables.settings))
      (byteAt data 2 :: be32 (settingsStored k (natAt4 data 3) b.tables.settings)[k.item])
      (if settingsStored k (natAt4 data 3) b.tables.settings = b.tables.settings then b
        else settingEffect b k (withSettings (settingsStored k (natAt4 data 3) b.tables.settings) b)) := by
  rw [setSetting_eq hk, if_neg]
  rw [Bool.and_eq_true, structural_iff, decide_eq_true_iff, clamp_ne_iff]
  omega

end

/-! ### What follows at once -/

/-- An item that no owner acts on. -/
theorem settingEffect_of_quiet (before : State) {k : Setting} (s : State) (h : k.item.val < 18 ∨ k = .activityMask)
    (hage : k ≠ .candidateAgeS) (hspeed : k ≠ .movingSpeedKmh) (hdelay : k ≠ .proposalDelayS) : settingEffect before k s = s := by
  cases k
  case candidateAgeS => exact absurd rfl hage
  case movingSpeedKmh => exact absurd rfl hspeed
  case proposalDelayS => exact absurd rfl hdelay
  case laneEnableMask | parkLane => exact absurd h (by decide)
  all_goals rfl

theorem settingEffect_of_lanes (before : State) {k : Setting} (s : State) (h : k = .laneEnableMask ∨ k = .parkLane) :
    settingEffect before k s = relane s := by
  rcases h with rfl | rfl <;> rfl

/-- What the three owners that act on the part leave of it. -/
structure SettingTold (b u : State) : Prop where
  tables : u.tables = b.tables
  store : u.store = b.store
  requests : u.link.requests = b.link.requests
  responses : u.link.responses = b.link.responses
  lines : u.lines = b.lines
  mgu : u.mgu = b.mgu

theorem SettingTold.of_frame {c : List Field} {b u : State} (hf : Frame c b u) (h : Lawful b u) (k₁ : Field.tables ∉ c := by decide)
    (k₂ : Field.store ∉ c := by decide) (k₃ : Field.lines ∉ c := by decide) (k₄ : Field.mgu ∉ c := by decide) : SettingTold b u :=
  ⟨hf.tables k₁, hf.store k₂, h.link.requests, h.link.responses, hf.lines k₃, hf.mgu k₄⟩

theorem ageCandidates_told (s : State) : SettingTold s (ageCandidates s) :=
  .of_frame (ageCandidates_frame s) (Lawful.trans (.setCandidates (candidatesLegal_filter _)) (settleProposal_lawful _))

theorem retimed_told (before s : State) : SettingTold s (sessionMoved (retime before s)) :=
  .of_frame (((retime_frame before s).mono (d := endFields) (by decide)).trans (sessionMoved_frame _))
    ((retime_lawful before s).trans (sessionMoved_lawful _))

theorem dueAfterWrite_told (before s : State) : SettingTold s (dueAfterWrite before s) :=
  .of_frame (dueAfterWrite_frame before s) (dueAfterWrite_lawful before s)

theorem ageCandidates_candidates (s : State) :
    (ageCandidates s).candidates = s.candidates.filter fun c => decide (s.now < c.lastHeard + s.setting .candidateAgeS * 1000) := by
  rw [ageCandidates, (settleProposal_frame _).candidates]
  refine List.filter_congr fun c _ => ?_
  rw [candidateExpired, ← decide_not]
  exact decide_eq_decide.2 Nat.not_le

/-- A session that the vehicle now moves in ends (R115). -/
theorem sessionMoved_ends {s : State} {i : Nat} {speed : Nat} (hopen : s.enc.session = some i) (hspeed : s.vdm.speed = some speed)
    (hmoving : s.setting .movingSpeedKmh < speed) :
    (sessionMoved s).enc.session = none ∧ (sessionMoved s).enc.lastEnding = .moved ∧ (sessionMoved s).enc.pairs = [] := by
  have hgo : sessionOpen s = true ∧ moving s = true := by
    refine ⟨by rw [sessionOpen, hopen]; rfl, ?_⟩
    rw [moving, hspeed]
    exact decide_eq_true hmoving
  obtain ⟨p, hp⟩ := endSession_enc .moved hopen
  rw [sessionMoved, if_pos hgo, hp]
  exact ⟨rfl, rfl, rfl⟩

/-- A session's end that leaves the part in ACTIVE leaves the records and the vehicle data. -/
theorem sessionMoved_of_active {s : State} (h : (sessionMoved s).osc.state = .active) (hactive : s.osc.state = .active) :
    (sessionMoved s).wheels = s.wheels ∧ (sessionMoved s).vdm = s.vdm := by
  unfold sessionMoved at h ⊢
  split at h
  · next hgo =>
    obtain ⟨i, hi⟩ := Option.ne_none_iff_exists'.1 ((sessionOpen_iff s).1 hgo.1)
    obtain ⟨⟨-, -, -, -, -, -, -, -, -, -, -, -, hvdm, -, hparking, -⟩, hwheels⟩ := endSession_ended .moved hi (by rw [hactive]; decide)
    rw [if_pos hgo]
    refine ⟨hwheels fun hpark => ?_, hvdm⟩
    exact absurd ((hparking hpark).symm.trans h) (by decide)
  · next hno => exact ⟨by rw [if_neg hno], by rw [if_neg hno]⟩

/-- Each row whose deadlines run follows the timing set that the write gives it (R83, R141). -/
theorem retimed_after {b c : State} {cs : List Field} (hf : Frame cs b c) (hactive : b.osc.state = .active)
    (hdone : (sessionMoved (retime b c)).osc.state = .active) {q : Row} (hholds : holdsMissing (b.wheel q).status = true)
    (k₁ : Field.wheels ∉ cs := by decide) (k₂ : Field.clock ∉ cs := by decide) (k₃ : Field.osc ∉ cs := by decide) :
    Retimed b (sessionMoved (retime b c)) q := by
  have hwheel := hf.wheel q k₁
  have hcactive : c.osc.state = .active := (congrArg Controller.state (hf.osc k₃)).trans hactive
  have htimed := retime_timed (before := b) (c := c) hcactive (q := q) (by rw [hwheel]; exact hholds)
  rw [hwheel] at htimed
  have hretime := retime_frame b c
  have hstate : (retime b c).osc.state = .active := (retime_work b c).osc_state.trans hcactive
  generalize retime b c = t at htimed hretime hstate hdone ⊢
  obtain ⟨hwheels, hvdm⟩ := sessionMoved_of_active hdone hstate
  have hmoved := sessionMoved_frame t
  have hwheel' : (sessionMoved t).wheel q = t.wheel q := by rw [State.wheel, hwheels]; rfl
  rw [← hwheel'] at htimed
  have hsame : Frame (.enc :: .episodes :: .lanes :: wheelFields) c (sessionMoved t) :=
    (hretime.mono (by decide)).trans ((hmoved.sharpen (d := .enc :: .episodes :: .lanes :: wheelFields) (f := .vdm) hvdm))
  exact htimed.retimed (hf.now k₂) (hsame.usesMoving (r := q)) (hsame.staleMs (r := q)) (hsame.missingMs (r := q))

end Sys2Proof.Machine
end

section
/-! SET_SETTING with what its owners make of it: the settlement of O36. -/

namespace Sys2Proof.Machine

set_option Elab.async false

/-! ### A row that becomes due (R125, R127) -/

/-- The part with the rows marked that are due, and were marked or become due by the write. -/
def dueMarked (before s : State) : State := s.setEpisodes (Vector.ofFn fun r =>
  { s.episode r with dueTaken := rowIsDue s r && ((s.episode r).dueTaken || !rowIsDue before r) })

/-- The rows that the write makes due. -/
def freshlyDue (before s : State) : List Row := allRows.filter fun r => rowIsDue s r && !rowIsDue before r

theorem dueAfterWrite_eq (before s : State) :
    dueAfterWrite before s = if (freshlyDue before s).isEmpty then dueMarked before s else search (dueMarked before s) := rfl

theorem mem_freshlyDue {before s : State} {r : Row} : r ∈ freshlyDue before s ↔ DueRow s r ∧ ¬ DueRow before r := by
  rw [freshlyDue, List.mem_filter, Bool.and_eq_true, rowIsDue_iff, Bool.not_eq_true', ← Bool.not_eq_true, rowIsDue_iff]
  exact and_iff_right (mem_allRows r)

theorem dueMarked_episode (before s : State) (q : Row) : (dueMarked before s).episode q =
    { s.episode q with dueTaken := rowIsDue s q && ((s.episode q).dueTaken || !rowIsDue before q) } := by
  simp [dueMarked, State.episode]

theorem dueMarked_alike (before s : State) : SearchAlike s (dueMarked before s) :=
  ⟨(setEpisodes_frame _ s).mono (by decide), fun q => by rw [dueMarked_episode]; exact ⟨rfl, rfl⟩⟩

/-- The search of a write runs only for a row that becomes due, and only where it is allowed. -/
theorem dueAfterWrite_quiet {before s : State} (h : (∀ q, DueRow s q → DueRow before q) ∨ ¬ SearchAllowed s) :
    dueAfterWrite before s = dueMarked before s := by
  rw [dueAfterWrite_eq]
  split
  · rfl
  · next hsome =>
    refine search_of_forbidden (s := dueMarked before s) (h.elim (fun hno => ?_) id)
    obtain ⟨q, hq⟩ := List.isEmpty_eq_false_iff_exists_mem.1 (Bool.not_eq_true _ ▸ hsome)
    obtain ⟨hdue, hnot⟩ := mem_freshlyDue.1 hq
    exact absurd (hno q hdue) hnot

theorem dueAfterWrite_searched {before s : State} {q : Row} (hdue : DueRow s q) (hnot : ¬ DueRow before q) (h : SearchAllowed s) :
    Searched s (dueAfterWrite before s) := by
  have hsome : ¬ (freshlyDue before s).isEmpty = true := by
    rw [List.isEmpty_iff]
    exact List.ne_nil_of_mem (mem_freshlyDue.2 ⟨hdue, hnot⟩)
  rw [dueAfterWrite_eq, if_neg hsome]
  refine (search_searched (s := dueMarked before s) h).searched (dueMarked_alike before s) (fun r => ?_)
    (setEpisodes_frame _ s).evq
  rw [dueMarked_episode]

/-! ### The settlement -/

section
variable {s : State} {data : List Byte} {k : Setting} (hw : WaitingFor 0x07 s data) (hk : natAt data 2 = k.item.val)
include hw

theorem exec_setSetting : exec .setSetting s = .next (deliver data (setSetting data (takeOff s))) := serveRequest_waitingFor hw _

include hk

/-- The answer of a write that is taken. -/
theorem exec_setSetting_taken
    (hok : k.item.val < 18 ∨ (settingRanges[k.item].1 ≤ natAt4 data 3 ∧ natAt4 data 3 ≤ settingRanges[k.item].2.1)) :
    exec .setSetting s = replied data (if settingAdjusted k (natAt4 data 3) (takeOff s).tables.settings then .clamped else .ok)
      (byteAt data 2 :: be32 (settingsStored k (natAt4 data 3) (takeOff s).tables.settings)[k.item])
      (if settingsStored k (natAt4 data 3) (takeOff s).tables.settings = (takeOff s).tables.settings then takeOff s
        else settingEffect (takeOff s) k (withSettings (settingsStored k (natAt4 data 3) (takeOff s).tables.settings) (takeOff s))) := by
  rw [exec_setSetting hw, setSetting_taken hk hok,
    okOrClamped_iff (p := settingAdjusted k (natAt4 data 3) (takeOff s).tables.settings = true) Iff.rfl]
  rfl

end

theorem settingsStored_of_lanes {k : Setting} (h : k = .laneEnableMask ∨ k = .parkLane) (v : Nat) (t : Settings) :
    settingsStored k v t = t.set k.item (k.clamp v) := by
  rcases h with rfl | rfl <;> rfl

theorem settingsStored_at {k : Setting} (h : k = .candidateAgeS ∨ k = .movingSpeedKmh ∨ k = .proposalDelayS) (v : Nat) (t : Settings) :
    (settingsStored k v t)[k.item] = k.clamp v := by
  have hstored : settingsStored k v t = t.set k.item (k.clamp v) := by rcases h with rfl | rfl | rfl <;> rfl
  rw [hstored]
  exact Vector.getElem_set_self k.item.isLt

/-- The owners of the three items that act on more than the lanes. -/
theorem settingTold {b : State} {k : Setting} (h : k = .candidateAgeS ∨ k = .movingSpeedKmh ∨ k = .proposalDelayS) (v : Settings) :
    SettingTold (withSettings v b) (settingEffect b k (withSettings v b)) := by
  rcases h with rfl | rfl | rfl
  · exact ageCandidates_told _
  · exact retimed_told b _
  · exact dueAfterWrite_told b _

theorem withSettings_setting {b : State} {k : Setting} (h : k = .candidateAgeS ∨ k = .movingSpeedKmh ∨ k = .proposalDelayS) (v : Nat)
    (t : Settings) : (withSettings (settingsStored k v t) b).setting k = k.clamp v := settingsStored_at h v t

/-- The lanes after a write of one of their items. -/
theorem relane_written (v : Settings) (b : State) : ∃ lanes, relane (withSettings v b) = { withSettings v b with lanes := lanes }
    ∧ ∀ l : LaneNo, lanes[l].flags = (b.lane l).flags
      ∧ lanes[l].state = (if laneEnabled (withSettings v b) b.osc.state l = false then .disabled
        else if (b.lane l).state = .disabled then .freshHunt else (b.lane l).state) := by
  refine ⟨(relane (withSettings v b)).lanes, rfl, fun l => ?_⟩
  have hlane : (relane (withSettings v b)).lanes[l] = (b.lane l).enable (laneEnabled (withSettings v b) b.osc.state l) :=
    relane_lane (withSettings v b) l
  rw [hlane]
  exact ⟨Lane.enable_flags _ _, Lane.enable_state _ _⟩

/-- Settles O36: the value, the answer, and the owner that the item has. -/
theorem setSettingWrites : Obligations.SetSettingWrites := by
  intro s data hw b v
  refine ⟨fun hbig => ?_, fun k hk => ?_⟩
  · rw [exec_setSetting hw, setSetting, settingOf_of_gt hbig]
    rfl
  intro lo hi brought written settings result bytes stored
  have hsettings : settingsStored k v b.tables.settings = settings := raiseMissing_eq k written
  have hresult : (if settingAdjusted k v b.tables.settings then ResultCode.clamped else .ok) = result := by
    refine if_congr ?_ rfl rfl
    rw [settingAdjusted_iff, hsettings]
    exact Iff.rfl
  have hstored : withSettings settings b = stored := rfl
  have htaken : k.item.val < 18 ∨ (lo ≤ v ∧ v ≤ hi) → exec .setSetting s
      = replied data result bytes (if settings = b.tables.settings then b else settingEffect b k stored) := fun hok => by
    rw [exec_setSetting_taken hw hk hok]
    show replied data (if settingAdjusted k v b.tables.settings then _ else _) (_ :: be32 (settingsStored k v b.tables.settings)[k.item])
      (if settingsStored k v b.tables.settings = b.tables.settings then b
        else settingEffect b k (withSettings (settingsStored k v b.tables.settings) b)) = _
    rw [hresult, hsettings, hstored]
  refine ⟨fun hstructural hout => ?_, fun hok hsame => ?_, fun hok hne hage hspeed hdelay => ?_, fun hlane hlo hhi hne => ?lanes,
    fun howner hne => ?owners⟩
  · rw [exec_setSetting hw, setSetting_refused hk hstructural hout]
    rfl
  · rw [htaken hok, if_pos hsame]
  · have hin : k.item.val < 18 ∨ (lo ≤ v ∧ v ≤ hi) := hok.imp_right And.right
    rw [htaken hin, if_neg hne, settingEffect_of_quiet b stored (hok.imp_right And.left) hage hspeed hdelay]
  case lanes =>
    obtain ⟨lanes, heq, hlanes⟩ := relane_written settings b
    have hok : result = .ok := by
      refine if_neg ?_
      rintro (hlow | hhigh | hraised)
      · exact absurd hlow (Nat.not_lt.2 hlo)
      · exact absurd hhigh (Nat.not_lt.2 hhi)
      · exact hraised (hsettings.symm.trans (settingsStored_of_lanes hlane v _))
    refine ⟨lanes, ?_, hlanes⟩
    rw [htaken (.inr ⟨hlo, hhi⟩), if_neg hne, settingEffect_of_lanes b stored hlane, hok, ← hstored, heq]
  case owners =>
    have hin : k.item.val < 18 := by rcases howner with rfl | rfl | rfl <;> decide
    have htold := settingTold (b := b) howner settings
    have hsetting := withSettings_setting (b := b) howner v b.tables.settings
    rw [hsettings, hstored] at hsetting
    rw [hstored] at htold
    refine ⟨settingEffect b k stored, by rw [htaken (.inl hin), if_neg hne], htold.tables, htold.store, htold.requests, htold.responses,
      htold.lines, htold.mgu, ?_⟩
    have hwritten : Frame [.tables, .store] b stored := hstored ▸ writeTables_frame _ b
    refine ⟨fun hage => ?_, fun hno => ?_, fun i speed hspeed hopen hv hmoving => ?_, fun q hspeed hactive hdone hholds => ?_, fun hdelay => ?_⟩
    · subst hage
      refine ⟨(ageCandidates_frame stored).wheels, (ageCandidates_candidates stored).trans ?_⟩
      rw [hsetting]
      rfl
    · rcases howner with rfl | rfl | rfl
      · exact absurd rfl hno
      · exact (sessionMoved_frame _).candidates.trans (retime_frame b stored).candidates
      · exact (dueAfterWrite_frame b stored).candidates
    · subst hspeed
      have hf := retime_frame b stored
      have heq : settingEffect b .movingSpeedKmh stored = sessionMoved (retime b stored) := rfl
      rw [heq]
      refine sessionMoved_ends (s := retime b stored) (i := i) (speed := speed) ?_ ?_ ?_
      · rw [hf.enc]
        exact hopen
      · rw [hf.vdm]
        exact hv
      · rw [hf.setting, hsetting]
        exact hmoving
    · subst hspeed
      have heq : settingEffect b .movingSpeedKmh stored = sessionMoved (retime b stored) := rfl
      rw [heq] at hdone ⊢
      exact retimed_after hwritten hactive hdone hholds
    · subst hdelay
      refine ⟨(dueAfterWrite_frame b stored).wheels, fun hquiet => ?_, fun q hdue hnot hallowed => ?_⟩
      · have heq : settingEffect b .proposalDelayS stored = dueMarked b stored := dueAfterWrite_quiet hquiet
        rw [heq]
        refine ⟨rfl, fun q => ?_⟩
        rw [dueMarked_episode]
        exact ⟨rfl, rfl, rfl⟩
      · exact dueAfterWrite_searched hdue hnot hallowed

end Sys2Proof.Machine
end

section
/-! A session completed (R120 to R122): the IDs, the records and the save that the pending list brings about. -/

namespace Sys2Proof.Machine

set_option Elab.async false

/-! ### The IDs after the pending list (R121) -/

section
variable {pairs : List EnrolPair} {s : State} (hrows : (pairRows pairs).Nodup)
include hrows

theorem applyPairs_rowId_paired (hplaced : ∀ p ∈ pairs, placeOf s p.row ≠ none) {p : EnrolPair} (hp : p ∈ pairs) :
    rowId (applyPairs pairs s) p.row = some p.id := by
  obtain ⟨pl, hpl⟩ := Option.ne_none_iff_exists'.1 (hplaced p hp)
  have hafter : placeOf (applyPairs pairs s) p.row = some pl := (placeOf_congr (applyPairs_frame pairs s).trailer p.row).trans hpl
  exact (rowId_of_place hafter).trans ((applyPairs_place hrows s pl).1 p hp hpl)

theorem applyPairs_rowId_unpaired {r : Row} (hr : r ∉ pairRows pairs) :
    rowId (applyPairs pairs s) r = if r ∈ vacatedRows pairs then none else rowId s r := by
  have hafter : placeOf (applyPairs pairs s) r = placeOf s r := placeOf_congr (applyPairs_frame pairs s).trailer r
  cases hpl : placeOf s r with
  | none =>
    have hbefore : rowId s r = none := by rw [rowId_eq_place, hpl]; rfl
    rw [rowId_eq_place, hafter, hpl, hbefore, ite_self]
    rfl
  | some pl =>
    have hother : ∀ p ∈ pairs, placeOf s p.row ≠ some pl := fun p hp hat =>
      hr (placeOf_injective hat hpl ▸ List.mem_map_of_mem hp)
    have hshown : (∃ q ∈ vacatedRows pairs, placeOf s q = some pl) ↔ r ∈ vacatedRows pairs :=
      ⟨fun ⟨q, hq, hat⟩ => placeOf_injective hat hpl ▸ hq, fun h => ⟨r, h, hpl⟩⟩
    rw [rowId_of_place (hafter.trans hpl), (applyPairs_place hrows s pl).2 hother, rowId_of_place hpl]
    simp only [hshown]

end

/-! ### The state with the list in force (R121, R122) -/

theorem pairsInForce_rowId (s : State) (r : Row) : rowId (pairsInForce s) r = rowId (applyPairs s.enc.pairs s) r :=
  rowId_congr (pairsInForce_tables s) ((pairsInForce_frame s).trailer.trans (applyPairs_frame s.enc.pairs s).trailer.symm) r

theorem mem_pairsChange {s : State} {r : Row} : r ∈ pairsChange s ↔ rowId (pairsInForce s) r ≠ rowId s r := by
  rw [pairsChange, changedRows, List.mem_filter, decide_eq_true_eq, pairsInForce_rowId]
  exact (and_iff_right (mem_allRows r)).trans ne_comm

theorem pairsChange_isEmpty_iff (s : State) : (pairsChange s).isEmpty = true ↔ ¬ ∃ r, rowId (pairsInForce s) r ≠ rowId s r := by
  rw [List.isEmpty_iff, List.eq_nil_iff_forall_not_mem]
  simp only [mem_pairsChange, not_exists]

/-- The rows restarted, as the state with the list in force shows them. -/
theorem pairsInForce_restarted (s : State) :
    RowsRestarted (pairsChange s) (applyPairs s.enc.pairs s) (restartRows (pairsChange s) (applyPairs s.enc.pairs s))
      ∧ (pairsInForce s).wheels = (restartRows (pairsChange s) (applyPairs s.enc.pairs s)).wheels := by
  refine ⟨restartRows_restarted _ _, ?_⟩
  unfold pairsInForce
  rw [(requestSave_frame _).wheels]
  split <;> rfl

theorem pairsInForce_restarted_row {s : State} {r : Row} (h : rowId (pairsInForce s) r ≠ rowId s r) : Restarted (pairsInForce s) r := by
  obtain ⟨hrestarted, hwheels⟩ := pairsInForce_restarted s
  refine restartedRecord_restarted (pairsInForce_rowId s r) ?_
  rw [State.wheel, hwheels]
  exact hrestarted.restarted r (mem_pairsChange.2 h)

theorem pairsInForce_kept {s : State} {r : Row} (h : rowId (pairsInForce s) r = rowId s r)
    (hp : rowId (pairsInForce s) (partner r) = rowId s (partner r)) : (pairsInForce s).wheel r = s.wheel r := by
  obtain ⟨hrestarted, hwheels⟩ := pairsInForce_restarted s
  rw [State.wheel, hwheels]
  exact (hrestarted.kept (fun hmem => mem_pairsChange.1 hmem h) fun hmem => mem_pairsChange.1 hmem hp).trans
    ((applyPairs_frame s.enc.pairs s).wheel r)

theorem pairsInForce_osc (s : State) : (pairsInForce s).osc = s.osc := by
  have hrestarted := (restartRows_restarted (pairsChange s) (applyPairs s.enc.pairs s)).osc.trans (applyPairs_frame s.enc.pairs s).osc
  unfold pairsInForce
  rw [(requestSave_frame _).osc, ← hrestarted]
  split <;> rfl

theorem pairsInForce_tables_rest (s : State) :
    (pairsInForce s).tables = { s.tables with rows := (pairsInForce s).tables.rows, roster := (pairsInForce s).tables.roster } := by
  rw [pairsInForce_tables]
  exact (IdsOnly.applyPairs s.enc.pairs s).rest

/-- The save that follows the list: one begins, or the one in flight is to be followed by another. -/
theorem pairsInForce_store (s : State) :
    (s.store.state = .idle → SaveBegun s.store (pairsInForce s))
      ∧ (s.store.state ≠ .idle → (pairsInForce s).store = { s.store with saveAgain := true, dirty := (pairsInForce s).store.dirty }
        ∧ ((pairsInForce s).store.dirty = true ↔ s.store.dirty = true ∨ ∃ r, rowId (pairsInForce s) r ≠ rowId s r)) := by
  have hchanged := pairsChange_isEmpty_iff s
  have hkept : (dropCandidates (s.enc.pairs.map EnrolPair.id)
      (restartRows (pairsChange s) (applyPairs s.enc.pairs s))).store = s.store :=
    (restartRows_frame _ _).store.trans (applyPairs_frame _ s).store
  unfold pairsInForce at hchanged ⊢
  dsimp only at hchanged ⊢
  generalize dropCandidates (s.enc.pairs.map EnrolPair.id) (restartRows (pairsChange s) (applyPairs s.enc.pairs s)) = t
    at hchanged hkept ⊢
  by_cases hnone : (pairsChange s).isEmpty = true
  · rw [if_pos hnone] at hchanged ⊢
    refine ⟨fun hidle => ?_, fun hbusy => ?_⟩
    · rw [requestSave_of_idle (by rwa [hkept])]
      exact startSave_begun (by rw [hkept]) (by rw [hkept])
    · have hno := hchanged.1 hnone
      have hstore : (requestSave t).store = { s.store with saveAgain := true } := by
        rw [requestSave_of_busy (by rwa [hkept]), hkept]
      exact ⟨by rw [hstore], by rw [hstore]; exact ⟨.inl, fun h => h.resolve_right hno⟩⟩
  · rw [if_neg hnone] at hchanged ⊢
    obtain ⟨hbegun, hagain⟩ := requestSave_store (before := s.store) (s := markDirty t) (by rw [← hkept]; rfl)
    refine ⟨hbegun, fun hbusy => ?_⟩
    have hsome := not_not.1 fun hno => hnone (hchanged.2 hno)
    rw [hagain hbusy]
    exact ⟨rfl, fun _ => .inr hsome, fun _ => rfl⟩

/-! ### OSC told that the session has completed -/

/-- The part told that a session has ended, and the search that follows, keep a record restarted. -/
theorem Restarted.told {s u : State} {r : Row} (hawake : s.osc.state ≠ .dormant) (hids : rowId u r = rowId s r)
    (hwheel : u.wheel r = (sessionClosed s).wheel r) (h : Restarted s r) : Restarted u r := by
  by_cases hpark : s.osc.parkPending = true ∧ s.lines.ignition = false
  · rw [sessionClosed_of_parking hpark] at hwheel
    obtain ⟨-, -, -, hwheels, -⟩ := enterState_entered .parkWatch (s.setOsc { s.osc with parkPending := false })
    have hentered := hwheel.trans (hwheels r)
    unfold Restarted at h ⊢
    rw [hentered, hids]
    rw [if_neg (fun hdormant => hawake hdormant.1)]
    exact h
  · rw [sessionClosed_of_staying hpark] at hwheel
    exact restarted_congr hwheel hids h

/-- What a session completed leaves, seen from the state in which its last step was done. -/
theorem applyCompletion_completed {i : Nat} {s : State} (hrows : (pairRows s.enc.pairs).Nodup)
    (hplaced : ∀ p ∈ s.enc.pairs, placeOf s p.row ≠ none) (hawake : s.osc.state ≠ .dormant) :
    Completed i s.enc.pairs s (applyCompletion i s) := by
  have hforce := pairsInForce_frame s
  have hdone := completedState_frame i s
  have htold := sessionClosed_frame (completedState i s)
  have hsearch := search_frame (sessionClosed (completedState i s))
  have hids : ∀ r, rowId (applyCompletion i s) r = rowId (pairsInForce s) r := fun r => by
    rw [applyCompletion_eq, hsearch.rowId, htold.rowId, hdone.rowId]
  have htables : (applyCompletion i s).tables = (pairsInForce s).tables := by
    rw [applyCompletion_eq, hsearch.tables, htold.tables, hdone.tables]
  have hstore : (applyCompletion i s).store = (pairsInForce s).store := by
    rw [applyCompletion_eq, hsearch.store, htold.store, hdone.store]
  have hosc : (completedState i s).osc = s.osc := hdone.osc.trans (pairsInForce_osc s)
  have hlines : (completedState i s).lines = s.lines := hdone.lines.trans hforce.lines
  have hwheel : ∀ r, (applyCompletion i s).wheel r = (sessionClosed (completedState i s)).wheel r := fun r => by
    rw [applyCompletion_eq, hsearch.wheel]
  obtain ⟨p, henc⟩ := applyCompletion_enc i s
  obtain ⟨hbegun, hagain⟩ := pairsInForce_store s
  have happlied : pairsApplied s
      = ((s.enc.pairs.map EnrolPair.row).filter fun r => decide (rowId s r ≠ rowId (applyCompletion i s) r)).length := by
    rw [pairsApplied]
    refine congrArg List.length (List.filter_congr fun r _ => ?_)
    rw [decide_eq_decide, mem_pairsChange, hids]
    exact ne_comm
  have hraised := raised_between (kind := .enrolCompleted) (row := stepRow s i) (value := some (pairsApplied s)) hforce
    (((setEnc_frame (completedEnc s) _).mono (d := endFields) (by decide)).trans
      ((htold.mono (by decide)).trans (hsearch.mono (by decide))))
  refine ⟨fun q hq => ?paired, fun r hr hsource => ?source, fun r hr hno => ?others, ?tables, fun r hne => ?restarted, ?candidates,
    fun hidle => ?idle, fun hbusy => ?busy, ?raised, ?_, ?_, ?_, ?_, ?_, ?_, ?counted, ?vacated, fun hpark => ?parking,
    fun hstay => ?staying⟩
  case paired => rw [hids, pairsInForce_rowId, applyPairs_rowId_paired hrows hplaced hq]
  case source =>
    obtain ⟨q, hq, hfrom⟩ := List.mem_map.1 hsource
    rw [hids, pairsInForce_rowId, applyPairs_rowId_unpaired hrows hr, if_pos (mem_vacatedRows.2 ⟨⟨q, hq, hfrom⟩, hr⟩)]
  case others =>
    have hstays : r ∉ vacatedRows s.enc.pairs := fun hmem => by
      obtain ⟨⟨q, hq, hfrom⟩, -⟩ := mem_vacatedRows.1 hmem
      exact hno (List.mem_map.2 ⟨q, hq, hfrom⟩)
    rw [hids, pairsInForce_rowId, applyPairs_rowId_unpaired hrows hr, if_neg hstays]
  case tables => rw [htables]; exact pairsInForce_tables_rest s
  case restarted =>
    have hchanged : rowId (pairsInForce s) r ≠ rowId s r := hids r ▸ hne
    have hbefore := restarted_congr (hdone.wheel r) (hdone.rowId (r := r)) (pairsInForce_restarted_row hchanged)
    exact hbefore.told (by rwa [hosc]) ((hids r).trans (hdone.rowId (r := r)).symm) (hwheel r)
  case candidates => rw [applyCompletion_eq, hsearch.candidates, htold.candidates, hdone.candidates, pairsInForce_candidates]
  case idle =>
    have hsaved := hbegun hidle
    have hkept : (applyCompletion i s).lines = (pairsInForce s).lines := by
      rw [applyCompletion_eq, hsearch.lines, htold.lines, hdone.lines]
    unfold SaveBegun at hsaved ⊢
    rwa [hstore, hkept, htables]
  case busy =>
    obtain ⟨hrest, hdirty⟩ := hagain hbusy
    rw [hstore]
    exact ⟨hrest, hdirty.trans (by simp only [hids])⟩
  case raised =>
    rw [← happlied, applyCompletion_eq]
    exact hraised
  case counted => rw [henc, ← happlied]; rfl
  case vacated =>
    rw [henc]
    refine congrArg List.length (List.filter_congr fun r _ => ?_)
    congr 1
    rw [Bool.eq_iff_iff, List.any_eq_true, decide_eq_true_eq, List.mem_map]
    simp only [decide_eq_true_eq]
  case parking =>
    rw [applyCompletion_eq, hsearch.osc, sessionClosed_of_parking (s := completedState i s) (by rwa [hosc, hlines]), enterState_osc_state]
  case staying =>
    rw [applyCompletion_eq, hsearch.osc, sessionClosed_of_staying (s := completedState i s) (by rwa [hosc, hlines]), State.setOsc_osc, hosc]
  all_goals rw [henc]; rfl

/-- A session that completes while the part stays where it is spares the records of the rows whose IDs, and their partners', stay. -/
theorem applyCompletion_kept {i : Nat} {s : State} (hstay : ¬ (s.osc.parkPending = true ∧ s.lines.ignition = false)) {r : Row}
    (h : rowId (applyCompletion i s) r = rowId s r) (hp : rowId (applyCompletion i s) (partner r) = rowId s (partner r)) :
    (applyCompletion i s).wheel r = s.wheel r := by
  have hdone := completedState_frame i s
  have hclosed : sessionClosed (completedState i s) = _ := sessionClosed_of_staying (s := completedState i s) (by
    rwa [hdone.osc, pairsInForce_osc, hdone.lines, (pairsInForce_frame s).lines])
  have hids : ∀ q, rowId (applyCompletion i s) q = rowId (pairsInForce s) q := fun q => by
    rw [applyCompletion_eq, (search_frame _).rowId, (sessionClosed_frame _).rowId, hdone.rowId]
  rw [hids] at h hp
  rw [applyCompletion_eq, (search_frame _).wheel, hclosed, ← pairsInForce_kept h hp]
  exact hdone.wheel r

end Sys2Proof.Machine
end

section
/-! What a measurement writes before its conditions are judged (R68 to R73, R80): the reading, the trend, and MISSING and LEAK cleared. -/

namespace Sys2Proof.Machine

set_option Elab.async false

/-! ### A condition changed, and one cleared -/

/-- The events of a step, raised in their order. -/
abbrev RaisedAll (events : List Event) (s u : State) : Prop := u.evq = events.foldl (fun q e => pushEvent e q) s.evq

theorem RaisedAll.trans {xs ys : List Event} {s t u : State} (h : RaisedAll xs s t) (k : RaisedAll ys t u) : RaisedAll (xs ++ ys) s u := by
  rw [RaisedAll, List.foldl_append, ← h, k]

theorem RaisedAll.raised {e : Event} {xs : List Event} {s u : State} (h : RaisedAll xs s u) (he : e ∈ xs) : Raised e s u := by
  obtain ⟨first, later, rfl⟩ := List.append_of_mem he
  exact ⟨first, later, h⟩

theorem setCondition_raised (r : Row) (c : Condition) (on : Bool) (s : State) :
    RaisedAll [conditionEvent r c on (withCond (s.wheel r).active c on) (s.wheel r).pc (s.now / 1000)] s (setCondition r c on s) := by
  let put := putWheel r { s.wheel r with active := withCond (s.wheel r).active c on, counters := (s.wheel r).counters.set c.code 0 } s
  have hwheel : put.wheel r = { s.wheel r with
      active := withCond (s.wheel r).active c on, counters := (s.wheel r).counters.set c.code 0 } := by rw [putWheel_wheel, if_pos rfl]
  have hevq : (setCondition r c on s).evq = (raiseCondition r c on put).evq := by
    unfold setCondition
    dsimp only
    split
    · exact (notice_frame _ _).evq
    · rfl
  rw [RaisedAll, hevq]
  unfold raiseCondition
  dsimp only
  rw [hwheel]
  rfl

theorem counters_set_other {n : Nat} {c d : Condition} (h : d ≠ c) (w : WheelRecord) :
    (w.counters.set c.code n)[d.code] = w.counters[d.code] :=
  Vector.getElem_set_ne _ _ fun hcode => h (code_injective (Fin.ext hcode.symm))

/-- A condition that is not there any more, with its event if it was. -/
structure ConditionCleared (r : Row) (c : Condition) (s u : State) : Prop where
  frame : Frame [.wheels, .evq] s u
  record : Rejudged (s.wheel r) (u.wheel r)
  others : ∀ q, q ≠ r → u.wheel q = s.wheel q
  active : (u.wheel r).active = dropCond (s.wheel r).active c
  counter : (u.wheel r).counters[c.code] = if hasCond (s.wheel r).active c = true then 0 else (s.wheel r).counters[c.code]
  counters : ∀ d : Condition, d ≠ c → (u.wheel r).counters[d.code] = (s.wheel r).counters[d.code]
  raised : RaisedAll
    (if hasCond (s.wheel r).active c = true then
      [conditionEvent r c false (dropCond (s.wheel r).active c) (s.wheel r).pc (s.now / 1000)] else []) s u

theorem clearIfActive_cleared (r : Row) (c : Condition) (s : State) : ConditionCleared r c s (clearIfActive r c s) := by
  unfold clearIfActive
  split
  case isTrue h =>
    have hwheel : (setCondition r c false s).wheel r = { s.wheel r with
        active := withCond (s.wheel r).active c false, counters := (s.wheel r).counters.set c.code 0 } := by
      rw [setCondition_wheel, if_pos rfl]
    refine ⟨(setCondition_frame r c false s).sharpen (f := .osc) (setCondition_false_osc r c s), by rw [hwheel],
      fun q hq => by rw [setCondition_wheel, if_neg hq], by rw [hwheel]; rfl, ?_, fun d hd => ?_, ?_⟩
    · rw [hwheel, if_pos h]
      exact Vector.getElem_set_self c.code.isLt
    · rw [hwheel]
      exact counters_set_other hd _
    · rw [if_pos h]
      exact setCondition_raised r c false s
  case isFalse h =>
    refine ⟨.refl _ s, rfl, fun _ _ => rfl, (dropCond_of_absent (Bool.not_eq_true _ ▸ h)).symm, (if_neg h).symm, fun _ _ => rfl, ?_⟩
    rw [if_neg h]
    rfl

/-! ### The reading (R68, R80) -/

section
variable (s : State) (r : Row) (t : TelegramRecord) (x : Computed)

/-- The active set once a measurement has ended MISSING (R80). -/
def heardActive : ConditionSet :=
  if (s.wheel r).status = .missing then dropCond (s.wheel r).active .missing else (s.wheel r).active

/-- The event of the end of MISSING. -/
def heardEvents : List Event :=
  if (s.wheel r).status = .missing ∧ hasCond (s.wheel r).active .missing = true then
    [conditionEvent r .missing false (heardActive s r) x.pc (s.now / 1000)] else []

/-- The reading written, with MISSING ended. -/
structure ReadingWritten (u : State) : Prop where
  frame : Frame [.wheels, .evq, .episodes] s u
  record : Rejudged (measuredRecord s r t x) (u.wheel r)
  others : ∀ q, q ≠ r → u.wheel q = s.wheel q
  active : (u.wheel r).active = heardActive s r
  counters : ∀ c : Condition, c ≠ .missing → (u.wheel r).counters[c.code] = (s.wheel r).counters[c.code]
  episode : ∀ q, u.episode q = if q = r ∧ (s.wheel r).status = .missing then .reset else s.episode q
  raised : RaisedAll (heardEvents s r x) s u

theorem measuredRecord_rejudged : (measuredRecord s r t x).active = (s.wheel r).active
    ∧ (measuredRecord s r t x).counters = (s.wheel r).counters ∧ (measuredRecord s r t x).announced = (s.wheel r).announced
    ∧ (measuredRecord s r t x).ring = (s.wheel r).ring ∧ (measuredRecord s r t x).leakRate = (s.wheel r).leakRate
    ∧ (measuredRecord s r t x).pc = x.pc := by
  unfold measuredRecord
  dsimp only
  split
  · exact ⟨rfl, rfl, rfl, rfl, rfl, rfl⟩
  · exact ⟨rfl, rfl, rfl, rfl, rfl, rfl⟩

theorem writeMeasurement_written : ReadingWritten s r t x (writeMeasurement r t x s) := by
  obtain ⟨hactive, hcounters, -, -, -, hpc⟩ := measuredRecord_rejudged s r t x
  let put := putWheel r (measuredRecord s r t x) s
  have hput : Frame [.wheels] s put := putWheel_frame r _ s
  have hself : put.wheel r = measuredRecord s r t x := by rw [putWheel_wheel, if_pos rfl]
  have hother : ∀ q, q ≠ r → put.wheel q = s.wheel q := fun q hq => by rw [putWheel_wheel, if_neg hq]
  rw [writeMeasurement_eq]
  split
  case isTrue hmissing =>
    obtain ⟨hframe, hrecord, hothers, hcleared, -, hkept, hraised⟩ := clearIfActive_cleared r .missing put
    have hepisode := putEpisode_frame r .reset (clearIfActive r .missing put)
    rw [hself] at hrecord hcleared hkept hraised
    refine ⟨((hput.mono (by decide)).trans (hframe.mono (by decide))).trans (hepisode.mono (by decide)), ?_, fun q hq => ?_, ?_,
      fun c hc => ?_, fun q => ?_, ?_⟩
    · rw [hepisode.wheel]
      exact hrecord
    · rw [hepisode.wheel, hothers q hq, hother q hq]
    · rw [hepisode.wheel, hcleared, hactive, heardActive, if_pos hmissing]
    · rw [hepisode.wheel, hkept c hc, hcounters]
    · rw [putEpisode_episode]
      have hbefore : (clearIfActive r .missing put).episode q = s.episode q := (hframe.episode q).trans (hput.episode q)
      simp only [hmissing, and_true]
      exact hbefore ▸ rfl
    · rw [RaisedAll, hepisode.evq, heardEvents, heardActive, if_pos hmissing]
      rw [hactive, hpc, hput.now] at hraised
      simpa only [hmissing, true_and, RaisedAll, hput.evq] using hraised
  case isFalse hmissing =>
    refine ⟨hput.mono (by decide), by rw [hself], hother, ?_, fun c _ => ?_, fun q => ?_, ?_⟩
    · rw [hself, hactive, heardActive, if_neg hmissing]
    · rw [hself, hcounters]
    · rw [if_neg fun h => hmissing h.2, hput.episode]
    · rw [heardEvents, if_neg fun h => hmissing h.1]
      exact hput.evq

/-! ### The trend (R69 to R74) -/

/-- The record with the reading and its trend. -/
def readRecord : WheelRecord :=
  if x.fault = true then measuredRecord s r t x
  else if raisedRow s r = true then { measuredRecord s r t x with leakRate := none }
  else trendedRecord (measuredRecord s r t x) { pc := x.pc, time := t.arrival }

/-- A refill is found (R71). -/
def refillSeen : Bool := !x.fault && !raisedRow s r && (ringAdd (s.wheel r).ring { pc := x.pc, time := t.arrival }).refill

/-- The active set that the conditions are judged from. -/
def trendActive : ConditionSet := if refillSeen s r t x = true then dropCond (heardActive s r) .leak else heardActive s r

/-- The events of a refill. -/
def refillEvents : List Event :=
  if refillSeen s r t x = true then
    { kind := .refill, row := some r, value := some (BitVec.ofNat 32 x.pc), time := s.now / 1000 }
      :: (if hasCond (s.wheel r).active .leak = true then [conditionEvent r .leak false (trendActive s r t x) x.pc (s.now / 1000)] else [])
  else []

/-- The reading and the trend written, with what they clear. -/
structure TrendWritten (u : State) : Prop where
  frame : Frame [.wheels, .evq, .episodes] s u
  record : Rejudged (readRecord s r t x) (u.wheel r)
  others : ∀ q, q ≠ r → u.wheel q = s.wheel q
  active : (u.wheel r).active = trendActive s r t x
  counters : ∀ c : Condition, c ≠ .missing → c ≠ .leak → (u.wheel r).counters[c.code] = (s.wheel r).counters[c.code]
  leak : (u.wheel r).counters[Condition.leak.code] = if refillSeen s r t x = true then 0 else (s.wheel r).counters[Condition.leak.code]
  episode : ∀ q, u.episode q = if q = r ∧ (s.wheel r).status = .missing then .reset else s.episode q
  raised : RaisedAll (heardEvents s r x ++ refillEvents s r t x) s u

end

/-- MISSING ended does not touch LEAK. -/
theorem hasCond_heardActive {c : Condition} (h : c ≠ .missing) (s : State) (r : Row) :
    hasCond (heardActive s r) c = hasCond (s.wheel r).active c := by
  unfold heardActive
  split
  · simp [h]
  · rfl

theorem putWheel_self (r : Row) (s : State) : putWheel r (s.wheel r) s = s := by
  have hwheels : s.wheels.set r (s.wheel r) = s.wheels := Vector.set_getElem_self r.isLt
  unfold putWheel
  rw [hwheels]
  rfl

section
variable {s v : State} {r : Row} {t : TelegramRecord} {x : Computed}

/-- A record written over one with the reading, that differs in the trend alone. -/
theorem ReadingWritten.put (h : ReadingWritten s r t x v) {w : WheelRecord} (hrecord : Rejudged (readRecord s r t x) w)
    (hactive : w.active = (v.wheel r).active) (hcounters : w.counters = (v.wheel r).counters) (hno : refillSeen s r t x = false) :
    TrendWritten s r t x (putWheel r w v) := by
  have hput : Frame [.wheels] v (putWheel r w v) := putWheel_frame r w v
  have hself : (putWheel r w v).wheel r = w := by rw [putWheel_wheel, if_pos rfl]
  have hno' : ¬ refillSeen s r t x = true := by simp [hno]
  refine ⟨h.frame.trans (hput.mono (by decide)), by rwa [hself], fun q hq => ?_, ?_, fun c hc _ => ?_, ?_, fun q => ?_, ?_⟩
  · rw [putWheel_wheel, if_neg hq, h.others q hq]
  · rw [hself, hactive, h.active, trendActive, if_neg hno']
  · rw [hself, hcounters, h.counters c hc]
  · rw [hself, hcounters, h.counters _ (by decide), if_neg hno']
  · rw [hput.episode, h.episode]
  · rw [refillEvents, if_neg hno', List.append_nil, RaisedAll, hput.evq]
    exact h.raised

theorem ReadingWritten.refilled (h : ReadingWritten s r t x v) (hyes : refillSeen s r t x = true)
    (hrecord : readRecord s r t x = trendedRecord (measuredRecord s r t x) { pc := x.pc, time := t.arrival }) :
    TrendWritten s r t x (clearIfActive r .leak (setCounter r .leak 0 (raiseEvent .refill (some r) (some x.pc)
      (putWheel r (trendedRecord (v.wheel r) { pc := x.pc, time := t.arrival }) v)))) := by
  let w := trendedRecord (v.wheel r) { pc := x.pc, time := t.arrival }
  let put := putWheel r w v
  let told := raiseEvent .refill (some r) (some x.pc) put
  let zeroed := setCounter r .leak 0 told
  have hput : Frame [.wheels] v put := putWheel_frame r w v
  have htold : Frame [.evq] put told := raiseEvent_frame _ _ _ put
  have hzeroed : Frame [.wheels] told zeroed := setCounter_frame r .leak 0 told
  obtain ⟨hframe, hrejudged, hothers, hcleared, hcounter, hkept, hraised⟩ := clearIfActive_cleared r .leak zeroed
  have hself : zeroed.wheel r = { w with counters := w.counters.set Condition.leak.code 0 } := by
    rw [setCounter_wheel, if_pos rfl, htold.wheel, putWheel_wheel, if_pos rfl]
  have hother : ∀ q, q ≠ r → zeroed.wheel q = s.wheel q := fun q hq => by
    rw [setCounter_wheel, if_neg hq, htold.wheel, putWheel_wheel, if_neg hq, h.others q hq]
  have hactive : w.active = heardActive s r := h.active
  have hpc : w.pc = x.pc := by
    obtain ⟨-, -, -, -, -, hpc⟩ := measuredRecord_rejudged s r t x
    exact h.record.pc.trans hpc
  have hsteps : Frame [.wheels, .evq] v zeroed := ((hput.mono (by decide)).trans (htold.mono (by decide))).trans (hzeroed.mono (by decide))
  rw [hself] at hrejudged hcleared hcounter hkept hraised
  refine ⟨h.frame.trans ((hsteps.trans hframe).mono (by decide)), ?_, fun q hq => (hothers q hq).trans (hother q hq), ?_, fun c hc hl => ?_,
    ?_, fun q => ?_, ?_⟩
  · have hbase : Rejudged (readRecord s r t x) { w with counters := w.counters.set Condition.leak.code 0 } := by
      have hw : w = trendedRecord (v.wheel r) { pc := x.pc, time := t.arrival } := rfl
      rw [hrecord, hw, h.record]
      rfl
    exact hbase.trans hrejudged
  · rw [hcleared, trendActive, if_pos hyes]
    exact congrArg (dropCond · .leak) hactive
  · refine (hkept c hl).trans ((counters_set_other hl w).trans ?_)
    exact h.counters c hc
  · rw [hcounter, if_pos hyes]
    split
    · rfl
    · exact Vector.getElem_set_self Condition.leak.code.isLt
  · rw [hframe.episode, hsteps.episode, h.episode]
  · refine h.raised.trans ?_
    have hrefill : RaisedAll [{ kind := .refill, row := some r, value := some (BitVec.ofNat 32 x.pc), time := s.now / 1000 }] v zeroed := by
      rw [← h.frame.now, ← hput.now]
      exact (hzeroed.evq).trans (congrArg (pushEvent _) hput.evq)
    rw [refillEvents, if_pos hyes, ← List.singleton_append]
    refine hrefill.trans ?_
    have hheld : hasCond w.active .leak = hasCond (s.wheel r).active .leak := by
      rw [hactive, hasCond_heardActive (by decide)]
    dsimp only at hraised
    rw [hheld, hactive, hpc, hsteps.now, h.frame.now] at hraised
    rw [trendActive, if_pos hyes]
    exact hraised

theorem updateTrend_written (h : ReadingWritten s r t x v) : TrendWritten s r t x (updateTrend r t x v) := by
  obtain ⟨-, -, -, hring, -, -⟩ := measuredRecord_rejudged s r t x
  have hringv : (v.wheel r).ring = (s.wheel r).ring := by rw [h.record, ← hring]
  have hraised : raisedRow v r = raisedRow s r := h.frame.raisedRow (r := r)
  rw [updateTrend_eq, hraised, hringv]
  by_cases hfault : x.fault = true
  · rw [if_pos hfault]
    have hput : putWheel r (v.wheel r) v = v := putWheel_self r v
    rw [← hput]
    exact h.put (by rw [readRecord, if_pos hfault]; exact h.record) rfl rfl (by rw [refillSeen, hfault]; rfl)
  rw [if_neg hfault]
  by_cases hraise : raisedRow s r = true
  · rw [if_pos hraise]
    refine h.put ?_ rfl rfl (by rw [refillSeen, hraise]; simp)
    rw [readRecord, if_neg hfault, if_pos hraise, h.record]
  rw [if_neg hraise]
  have hrecord : readRecord s r t x = trendedRecord (measuredRecord s r t x) { pc := x.pc, time := t.arrival } := by
    rw [readRecord, if_neg hfault, if_neg hraise]
  have hseen : refillSeen s r t x = (ringAdd (s.wheel r).ring { pc := x.pc, time := t.arrival }).refill := by
    simp [refillSeen, hfault, hraise]
  by_cases hrefill : (ringAdd (s.wheel r).ring { pc := x.pc, time := t.arrival }).refill = true
  · rw [if_pos hrefill]
    exact h.refilled (hseen.trans hrefill) hrecord
  · rw [if_neg hrefill]
    refine h.put ?_ rfl rfl (hseen.trans (Bool.not_eq_true _ ▸ hrefill))
    rw [hrecord, h.record]
    rfl

end

theorem measurement_written (s : State) (r : Row) (t : TelegramRecord) (x : Computed) :
    TrendWritten s r t x (updateTrend r t x (writeMeasurement r t x s)) := updateTrend_written (writeMeasurement_written s r t x)

end Sys2Proof.Machine
end

section
/-! The conditions judged on a measurement, exactly (R91 to R96): each by its own record and tests, with its events in code order. -/

namespace Sys2Proof.Machine

set_option Elab.async false

/-! ### Sets of conditions, bit by bit -/

theorem withCond_getLsbD (set : ConditionSet) (c : Condition) (on : Bool) (i : Nat) :
    (withCond set c on).getLsbD i = if i = c.code.val then on else set.getLsbD i := by
  have hcode : c.code.val < 16 := by have := c.code.isLt; omega
  have hbit : (condBit c).getLsbD i = decide (i = c.code.val) := by
    rw [condBit, BitVec.getLsbD_twoPow, decide_eq_true hcode, Bool.true_and]
    exact decide_eq_decide.2 eq_comm
  by_cases hw : i < 16
  · cases on
    · rw [withCond, if_neg Bool.false_ne_true, dropCond, BitVec.getLsbD_and, BitVec.getLsbD_not, hbit]
      by_cases hi : i = c.code.val <;> simp [hi, hw]
    · rw [withCond, if_pos rfl, addCond, BitVec.getLsbD_or, hbit]
      by_cases hi : i = c.code.val <;> simp [hi]
  · rw [if_neg (by omega), BitVec.getLsbD_of_ge _ _ (by omega), BitVec.getLsbD_of_ge _ _ (by omega)]

theorem activeUpTo_getLsbD (c : Condition) (before after : ConditionSet) (i : Nat) :
    (activeUpTo c before after).getLsbD i = if i ≤ c.code.val then after.getLsbD i else before.getLsbD i := by
  have hcode : c.code.val < 11 := c.code.isLt
  have hmask : (BitVec.ofNat 16 (2 ^ (c.code.val + 1) - 1)).getLsbD i = (decide (i < 16) && decide (i ≤ c.code.val)) := by
    rw [BitVec.getLsbD_ofNat, Nat.testBit_two_pow_sub_one]
    simp only [Nat.lt_succ_iff]
  unfold activeUpTo
  dsimp only
  rw [BitVec.getLsbD_or, BitVec.getLsbD_and, BitVec.getLsbD_and, BitVec.getLsbD_not, hmask]
  by_cases hw : i < 16
  · by_cases hi : i ≤ c.code.val <;> simp [hw, hi]
  · rw [if_neg (by omega), BitVec.getLsbD_of_ge _ _ (by omega), BitVec.getLsbD_of_ge _ _ (by omega)]
    rfl

theorem code_ne {c d : Condition} (h : d ≠ c) : d.code.val ≠ c.code.val := fun hcode => h (code_injective (Fin.ext hcode))

/-! ### One condition -/

/-- The row whose record counts a condition: the outer one for IMBALANCE (R95). -/
def countedRow (r : Row) (c : Condition) : Row := if c = .imbalance then outerRow r else r

/-- A condition and its counter after it has been judged (R91, R93, R94). -/
def judgedCond (s : State) (r : Row) (low : Bool) (c : Condition) : Bool × Nat :=
  let held := condOf (s.wheel (countedRow r c)) c
  if c = .leak ∧ leakDisabled s r = true then (if held.1 = true then (false, 0) else held)
  else if judged s r c = true then
    moveCounter (s.setting .persistN) (entersAtOnce (s.wheel (countedRow r c)) c) held.1 held.2 (verdict s r low c)
  else held

/-- The events of a condition judged, where `active` is the row's set with it (R96). -/
def judgedEvents (r : Row) (c : Condition) (active : ConditionSet) (s u : State) : List Event :=
  let q := partner r
  let o := outerRow r
  let own := conditionEvent r c (hasCond (u.wheel r).active c) active (s.wheel r).pc (s.now / 1000)
  if c = .imbalance then
    let shared := hasCond (u.wheel o).active c
    let other := conditionEvent q c shared (u.wheel q).active (s.wheel q).pc (s.now / 1000)
    if shared = hasCond (s.wheel o).active c then [] else if o = r then [own, other] else [other, own]
  else if hasCond (u.wheel r).active c = hasCond (s.wheel r).active c then [] else [own]

/-- One condition judged. -/
structure JudgedOne (r : Row) (low : Bool) (c : Condition) (s u : State) : Prop where
  judging : Judging (fun q => q = r ∨ q = partner r) s u
  cond : condOf (u.wheel (countedRow r c)) c = judgedCond s r low c
  bits : ∀ q i, i ≠ c.code.val → (u.wheel q).active.getLsbD i = (s.wheel q).active.getLsbD i
  counters : ∀ q (d : Condition), d ≠ c → (u.wheel q).counters[d.code] = (s.wheel q).counters[d.code]
  partner : c ≠ .imbalance → u.wheel (partner r) = s.wheel (partner r)
  pair : ImbalanceLegal s r → ImbalanceLegal u r
  raised : RaisedAll (judgedEvents r c (u.wheel r).active s u) s u

theorem moveCounter_of_change {persist : Nat} {atOnce active : Bool} {count : Nat} {v : Verdict}
    (h : (moveCounter persist atOnce active count v).1 ≠ active) : moveCounter persist atOnce active count v = (!active, 0) := by
  cases active with
  | true =>
    by_cases hclears : v.clears = true
    · by_cases hlast : persist ≤ count + 1
      · simp [moveCounter, hclears, hlast]
      · simp [moveCounter, hclears, hlast] at h
    · simp [moveCounter, hclears] at h
  | false =>
    by_cases hqualifies : v.qualifies = true
    · by_cases hlast : atOnce = true ∨ persist ≤ count + 1
      · simp only [moveCounter, Bool.false_eq_true, if_false, hqualifies, if_true, if_pos hlast, Bool.not_false]
      · simp only [moveCounter, Bool.false_eq_true, if_false, hqualifies, if_true, if_neg hlast, ne_eq, not_true_eq_false] at h
    · simp [moveCounter, hqualifies] at h

section
variable {r : Row} {low : Bool} {c : Condition} {s : State}

theorem countedRow_self (h : c ≠ .imbalance) : countedRow r c = r := if_neg h

theorem judgedEvents_of_own (h : c ≠ .imbalance) (active : ConditionSet) (u : State) :
    judgedEvents r c active s u =
      if hasCond (u.wheel r).active c = hasCond (s.wheel r).active c then []
      else [conditionEvent r c (hasCond (u.wheel r).active c) active (s.wheel r).pc (s.now / 1000)] := if_neg h

/-- Nothing changes but, at most, a counter. -/
theorem JudgedOne.of_counter {n : Nat} (h : judgedCond s r low c = (hasCond (s.wheel (countedRow r c)).active c, n)) :
    JudgedOne r low c s (setCounter (countedRow r c) c n s) := by
  have hwheel := fun q => setCounter_wheel (countedRow r c) q c n s
  have hactive : ∀ q, ((setCounter (countedRow r c) c n s).wheel q).active = (s.wheel q).active := fun q => by
    rw [hwheel]
    split
    · next hq => rw [hq]
    · rfl
  refine ⟨(setCounter_judging _ c n s).mono fun q hq => ?_, ?_, fun q i _ => by rw [hactive], fun q d hd => ?_, fun hc => ?_, fun h => ?_, ?_⟩
  · unfold countedRow at hq
    split at hq
    · exact hq ▸ outerRow_eq r
    · exact .inl hq
  · rw [h, hwheel, if_pos rfl]
    exact Prod.ext rfl (Vector.getElem_set_self c.code.isLt)
  · rw [hwheel]
    split
    · next hq => exact hq ▸ counters_set_other hd _
    · rfl
  · rw [hwheel, countedRow_self hc, if_neg (partner_ne r)]
  · rw [ImbalanceLegal, hactive, hactive]
    exact h
  · have hno : judgedEvents r c ((setCounter (countedRow r c) c n s).wheel r).active s (setCounter (countedRow r c) c n s) = [] := by
      unfold judgedEvents
      dsimp only
      rw [hactive, hactive]
      simp
    rw [hno]
    exact (setCounter_frame _ c n s).evq

/-- A condition of the row alone changes. -/
theorem JudgedOne.of_change {on : Bool} (hc : c ≠ .imbalance) (hin : on = true → (s.wheel r).status ≠ .vacant)
    (h : judgedCond s r low c = (on, 0)) (hne : on ≠ hasCond (s.wheel r).active c) : JudgedOne r low c s (setCondition r c on s) := by
  have hwheel := fun q => setCondition_wheel r q c on s
  have hself : (setCondition r c on s).wheel r = { s.wheel r with
      active := withCond (s.wheel r).active c on, counters := (s.wheel r).counters.set c.code 0 } := by rw [hwheel, if_pos rfl]
  refine ⟨(setCondition_judging hc hin).mono fun _ => .inl, ?_, fun q i hi => ?_, fun q d hd => ?_, fun _ => ?_,
    fun hp => ?_, ?_⟩
  · rw [h, countedRow_self hc, hself]
    exact Prod.ext (by simp) (Vector.getElem_set_self c.code.isLt)
  · rw [hwheel]
    split
    · next hq => rw [withCond_getLsbD, if_neg hi, hq]
    · rfl
  · rw [hwheel]
    split
    · next hq => exact hq ▸ counters_set_other hd _
    · rfl
  · rw [hwheel, if_neg (partner_ne r)]
  · rw [ImbalanceLegal, hself, hwheel, if_neg (partner_ne r), hasCond_withCond, if_neg hc.symm]
    exact hp
  · have hon : hasCond ((setCondition r c on s).wheel r).active c = on := by rw [hself]; simp
    rw [judgedEvents_of_own hc, hon, if_neg hne, hself]
    exact setCondition_raised r c on s

/-- IMBALANCE changes for the pair. -/
theorem JudgedOne.of_pair {on : Bool} (hin : on = true → (s.wheel r).status ≠ .vacant ∧ (s.wheel (Machine.partner r)).status ≠ .vacant)
    (h : judgedCond s r low .imbalance = (on, 0)) (hne : on ≠ hasCond (s.wheel (outerRow r)).active .imbalance) :
    JudgedOne r low .imbalance s (setImbalance r on s) := by
  have hwheel := fun q => setImbalance_wheel r q on s
  have hrow : ∀ q, q = r ∨ q = Machine.partner r → (setImbalance r on s).wheel q = { s.wheel q with
      active := withCond (s.wheel q).active .imbalance on
      counters := (s.wheel q).counters.set Condition.imbalance.code 0 } := fun q hq => by rw [hwheel, if_pos hq]
  have hon : ∀ q, q = r ∨ q = Machine.partner r → hasCond ((setImbalance r on s).wheel q).active .imbalance = on := fun q hq => by
    rw [hrow q hq]
    simp
  refine ⟨setImbalance_judging hin, ?_, fun q i hi => ?_, fun q d hd => ?_, fun hc => absurd rfl hc,
    fun _ => (hon r (.inl rfl)).trans (hon _ (.inr rfl)).symm, ?_⟩
  · have hcounted : countedRow r .imbalance = outerRow r := if_pos rfl
    rw [h, hcounted]
    refine Prod.ext (hon _ (outerRow_eq r)) ?_
    show ((setImbalance r on s).wheel (outerRow r)).counters[Condition.imbalance.code] = 0
    rw [hrow _ (outerRow_eq r)]
    exact Vector.getElem_set_self Condition.imbalance.code.isLt
  · rw [hwheel]
    split
    · rw [withCond_getLsbD, if_neg hi]
    · rfl
  · rw [hwheel]
    split
    · exact counters_set_other hd _
    · rfl
  · have hfirst := setCondition_raised (outerRow r) .imbalance on s
    have hsecond := setCondition_raised (Machine.partner (outerRow r)) .imbalance on (setCondition (outerRow r) .imbalance on s)
    have hboth : RaisedAll _ s (setImbalance r on s) := hfirst.trans hsecond
    rw [setCondition_wheel, if_neg (partner_ne _), (setCondition_frame _ _ _ _).now] at hboth
    have hactive : ∀ q, q = r ∨ q = Machine.partner r →
        ((setImbalance r on s).wheel q).active = withCond (s.wheel q).active .imbalance on := fun q hq => by rw [hrow q hq]
    generalize setImbalance r on s = u at hboth hon hactive
    unfold judgedEvents
    dsimp only
    rw [if_pos rfl, hon _ (outerRow_eq r), if_neg hne, hon r (.inl rfl), hactive r (.inl rfl), hactive _ (.inr rfl)]
    rcases outerRow_cases r with ⟨ho, hp⟩ | ⟨ho, hp⟩
    · rw [hp, ho] at hboth
      rw [if_pos ho]
      exact hboth
    · rw [hp, ho] at hboth
      rw [if_neg (by rw [ho]; exact partner_ne r)]
      exact hboth

theorem judgeOne_judged (hin : (s.wheel r).status ≠ .vacant) : JudgedOne r low c s (judgeOne r low c s) := by
  have hkeep : judgedCond s r low c = condOf (s.wheel (countedRow r c)) c → JudgedOne r low c s s := fun h => by
    have hcounter := JudgedOne.of_counter (n := (s.wheel (countedRow r c)).counters[c.code]) h
    have hsame : setCounter (countedRow r c) c (s.wheel (countedRow r c)).counters[c.code] s = s := by
      have hset : (s.wheel (countedRow r c)).counters.set c.code (s.wheel (countedRow r c)).counters[c.code]
          = (s.wheel (countedRow r c)).counters := Vector.set_getElem_self c.code.isLt
      unfold setCounter
      dsimp only
      rw [hset]
      exact putWheel_self _ s
    rwa [hsame] at hcounter
  unfold judgeOne
  by_cases hdisabled : c = .leak ∧ leakDisabled s r = true
  · rw [if_pos hdisabled]
    have hne : c ≠ .imbalance := by rw [hdisabled.1]; decide
    have hcond : judgedCond s r low c
        = if hasCond (s.wheel r).active c = true then (false, 0) else condOf (s.wheel r) c := by
      rw [judgedCond, if_pos hdisabled, countedRow_self hne]
    unfold clearIfActive
    by_cases hactive : hasCond (s.wheel r).active .leak = true
    · rw [if_pos hactive, ← hdisabled.1]
      rw [← hdisabled.1] at hactive
      rw [if_pos hactive] at hcond
      exact .of_change hne nofun hcond (by rw [hactive]; decide)
    · rw [if_neg hactive]
      rw [← hdisabled.1] at hactive
      rw [if_neg hactive] at hcond
      exact hkeep (by rw [hcond, countedRow_self hne])
  · rw [if_neg hdisabled]
    by_cases hjudged : judged s r c = true
    · rw [if_neg (by simp [hjudged])]
      dsimp only
      have hcond : judgedCond s r low c = moveCounter (s.setting .persistN) (entersAtOnce (s.wheel (countedRow r c)) c)
          (hasCond (s.wheel (countedRow r c)).active c) (counterOf (s.wheel (countedRow r c)) c) (verdict s r low c) := by
        rw [judgedCond, if_neg hdisabled, if_pos hjudged]
        rfl
      have hrow : (if c = .imbalance then outerRow r else r) = countedRow r c := rfl
      simp only [hrow]
      by_cases hsame : (moveCounter (s.setting .persistN) (entersAtOnce (s.wheel (countedRow r c)) c)
          (hasCond (s.wheel (countedRow r c)).active c) (counterOf (s.wheel (countedRow r c)) c) (verdict s r low c)).1
            = hasCond (s.wheel (countedRow r c)).active c
      · rw [if_pos hsame]
        exact .of_counter (hcond.trans (Prod.ext hsame rfl))
      · rw [if_neg hsame]
        have hmoved := moveCounter_of_change hsame
        rw [hmoved] at hcond ⊢
        by_cases hc : c = .imbalance
        · subst hc
          rw [if_pos rfl]
          obtain ⟨-, hlive⟩ := judged_imbalance hjudged
          exact .of_pair (fun _ => ⟨hin, by rw [hlive]; exact WheelStatus.noConfusion⟩) hcond (by simp [countedRow])
        · rw [if_neg hc]
          exact .of_change hc (fun _ => hin) hcond (by rw [countedRow_self hc]; simp)
    · rw [if_pos (by simp [hjudged])]
      exact hkeep (by rw [judgedCond, if_neg hdisabled, if_neg hjudged])

end

end Sys2Proof.Machine
end

section
/-! All the conditions judged on a measurement, in code order (R91 to R96). -/

namespace Sys2Proof.Machine

set_option Elab.async false

/-! ### What judging one condition reads -/

section
variable {r : Row} {s u : State}

/-- Two states between which conditions alone were judged. -/
theorem judged_congr {P : Row → Prop} (h : Judging P s u) (c : Condition) : judged u r c = judged s r c := by
  have hrow := h.rejudged r
  have hpartner := h.rejudged (partner r)
  have hvalues : holdsValues (u.wheel r) = holdsValues (s.wheel r) := holdsValues_congr hrow
  have htemperature : (u.wheel r).temperature = (s.wheel r).temperature := by rw [hrow]
  have hrate : (u.wheel r).leakRate = (s.wheel r).leakRate := by rw [hrow]
  cases c <;> simp only [judged, inDualPair, hvalues, htemperature, hrate, hrow.status, hpartner.status, hpartner.pc, h.frame.raisedRow,
    h.frame.groupOf, h.frame.axleOf]

theorem verdict_congr {P : Row → Prop} (h : Judging P s u) (low : Bool) (c : Condition) : verdict u r low c = verdict s r low c := by
  have hrow := h.rejudged r
  have hpartner := h.rejudged (partner r)
  have htemperature : (u.wheel r).temperature = (s.wheel r).temperature := by rw [hrow]
  have hrate : (u.wheel r).leakRate = (s.wheel r).leakRate := by rw [hrow]
  have hmode : (u.wheel r).lastMode = (s.wheel r).lastMode := by rw [hrow]
  cases c <;> simp only [verdict, htemperature, hrate, hmode, hrow.pc, hrow.pg, hpartner.pc, h.frame.limitsOf, h.frame.groupOf]

theorem entersAtOnce_congr {w v : WheelRecord} (h : Rejudged w v) (c : Condition) : entersAtOnce v c = entersAtOnce w c := by
  have hmode : v.lastMode = w.lastMode := by rw [h]
  cases c <;> simp only [entersAtOnce, hmode]

theorem judgedCond_congr {P : Row → Prop} {c : Condition} (h : Judging P s u) (low : Bool)
    (hcond : condOf (u.wheel (countedRow r c)) c = condOf (s.wheel (countedRow r c)) c) :
    judgedCond u r low c = judgedCond s r low c := by
  have hdisabled : leakDisabled u r = leakDisabled s r := by
    simp only [leakDisabled, h.frame.groupOf, holdsValues_congr (h.rejudged r)]
  obtain ⟨hactive, hcount⟩ := Prod.mk.inj hcond
  simp only [judgedCond, condOf, hactive, hcount, hdisabled, judged_congr h, verdict_congr h, entersAtOnce_congr (h.rejudged (countedRow r c)),
    h.frame.setting]

end

/-! ### The conditions of a list, in code order -/

/-- The conditions of a list judged, one after the other. -/
structure JudgedList (r : Row) (low : Bool) (l : List Condition) (s u : State) : Prop where
  judging : Judging (fun q => q = r ∨ q = partner r) s u
  cond : ∀ c ∈ l, condOf (u.wheel (countedRow r c)) c = judgedCond s r low c
  bits : ∀ q i, (∀ c ∈ l, i ≠ c.code.val) → (u.wheel q).active.getLsbD i = (s.wheel q).active.getLsbD i
  counters : ∀ q (d : Condition), d ∉ l → (u.wheel q).counters[d.code] = (s.wheel q).counters[d.code]
  apart : Condition.imbalance ∉ l → u.wheel (partner r) = s.wheel (partner r)
  partner : ∀ d : Condition, d ≠ .imbalance → condOf (u.wheel (partner r)) d = condOf (s.wheel (partner r)) d
  pair : ImbalanceLegal s r → ImbalanceLegal u r
  raised : RaisedAll (l.flatMap fun c => judgedEvents r c (activeUpTo c (s.wheel r).active (u.wheel r).active) s u) s u

section
variable {r : Row} {low : Bool} {c : Condition} {l : List Condition} {s v u : State}

theorem JudgedList.hasCond (h : JudgedList r low l s u) (q : Row) {d : Condition} (hd : d ∉ l) :
    hasCond (u.wheel q).active d = Machine.hasCond (s.wheel q).active d :=
  h.bits q d.code.val fun _ hc hcode => hd (code_injective (Fin.ext hcode) ▸ hc)

theorem JudgedOne.hasCond (h : JudgedOne r low c s u) (q : Row) {d : Condition} (hd : d ≠ c) :
    hasCond (u.wheel q).active d = Machine.hasCond (s.wheel q).active d := h.bits q _ (code_ne hd)

theorem JudgedOne.condOf (h : JudgedOne r low c s u) (q : Row) {d : Condition} (hd : d ≠ c) : condOf (u.wheel q) d = condOf (s.wheel q) d :=
  Prod.ext (h.hasCond q hd) (h.counters q d hd)

/-- The events of the first condition, seen when all have been judged. -/
theorem JudgedOne.events_of_rest (h : JudgedOne r low c s v) (k : JudgedList r low l v u) (hlater : ∀ d ∈ l, c.code.val < d.code.val) :
    judgedEvents r c (v.wheel r).active s v = judgedEvents r c (activeUpTo c (s.wheel r).active (u.wheel r).active) s u := by
  have hc : c ∉ l := fun hmem => lt_irrefl _ (hlater c hmem)
  have hactive : (v.wheel r).active = activeUpTo c (s.wheel r).active (u.wheel r).active := by
    refine BitVec.eq_of_getLsbD_eq fun i _ => ?_
    rw [activeUpTo_getLsbD]
    split
    · next hi => exact (k.bits r i fun d hd => by have := hlater d hd; omega).symm
    · next hi => exact h.bits r i (by omega)
  rw [← hactive]
  unfold judgedEvents
  dsimp only
  rw [k.hasCond r hc, k.hasCond (outerRow r) hc]
  by_cases himb : c = .imbalance
  · rw [if_pos himb, if_pos himb, k.apart (himb ▸ hc)]
  · rw [if_neg himb, if_neg himb]

/-- The events of the rest, seen from before the first condition. -/
theorem JudgedOne.events_of_first (h : JudgedOne r low c s v) {d : Condition} (hlater : c.code.val < d.code.val) :
    judgedEvents r d (activeUpTo d (v.wheel r).active (u.wheel r).active) v u
      = judgedEvents r d (activeUpTo d (s.wheel r).active (u.wheel r).active) s u := by
  have hd : d ≠ c := by
    rintro rfl
    exact lt_irrefl _ hlater
  have hactive : activeUpTo d (v.wheel r).active (u.wheel r).active = activeUpTo d (s.wheel r).active (u.wheel r).active := by
    refine BitVec.eq_of_getLsbD_eq fun i _ => ?_
    rw [activeUpTo_getLsbD, activeUpTo_getLsbD]
    split
    · rfl
    · exact h.bits r i (by omega)
  unfold judgedEvents
  dsimp only
  rw [hactive, h.hasCond r hd, h.hasCond (outerRow r) hd, (h.judging.rejudged r).pc, (h.judging.rejudged (Machine.partner r)).pc,
    h.judging.frame.now]

theorem JudgedOne.cons (h : JudgedOne r low c s v) (k : JudgedList r low l v u) (hlater : ∀ d ∈ l, c.code.val < d.code.val) :
    JudgedList r low (c :: l) s u := by
  have hne : ∀ d ∈ l, d ≠ c := fun d hd hdc => lt_irrefl _ (hdc ▸ hlater d hd)
  have hc : c ∉ l := fun hmem => hne c hmem rfl
  refine ⟨h.judging.trans k.judging, fun d hd => ?_, fun q i hi => ?_, fun q d hd => ?_, fun himb => ?_, fun d hd => ?_,
    fun hp => k.pair (h.pair hp), ?_⟩
  · rcases List.mem_cons.1 hd with rfl | hd
    · exact (Prod.ext (k.hasCond _ hc) (k.counters _ d hc)).trans h.cond
    · exact (k.cond d hd).trans (judgedCond_congr h.judging low (h.condOf _ (hne d hd)))
  · exact (k.bits q i fun d hd => hi d (List.mem_cons_of_mem _ hd)).trans (h.bits q i (hi c List.mem_cons_self))
  · obtain ⟨hdc, hdl⟩ := not_or.1 (mt List.mem_cons.2 hd)
    exact (k.counters q d hdl).trans (h.counters q d hdc)
  · obtain ⟨hfirst, hrest⟩ := not_or.1 (mt List.mem_cons.2 himb)
    exact (k.apart hrest).trans (h.partner fun hci => hfirst hci.symm)
  · refine (k.partner d hd).trans ?_
    by_cases hci : c = .imbalance
    · exact h.condOf _ (hci ▸ hd)
    · rw [h.partner hci]
  · rw [List.flatMap_cons, ← h.events_of_rest k hlater]
    refine h.raised.trans ?_
    have hevents : (l.flatMap fun d => judgedEvents r d (activeUpTo d (v.wheel r).active (u.wheel r).active) v u)
        = l.flatMap fun d => judgedEvents r d (activeUpTo d (s.wheel r).active (u.wheel r).active) s u :=
      List.flatMap_congr fun d hd => h.events_of_first (hlater d hd)
    exact hevents ▸ k.raised

theorem judgeList_judged (hsorted : l.Pairwise fun c d => c.code.val < d.code.val) (hin : (s.wheel r).status ≠ .vacant) :
    JudgedList r low l s (l.foldl (fun s c => judgeOne r low c s) s) := by
  induction l generalizing s with
  | nil =>
    refine ⟨.refl s, nofun, fun _ _ _ => rfl, fun _ _ _ => rfl, fun _ => rfl, fun _ _ => rfl, id, rfl⟩
  | cons c l ih =>
    obtain ⟨hfirst, hrest⟩ := List.pairwise_cons.1 hsorted
    have hone : JudgedOne r low c s (judgeOne r low c s) := judgeOne_judged hin
    exact hone.cons (ih hrest (by rwa [(hone.judging.rejudged r).status])) hfirst

end

theorem judgeAll_judged {r : Row} (low : Bool) {s : State} (hin : (s.wheel r).status ≠ .vacant) :
    JudgedList r low Condition.all s (judgeAll r low s) := judgeList_judged (by decide) hin

end Sys2Proof.Machine
end

section
/-! A measurement whole (R68 to R96, R103, R104): written, judged, announced. -/

namespace Sys2Proof.Machine

set_option Elab.async false

/-! ### The announcement of a row and its partner -/

/-- The announced set of a row changes, at a level whose ALERT is sent (R104). -/
abbrev AlertDueFor (s u : State) (q : Row) : Prop :=
  (u.wheel q).announced ≠ (s.wheel q).announced
    ∧ alertDue s.osc.state (s.wheel q).announcedLevel (u.wheel q).announcedLevel = true

/-- Both rows announced after a measurement. -/
structure PairAnnounced (r : Row) (s u : State) : Prop where
  frame : Frame wheelFields s u
  evq : u.evq = s.evq
  reannounced : ∀ q, Reannounced (s.wheel q) (u.wheel q)
  others : ∀ q, q ≠ r → q ≠ partner r → u.wheel q = s.wheel q
  announced : ∀ q, q = r ∨ q = partner r → AnnouncedOnce s u q
  quiet : ¬ AlertDueFor s u r → ¬ AlertDueFor s u (partner r) → u.link.alerts = s.link.alerts

theorem reannouncePair_announced (r : Row) (s : State) : PairAnnounced r s (reannounce (partner r) (reannounce r s)) := by
  have hnodup : [r, partner r].Nodup := by simp [(partner_ne r).symm]
  have h : RowsAnnounced [r, partner r] s (reannounce (partner r) (reannounce r s)) := reannounceRows_announced [r, partner r] s hnodup
  have hne : r ≠ partner r := (partner_ne r).symm
  have hrow : (reannounce (partner r) (reannounce r s)).wheel r = (reannounce r s).wheel r := reannounce_other hne _
  have hpartner : (reannounce r s).wheel (partner r) = s.wheel (partner r) := reannounce_other (partner_ne r) s
  refine ⟨h.frame, (reannounce_frame _ _).evq.trans (reannounce_frame r s).evq, h.reannounced, fun q hq hp => (h.outside q ?_).1,
    fun q hq => h.announced q ?_, fun hr hp => ?_⟩
  · simp [hq, hp]
  · simpa using hq
  · unfold AlertDueFor at hr hp
    rw [hrow] at hr
    rw [reannounce_alerts, reannounce_osc, hpartner, if_neg hp, reannounce_alerts, if_neg hr]

theorem noticeChange_announced {r : Row} {s u : State} (old new : Pu) (h : PairAnnounced r s u) : PairAnnounced r s (noticeChange old new u) := by
  have hf : Frame [.osc] u (noticeChange old new u) := noticeChange_frame old new u
  obtain ⟨hframe, hevq, hre, hothers, hann, hquiet⟩ := h
  generalize noticeChange old new u = v at *
  refine ⟨hframe.trans (hf.mono (by decide)), hf.evq.trans hevq, fun q => ?_, fun q hq hp => ?_, fun q hq => ?_, fun hr hp => ?_⟩
  · rw [hf.wheel]
    exact hre q
  · rw [hf.wheel]
    exact hothers q hq hp
  · unfold AnnouncedOnce AnnouncedLegal
    rw [hf.wheel, hf.tables, hf.link]
    exact hann q hq
  · unfold AlertDueFor at hr hp
    rw [hf.wheel] at hr hp
    rw [hf.link]
    exact hquiet hr hp

/-! ### The measurement -/

/-- What a telegram measures (R60 to R67). -/
abbrev computed (s : State) (r : Row) (t : TelegramRecord) : Computed := compute s.vdm.ambient (groupOf s r).temp.tref t

/-- The stages of a measurement: `w` with the reading and its trend, `v` with the conditions judged, `m` with both rows announced. -/
structure MeasuredBy (s : State) (r : Row) (t : TelegramRecord) (w v m : State) : Prop where
  written : TrendWritten s r t (computed s r t) w
  judged : JudgedList r t.batteryLow Condition.all w v
  announced : PairAnnounced r v m

theorem readRecord_live (s : State) (r : Row) (t : TelegramRecord) (x : Computed) : (readRecord s r t x).status = .live := by
  unfold readRecord measuredRecord
  dsimp only
  split
  · split <;> rfl
  · split
    · split <;> rfl
    · unfold trendedRecord
      split <;> rfl

theorem measure_measured (r : Row) (t : TelegramRecord) (s : State) : ∃ w v, MeasuredBy s r t w v (measure r t s) := by
  have hwritten := measurement_written s r t (computed s r t)
  have hin : ((updateTrend r t (computed s r t) (writeMeasurement r t (computed s r t) s)).wheel r).status ≠ .vacant := by
    rw [hwritten.record.status, readRecord_live]
    exact WheelStatus.noConfusion
  exact ⟨_, _, hwritten, judgeAll_judged t.batteryLow hin, noticeChange_announced _ _ (reannouncePair_announced r _)⟩

namespace MeasuredBy

variable {s w v m : State} {r : Row} {t : TelegramRecord}

theorem reading (h : MeasuredBy s r t w v m) : SameReading (readRecord s r t (computed s r t)) (m.wheel r) :=
  (h.written.record.reading.trans (h.judged.judging.rejudged r).reading).trans (h.announced.reannounced r).reading

theorem partner_reading (h : MeasuredBy s r t w v m) : SameReading (s.wheel (partner r)) (m.wheel (partner r)) := by
  rw [← h.written.others _ (partner_ne r)]
  exact (h.judged.judging.rejudged _).reading.trans (h.announced.reannounced _).reading

theorem others (h : MeasuredBy s r t w v m) {q : Row} (hq : q ≠ r) (hp : q ≠ partner r) : m.wheel q = s.wheel q := by
  rw [h.announced.others q hq hp, h.judged.judging.outside q (not_or.2 ⟨hq, hp⟩), h.written.others q hq]

theorem frame (h : MeasuredBy s r t w v m) : Frame (.episodes :: wheelFields) s m :=
  ((h.written.frame.mono (by decide)).trans (h.judged.judging.frame.mono (by decide))).trans (h.announced.frame.mono (by decide))

theorem episode (h : MeasuredBy s r t w v m) (q : Row) : m.episode q = if q = r ∧ (s.wheel r).status = .missing then .reset else s.episode q := by
  rw [h.announced.frame.episode, h.judged.judging.frame.episode]
  exact h.written.episode q

/-- The condition of a row as it is judged. -/
theorem condOf (h : MeasuredBy s r t w v m) (q : Row) (c : Condition) : condOf (m.wheel q) c = Machine.condOf (v.wheel q) c := by
  have hre := h.announced.reannounced q
  exact Prod.ext (congrArg (fun set => hasCond set c) hre.active) (congrArg (fun counters => counters[c.code]) hre.counters)

end MeasuredBy

end Sys2Proof.Machine
end

section
/-! The record of an enrolled sensor, field by field (R47, R60 to R74, R80, R82): the settlement of O17. -/

namespace Sys2Proof.Machine

set_option Elab.async false

/-! ### What a telegram measures (R60 to R67) -/

section
variable (ambient : Pu) (tref : Int) (t : TelegramRecord)

theorem compute_temperature : (compute ambient tref t).temperature = measTemp t.temperature := by
  unfold compute
  dsimp only
  split <;> rfl

theorem compute_tempUnavailable : (compute ambient tref t).tempUnavailable = decide (t.temperature.toNat = 255) := by
  have hnone : (measTemp t.temperature).isNone = decide (t.temperature.toNat = 255) := by
    unfold measTemp
    split
    · next h => simp [h]
    · next h => simp [h]
  unfold compute
  dsimp only
  split <;> exact hnone

theorem measKind_fault_iff : measKind t = .fault ↔ FaultKind t := by
  unfold measKind
  split
  · next h => exact ⟨fun _ => h, fun _ => rfl⟩
  · next h =>
    refine ⟨fun hk => ?_, fun hf => absurd hf h⟩
    split at hk <;> cases hk

theorem compute_of_fault (h : FaultKind t) : (compute ambient tref t).pc = 4094 ∧ (compute ambient tref t).pg = 4094
    ∧ (compute ambient tref t).belowAmbient = false ∧ (compute ambient tref t).overrange = decide (t.pressure.toNat = 4094)
    ∧ (compute ambient tref t).fault = true := by
  unfold compute
  dsimp only
  rw [(measKind_fault_iff t).2 h]
  exact ⟨rfl, rfl, rfl, rfl, rfl⟩

theorem compute_of_reading (h : ¬ FaultKind t) :
    (compute ambient tref t).pc = clampGauge ((pcold t.pressure.toNat (kref tref) (kmeas tref t.temperature) : Int) - ambient)
    ∧ (compute ambient tref t).pg = clampGauge ((t.pressure.toNat : Int) - ambient)
    ∧ (compute ambient tref t).belowAmbient
      = decide ((pcold t.pressure.toNat (kref tref) (kmeas tref t.temperature) : Int) - ambient < 0 ∨ (t.pressure.toNat : Int) - ambient < 0)
    ∧ (compute ambient tref t).overrange
      = decide (4000 < (pcold t.pressure.toNat (kref tref) (kmeas tref t.temperature) : Int) - ambient
        ∨ 4000 < (t.pressure.toNat : Int) - ambient)
    ∧ (compute ambient tref t).fault = false := by
  have hkind : measKind t ≠ .fault := mt (measKind_fault_iff t).1 h
  unfold compute
  dsimp only
  split
  · next hf => exact absurd hf hkind
  · exact ⟨rfl, rfl, (Bool.decide_or _ _).symm, (Bool.decide_or _ _).symm, rfl⟩

end

/-! ### The trend ring (R69 to R74) -/

section
variable {ring : List Sample} {x : Sample}

theorem ringAdd_refill (ring : List Sample) (x : Sample) : (ringAdd ring x).refill = refillFound ring x := by
  have hblocks : ringBlocks ring x.time = !(ring.getLast?.all fun y => decide (y.time < x.time)) := by
    unfold ringBlocks
    cases ring.getLast? with
    | none => rfl
    | some y => simp only [Option.any_some, Option.all_some, ← decide_not, not_lt]
  unfold ringAdd refillFound ringKeeps
  dsimp only
  rw [hblocks]
  cases ring.getLast?.all fun y => decide (y.time < x.time) with
  | false => rfl
  | true =>
    simp only [Bool.not_true, Bool.false_eq_true, if_false, Bool.true_and]
    split
    · next h => exact h.symm
    · next h => exact (Bool.not_eq_true _ ▸ h).symm

theorem ringAdd_of_late {y : Sample} (hlast : ring.getLast? = some y) (h : x.time ≤ y.time) : (ringAdd ring x).ring = ring := by
  have hblocks : ringBlocks ring x.time = true := by simp [ringBlocks, hlast, h]
  rw [ringAdd, if_pos hblocks]

theorem ringAdd_of_refill (h : refillFound ring x = true) : (ringAdd ring x).ring = [x] := by
  rw [← ringAdd_refill] at h
  unfold ringAdd at h ⊢
  split at h
  · cases h
  · next hblocks =>
    rw [if_neg hblocks]
    dsimp only at h ⊢
    split at h
    · next hfound => rw [if_pos hfound]
    · cases h

theorem ringAdd_of_new (h : refillFound ring x = false) (hnew : ∀ y, ring.getLast? = some y → y.time < x.time) :
    (ringAdd ring x).ring = (ring.filter fun y => decide (x.time ≤ y.time + 3600000)).drop
      ((ring.filter fun y => decide (x.time ≤ y.time + 3600000)).length - 7) ++ [x] := by
  have hblocks : ¬ ringBlocks ring x.time = true := by
    unfold ringBlocks
    cases hlast : ring.getLast? with
    | none => simp
    | some y => simpa using hnew y hlast
  rw [← ringAdd_refill] at h
  unfold ringAdd ringKeeps at h ⊢
  rw [if_neg hblocks] at h ⊢
  dsimp only at h ⊢
  split at h
  · cases h
  · next hfound =>
    rw [if_neg hfound]
    dsimp only
    congr 1
    split
    · next hshort => rw [Nat.sub_eq_zero_of_le (by omega), List.drop_zero]
    · rfl

theorem ringRate_of_ends {oldest newest : Sample} (hold : ring.head? = some oldest) (hnew : ring.getLast? = some newest) :
    ringRate ring = if 4 ≤ ring.length ∧ 120000 ≤ newest.time - oldest.time then
      some ((oldest.pc - newest.pc) * 600 / ((newest.time - oldest.time) / 1000)) else none := by
  rw [ringRate, hold, hnew]

end

/-! ### The record read -/

section
variable (s : State) (r : Row) (t : TelegramRecord) (x : Computed)

theorem readRecord_fields : (readRecord s r t x).raw = t.pressure.toNat ∧ (readRecord s r t x).pc = x.pc ∧ (readRecord s r t x).pg = x.pg
    ∧ (readRecord s r t x).temperature = x.temperature ∧ (readRecord s r t x).flags = x.flags (s.wheel r).flags
    ∧ (readRecord s r t x).lastMode = some t.mode ∧ (readRecord s r t x).lastSequence = some t.sequence
    ∧ (readRecord s r t x).lastAccepted = some t.arrival ∧ (readRecord s r t x).base = some t.arrival
    ∧ (readRecord s r t x).rssi = (s.wheel r).rssi := by
  unfold readRecord trendedRecord measuredRecord
  dsimp only
  split
  · split <;> exact ⟨rfl, rfl, rfl, rfl, rfl, rfl, rfl, rfl, rfl, rfl⟩
  · split
    · split <;> exact ⟨rfl, rfl, rfl, rfl, rfl, rfl, rfl, rfl, rfl, rfl⟩
    · split <;> exact ⟨rfl, rfl, rfl, rfl, rfl, rfl, rfl, rfl, rfl, rfl⟩

theorem readRecord_deadlines (h : s.osc.state = .active) : (readRecord s r t x).staleAt = some (t.arrival + staleMs s r)
    ∧ (readRecord s r t x).missingAt = some (t.arrival + missingMs s r) := by
  unfold readRecord trendedRecord measuredRecord
  dsimp only
  rw [if_pos h]
  split
  · exact ⟨rfl, rfl⟩
  · split <;> exact ⟨rfl, rfl⟩

theorem readRecord_trend : (readRecord s r t x).ring =
      (if x.fault = true ∨ raisedRow s r = true then (s.wheel r).ring
      else (ringAdd (s.wheel r).ring { pc := x.pc, time := t.arrival }).ring)
    ∧ (readRecord s r t x).leakRate =
      if x.fault = true then (s.wheel r).leakRate
      else if raisedRow s r = true then none
      else ringRate (ringAdd (s.wheel r).ring { pc := x.pc, time := t.arrival }).ring := by
  obtain ⟨-, -, -, hring, hrate, -⟩ := measuredRecord_rejudged s r t x
  unfold readRecord
  by_cases hf : x.fault = true
  · simp only [hf, if_true, true_or]
    exact ⟨hring, hrate⟩
  · by_cases hr : raisedRow s r = true
    · simp only [hf, hr, if_true, Bool.false_eq_true, if_false, or_true]
      exact ⟨hring, trivial⟩
    · simp only [hf, hr, Bool.false_eq_true, if_false, or_self, trendedRecord, hring]
      exact ⟨trivial, trivial⟩

end

/-! ### A record handed to TAU and measured -/

theorem noteRssi_frame (r : Row) (t : TelegramRecord) (s : State) : Frame [.wheels] s (noteRssi r t s) := putWheel_frame r _ s

theorem noteRssi_wheel (r q : Row) (t : TelegramRecord) (s : State) : (noteRssi r t s).wheel q =
    if q = r then { s.wheel r with rssi := (s.wheel r).rssi.set t.lane t.rssi } else s.wheel q := putWheel_wheel r q _ s

/-- The state that a measurement of row `r` is taken on: the record is handed on, its RSSI noted. -/
abbrev heardAt (before after : List TelegramRecord) (t : TelegramRecord) (r : Row) (s : State) : State :=
  noteRssi r t (s.setHanded (before ++ after))

theorem heardAt_frame (before after : List TelegramRecord) (t : TelegramRecord) (r : Row) (s : State) :
    Frame [.handed, .wheels] s (heardAt before after t r s) :=
  ((setHanded_frame _ s).mono (by decide)).trans ((noteRssi_frame r t _).mono (by decide))

theorem exec_telegramRecord_of_measured {s : State} {before after : List TelegramRecord} {t : TelegramRecord} {r : Row}
    (h : Measures s before t after r) :
    exec (.telegramRecord t.lane) s = .next (settleProposal (measure r t (heardAt before after t r s))) := by
  obtain ⟨hl, hh, htool, hr, hnew, hpass⟩ := h
  have henc : (measure r t (heardAt before after t r s)).enc = s.enc :=
    (measure_frame r t _).enc.trans (heardAt_frame before after t r s).enc
  have hskip : ¬ (sessionOpen (measure r t (heardAt before after t r s)) = true ∧ t.mode = .triggered) := fun hboth => by
    obtain ⟨hopen, hmode⟩ := hboth
    rw [sessionOpen, henc] at hopen
    rcases hpass with hclosed | hother
    · rw [sessionOpen, hopen] at hclosed
      cases hclosed
    · exact hother hmode
  rw [exec_telegramRecord_of_handed hl.1 hh, acceptRecord_of_enrolled (s := s.setHanded (before ++ after)) hl htool hr]
  have hcopy : enrolledCopy (s.setHanded (before ++ after)) r t = false := hnew
  unfold takeEnrolled
  dsimp only
  rw [hcopy, if_neg Bool.false_ne_true, if_neg hskip]

theorem settleProposal_alike (s : State) : SearchAlike s (settleProposal s) := by
  unfold settleProposal
  split
  · split
    · exact .refl s
    · exact (withdraw_alike s).trans (search_alike _)
  · exact .refl s

section
variable {s m : State} {before after : List TelegramRecord} {t : TelegramRecord} {r : Row}

/-- MISSING as the measurement leaves it: ended where the row was MISSING, held elsewhere (R80). -/
theorem MeasuredBy.missing {w v : State} (h : MeasuredBy s r t w v m) :
    hasCond (m.wheel r).active .missing = (hasCond (s.wheel r).active .missing && decide ((s.wheel r).status ≠ .missing)) := by
  have hcond : Machine.condOf (v.wheel r) .missing = Machine.condOf (w.wheel r) .missing := h.judged.cond .missing (by decide)
  obtain ⟨hbit, -⟩ := Prod.mk.inj ((h.condOf r .missing).trans hcond)
  rw [hbit, h.written.active, trendActive]
  have hdrop : hasCond (dropCond (heardActive s r) .leak) .missing = hasCond (heardActive s r) .missing := by simp
  have hheard : hasCond (heardActive s r) .missing = (hasCond (s.wheel r).active .missing && decide ((s.wheel r).status ≠ .missing)) := by
    unfold heardActive
    split
    · next hm => simp [hm]
    · next hm => simp [hm]
  split
  · exact hdrop.trans hheard
  · exact hheard

end

/-- The telegram handed to TAU is measured; what follows of the proposal leaves the record. -/
theorem telegramRecord_measured {s : State} {before after : List TelegramRecord} {t : TelegramRecord} {r : Row}
    (h : Measures s before t after r) : ∃ w v m, exec (.telegramRecord t.lane) s = .next (settleProposal m)
      ∧ MeasuredBy (heardAt before after t r s) r t w v m ∧ WheelWork (heardAt before after t r s) m := by
  obtain ⟨w, v, hm⟩ := measure_measured r t (heardAt before after t r s)
  exact ⟨w, v, _, exec_telegramRecord_of_measured h, hm, measure_work r t _⟩

/-- The record of the row after its measurement, in terms of the state before the step. -/
structure RecordRead (s : State) (r : Row) (t : TelegramRecord) (w : WheelRecord) : Prop where
  status : w.status = .live
  raw : w.raw = t.pressure.toNat
  pc : w.pc = (computed s r t).pc
  pg : w.pg = (computed s r t).pg
  temperature : w.temperature = measTemp t.temperature
  flags : w.flags = (computed s r t).flags (s.wheel r).flags
  mode : w.lastMode = some t.mode
  sequence : w.lastSequence = some t.sequence
  accepted : w.lastAccepted = some t.arrival
  base : w.base = some t.arrival
  rssi : w.rssi = (s.wheel r).rssi.set t.lane t.rssi
  deadlines : s.osc.state = .active → w.staleAt = some (t.arrival + staleMs s r) ∧ w.missingAt = some (t.arrival + missingMs s r)
  ring : w.ring = if FaultKind t ∨ raisedRow s r = true then (s.wheel r).ring
    else (ringAdd (s.wheel r).ring { pc := (computed s r t).pc, time := t.arrival }).ring
  leakRate : w.leakRate = if FaultKind t then (s.wheel r).leakRate
    else if raisedRow s r = true then none
    else ringRate (ringAdd (s.wheel r).ring { pc := (computed s r t).pc, time := t.arrival }).ring

section
variable {s : State} {before after : List TelegramRecord} {t : TelegramRecord} {r : Row}

theorem computed_fault_iff (s : State) (r : Row) (t : TelegramRecord) : (computed s r t).fault = true ↔ FaultKind t := by
  by_cases h : FaultKind t
  · obtain ⟨-, -, -, -, hfault⟩ := compute_of_fault s.vdm.ambient (groupOf s r).temp.tref t h
    exact iff_of_true hfault h
  · obtain ⟨-, -, -, -, hfault⟩ := compute_of_reading s.vdm.ambient (groupOf s r).temp.tref t h
    exact iff_of_false (by rw [hfault]; exact Bool.false_ne_true) h

theorem heardAt_wheel_self (before after : List TelegramRecord) (t : TelegramRecord) (r : Row) (s : State) :
    (heardAt before after t r s).wheel r = { s.wheel r with rssi := (s.wheel r).rssi.set t.lane t.rssi } := by
  rw [noteRssi_wheel, if_pos rfl]
  rfl

theorem heardAt_wheel_other {q : Row} (h : q ≠ r) : (heardAt before after t r s).wheel q = s.wheel q := by
  rw [noteRssi_wheel, if_neg h]
  rfl

/-- A record that shows the reading taken after the RSSI was noted. -/
theorem recordRead_of_reading {y : WheelRecord}
    (hreading : SameReading (readRecord (heardAt before after t r s) r t (computed (heardAt before after t r s) r t)) y) :
    RecordRead s r t y := by
  have hn := heardAt_frame before after t r s
  have hself := heardAt_wheel_self before after t r s
  have hosc : (heardAt before after t r s).osc = s.osc := hn.osc
  have hcomputed : computed (heardAt before after t r s) r t = computed s r t := by simp only [computed, hn.vdm, hn.groupOf]
  have hraised : raisedRow (heardAt before after t r s) r = raisedRow s r := hn.raisedRow (r := r)
  have hstale : staleMs (heardAt before after t r s) r = staleMs s r := hn.staleMs (r := r)
  have hmissing : missingMs (heardAt before after t r s) r = missingMs s r := hn.missingMs (r := r)
  generalize heardAt before after t r s = n at *
  have hfault := computed_fault_iff s r t
  obtain ⟨hraw, hpc, hpg, htemp, hflags, hmode, hseq, hacc, hbase, hrssi⟩ := readRecord_fields n r t (computed n r t)
  obtain ⟨hring, hrate⟩ := readRecord_trend n r t (computed n r t)
  have hdeadlines := readRecord_deadlines n r t (computed n r t)
  have hlive := readRecord_live n r t (computed n r t)
  rw [hcomputed] at hreading hraw hpc hpg htemp hflags hring hrate hdeadlines hmode hseq hacc hbase hrssi hlive
  rw [hself, hraised] at hring hrate
  rw [hself] at hrssi hflags
  rw [hosc, hstale, hmissing] at hdeadlines
  simp only [hfault] at hring hrate
  generalize readRecord n r t (computed s r t) = x at *
  rw [compute_temperature] at htemp
  rw [hreading]
  exact ⟨hlive, hraw, hpc, hpg, htemp, hflags, hmode, hseq, hacc, hbase, hrssi, hdeadlines, hring, hrate⟩

theorem MeasuredBy.recordRead {w v m : State} (h : MeasuredBy (heardAt before after t r s) r t w v m) : RecordRead s r t (m.wheel r) :=
  recordRead_of_reading h.reading

end

end Sys2Proof.Machine
end

section
/-! The measurement of an enrolled sensor, whole: the settlement of O17. -/

namespace Sys2Proof.Machine

set_option Elab.async false

section
variable {s : State} {t : TelegramRecord} {r : Row} {w : WheelRecord}

/-- A measurement that is a fault (R67). -/
theorem RecordRead.of_fault (h : RecordRead s r t w) (hf : FaultKind t) :
    w.pc = 4094 ∧ w.pg = 4094
      ∧ w.flags = { belowAmbient := false, overrange := decide (t.pressure.toNat = 4094)
                    tempUnavailable := decide (t.temperature.toNat = 255), sensorFaultSeen := true }
      ∧ w.ring = (s.wheel r).ring ∧ w.leakRate = (s.wheel r).leakRate := by
  obtain ⟨hpc, hpg, hbelow, hover, hfault⟩ := compute_of_fault s.vdm.ambient (groupOf s r).temp.tref t hf
  have hring := h.ring
  have hrate := h.leakRate
  rw [if_pos (.inl hf)] at hring
  rw [if_pos hf] at hrate
  refine ⟨h.pc.trans hpc, h.pg.trans hpg, h.flags.trans ?_, hring, hrate⟩
  unfold Computed.flags
  rw [hbelow, hover, hfault, compute_tempUnavailable, Bool.or_true]

/-- A measurement that reads (R60 to R66). -/
theorem RecordRead.of_reading (h : RecordRead s r t w) (hf : ¬ FaultKind t) :
    let cold : Int := (pcold t.pressure.toNat (kref (groupOf s r).temp.tref)
      (kmeas (groupOf s r).temp.tref t.temperature) : Int) - s.vdm.ambient
    let hot : Int := (t.pressure.toNat : Int) - s.vdm.ambient
    w.pc = clampGauge cold ∧ w.pg = clampGauge hot
      ∧ w.flags = { belowAmbient := decide (cold < 0 ∨ hot < 0), overrange := decide (4000 < cold ∨ 4000 < hot)
                    tempUnavailable := decide (t.temperature.toNat = 255), sensorFaultSeen := (s.wheel r).flags.sensorFaultSeen } := by
  obtain ⟨hpc, hpg, hbelow, hover, hfault⟩ := compute_of_reading s.vdm.ambient (groupOf s r).temp.tref t hf
  refine ⟨h.pc.trans hpc, h.pg.trans hpg, h.flags.trans ?_⟩
  unfold Computed.flags
  rw [hbelow, hover, hfault, compute_tempUnavailable, Bool.or_false]

/-- A measurement of a raised axle leaves the trend and has no leak rate. -/
theorem RecordRead.of_raised (h : RecordRead s r t w) (hf : ¬ FaultKind t) (hr : raisedRow s r = true) :
    w.ring = (s.wheel r).ring ∧ w.leakRate = none := by
  have hring := h.ring
  have hrate := h.leakRate
  rw [if_pos (.inr hr)] at hring
  rw [if_neg hf, if_pos hr] at hrate
  exact ⟨hring, hrate⟩

theorem RecordRead.of_trend (h : RecordRead s r t w) (hf : ¬ FaultKind t) (hr : raisedRow s r = false) :
    w.ring = (ringAdd (s.wheel r).ring { pc := w.pc, time := t.arrival }).ring ∧ w.leakRate = ringRate w.ring := by
  have hr' : ¬ raisedRow s r = true := by simp [hr]
  have hring := h.ring
  have hrate := h.leakRate
  rw [if_neg (not_or.2 ⟨hf, hr'⟩)] at hring
  rw [if_neg hf, if_neg hr'] at hrate
  rw [h.pc]
  exact ⟨hring, hrate.trans (congrArg ringRate hring.symm)⟩

end

section
variable {s w v m : State} {before after : List TelegramRecord} {t : TelegramRecord} {r : Row}

/-- A refill that the measurement finds is told (R71). -/
theorem MeasuredBy.refill_raised (h : MeasuredBy s r t w v m) (hf : ¬ FaultKind t) (hr : raisedRow s r = false)
    (hrefill : refillFound (s.wheel r).ring { pc := (computed s r t).pc, time := t.arrival } = true) :
    Raised { kind := .refill, row := some r, value := some (BitVec.ofNat 32 (computed s r t).pc), time := s.now / 1000 } s m := by
  have hfault : (computed s r t).fault = false := Bool.not_eq_true _ ▸ mt (computed_fault_iff s r t).1 hf
  have hseen : refillSeen s r t (computed s r t) = true := by
    rw [refillSeen, hfault, hr, ringAdd_refill, hrefill]
    rfl
  have hwritten : Raised { kind := .refill, row := some r, value := some (BitVec.ofNat 32 (computed s r t).pc), time := s.now / 1000 } s w := by
    refine h.written.raised.raised (List.mem_append_right _ ?_)
    rw [refillEvents, if_pos hseen]
    exact List.mem_cons_self
  exact raised_later (raised_later hwritten h.judged.judging.frame) h.announced.frame

end

/-- Settles O17, field by field from the record read. -/
theorem measurementIsWritten : Obligations.MeasurementIsWritten := by
  intro s before after t r hmeasures
  obtain ⟨w, v, m, hexec, hm, hwork⟩ := telegramRecord_measured hmeasures
  have hrec := hm.recordRead
  have hn := heardAt_frame before after t r s
  have hsteps := hm.frame
  have halike := settleProposal_alike m
  obtain ⟨p, henc⟩ := settleProposal_enc m
  have hf : Frame [.handed, .episodes, .wheels, .evq, .osc, .link, .enc] s (settleProposal m) :=
    ((hn.mono (by decide)).trans (hsteps.mono (by decide))).trans (halike.frame.mono (by decide))
  have hwheel : ∀ q, (settleProposal m).wheel q = m.wheel q := halike.frame.wheel
  have hself := heardAt_wheel_self before after t r s
  have hpartner : (heardAt before after t r s).wheel (partner r) = s.wheel (partner r) := heardAt_wheel_other (partner_ne r)
  have hstatus : ((heardAt before after t r s).wheel r).status = (s.wheel r).status := by rw [hself]
  have hring : ((heardAt before after t r s).wheel r).ring = (s.wheel r).ring := by rw [hself]
  have hlink : m.link = { s.link with alerts := m.link.alerts } := hwork.link_eq
  refine ⟨_, hexec, ?handed, ?_, ?_, ?_, ?_, ?_, ?_, ?_, ?_, fun hfault => ?fault, fun hfault => ?reading, fun hfault hraised => ?raisedAxle,
    fun hfault hraised => ?trend, fun hactive => ?deadlines, fun hmissing => ?missing, fun q hq hp => ?others, ?_, ?_, hf.tables, hf.lanes,
    hf.candidates, hf.trailer, hf.vdm, hf.store, hf.mgu, ?state, ?session, ?requests, ?responses⟩
  case handed => exact halike.frame.handed.trans hsteps.handed
  case fault => rw [hwheel]; exact hrec.of_fault hfault
  case reading => rw [hwheel]; exact hrec.of_reading hfault
  case raisedAxle => rw [hwheel]; exact hrec.of_raised hfault hraised
  case trend =>
    obtain ⟨htrend, hrate⟩ := hrec.of_trend hfault hraised
    rw [hwheel]
    refine ⟨fun y hlast hlate => ?_, fun hrefill => ⟨?_, ?_⟩, fun hno hnew => ?_, fun oldest newest hold hlast => ?_⟩
    · rw [htrend]
      exact ringAdd_of_late hlast hlate
    · rw [htrend]
      exact ringAdd_of_refill hrefill
    · have hcomputed : computed (heardAt before after t r s) r t = computed s r t := by simp only [computed, hn.vdm, hn.groupOf]
      have hraised' : raisedRow (heardAt before after t r s) r = false := (hn.raisedRow (r := r)).trans hraised
      rw [hrec.pc] at hrefill ⊢
      have htold := hm.refill_raised hfault hraised' (by rw [hring, hcomputed]; exact hrefill)
      rw [hcomputed, hn.now] at htold
      exact raised_later (raised_earlier hn htold) halike.frame
    · rw [htrend]
      exact ringAdd_of_new hno hnew
    · rw [hrate]
      exact ringRate_of_ends hold hlast
  case deadlines => rw [hwheel]; exact hrec.deadlines hactive
  case missing =>
    have hbit := hm.missing
    obtain ⟨hmoving, hrejected⟩ := halike.episodes r
    have hepisode : m.episode r = .reset := (hm.episode r).trans (if_pos ⟨rfl, hstatus.trans hmissing⟩)
    rw [hwheel, hmoving, hrejected, hepisode, hbit, hstatus, hmissing]
    exact ⟨by simp, rfl, rfl⟩
  case others => rw [hwheel, hm.others hq hp, heardAt_wheel_other hq]
  case state => rw [halike.frame.osc, hwork.osc_state]; rfl
  case session => rw [henc, hsteps.enc]; rfl
  case requests => rw [halike.frame.link, hlink]
  case responses => rw [halike.frame.link, hlink]
  · rw [hwheel]; exact hrec.status
  · rw [hwheel]; exact hrec.raw
  · rw [hwheel]; exact hrec.temperature
  · rw [hwheel]; exact hrec.mode
  · rw [hwheel]; exact hrec.sequence
  · rw [hwheel]; exact hrec.accepted
  · rw [hwheel]; exact hrec.base
  · rw [hwheel]; exact hrec.rssi
  · rw [hwheel, hm.partner_reading.status, hpartner]
  · rw [hwheel, hm.partner_reading.pc, hpartner]

end Sys2Proof.Machine
end

section
/-! The last step of a session done (R111, R112, R120 to R122): the settlement of O24. -/

namespace Sys2Proof.Machine

set_option Elab.async false

/-! ### Before and after the completion -/

/-- The state `c` in which the last step of a session is done, with `pairs` as the pending list, as it stands to the state before. -/
structure LastStep (i : Nat) (pairs : List EnrolPair) (s c : State) : Prop where
  frame : Frame (.handed :: .enc :: .episodes :: wheelFields) s c
  state : c.osc.state = s.osc.state
  park : c.osc.parkPending = s.osc.parkPending
  session : c.enc.session = some i
  walk : c.enc.walk = s.enc.walk
  pairs : c.enc.pairs = pairs

/-- What may follow of a proposal once the session is closed. -/
structure ProposalFollows (v u : State) : Prop where
  frame : Frame searchFields v u
  enc : ∃ p, u.enc = { v.enc with proposal := p }

theorem ProposalFollows.refl (v : State) : ProposalFollows v v := ⟨.refl _ v, v.enc.proposal, rfl⟩

theorem settleProposal_follows (s : State) : ProposalFollows s (settleProposal s) := ⟨settleProposal_frame s, settleProposal_enc s⟩

section
variable {i : Nat} {pairs : List EnrolPair} {s c v u : State} {how : Ending}

theorem LastStep.completed (before : LastStep i pairs s c) (after : ProposalFollows v u) (h : Completed i pairs c v) :
    Completed i pairs s u := by
  obtain ⟨hpaired, hsources, hothers, htables, hrestarted, hcandidates, hidle, hbusy, hraised, hsession, hpairs, hcopies, hdeadline,
    hwalk, hending, happlied, hvacant, hparked, hstayed⟩ := h
  obtain ⟨hlater, p, henc⟩ := after
  obtain ⟨hfirst, hstate, hpark, -, hwalkBefore, -⟩ := before
  have hids : ∀ r, rowId u r = rowId v r := hlater.rowId
  have hbefore : ∀ r, rowId c r = rowId s r := hfirst.rowId
  simp only [hbefore, hfirst.store, hfirst.tables, hfirst.candidates, hfirst.lines, hfirst.now, hpark, hstate, hwalkBefore]
    at hothers htables hrestarted hcandidates hidle hbusy hraised hwalk happlied hparked hstayed
  refine ⟨fun q hq => (hids _).trans (hpaired q hq), fun r hr hs => (hids r).trans (hsources r hr hs),
    fun r hr hs => (hids r).trans (hothers r hr hs), ?_, fun r hne => ?_, hlater.candidates.trans hcandidates, fun h => ?_, fun h => ?_,
    ?_, ?_, ?_, ?_, ?_, ?_, ?_, ?_, ?_, fun h => ?_, fun h => ?_⟩
  · rw [hlater.tables]
    exact htables
  · rw [hids] at hne
    exact restarted_congr (hlater.wheel r) (hids r) (hrestarted r hne)
  · have hbegun := hidle h
    unfold SaveBegun at hbegun ⊢
    rw [hlater.store, hlater.lines, hlater.tables]
    exact hbegun
  · rw [hlater.store]
    simp only [hids]
    exact hbusy h
  · simp only [hids]
    exact raised_later (raised_earlier hfirst hraised) hlater
  · rw [henc]; exact hsession
  · rw [henc]; exact hpairs
  · rw [henc]; exact hcopies
  · rw [henc]; exact hdeadline
  · rw [henc]; exact hwalk
  · rw [henc]; exact hending
  · rw [henc]
    simp only [hids]
    exact happlied
  · rw [henc]; exact hvacant
  · rw [hlater.osc]; exact hparked h
  · rw [hlater.osc]; exact hstayed h

theorem LastStep.closed (before : LastStep i pairs s c) (after : ProposalFollows v u) (h : Closed how i c v) : Closed how i s u := by
  obtain ⟨hsession, hpairs, hcopies, hdeadline, hending, happlied, hvacant, hwalk, htables, hcandidates, htrailer, hstore, hvdm,
    hraised, hparked, hstayed⟩ := h
  obtain ⟨hlater, p, henc⟩ := after
  obtain ⟨hfirst, hstate, hpark, -, hwalkBefore, -⟩ := before
  rw [hfirst.lines, hpark] at hparked hstayed
  rw [hstate] at hstayed
  rw [hwalkBefore, hfirst.now] at hraised
  refine ⟨?_, ?_, ?_, ?_, ?_, ?_, ?_, ?_, (hlater.tables.trans htables).trans hfirst.tables,
    (hlater.candidates.trans hcandidates).trans hfirst.candidates, (hlater.trailer.trans htrailer).trans hfirst.trailer,
    (hlater.store.trans hstore).trans hfirst.store, (hlater.vdm.trans hvdm).trans hfirst.vdm,
    raised_later (raised_earlier hfirst hraised) hlater, fun h => ?_, fun h => ?_⟩
  · rw [henc]; exact hsession
  · rw [henc]; exact hpairs
  · rw [henc]; exact hcopies
  · rw [henc]; exact hdeadline
  · rw [henc]; exact hending
  · rw [henc]; exact happlied
  · rw [henc]; exact hvacant
  · rw [henc]; exact hwalk.trans hwalkBefore
  · rw [hlater.osc]; exact hparked h
  · rw [hlater.osc]; exact hstayed h

theorem LastStep.guardAllows (h : LastStep i pairs s c) (e : EditClass) : guardAllows c e = guardAllows s e := by
  have hf := h.frame
  cases e <;> simp only [Machine.guardAllows, hf.mgu, hf.tables, hf.lines]

theorem LastStep.advance (h : LastStep i pairs s c) (hlast : i + 1 = s.enc.walk.length) :
    advance i c = if Machine.guardAllows s .wheel = true then applyCompletion i c else endSession .refused c := by
  rw [Machine.advance, if_neg (by rw [h.walk]; omega), completeSession, h.guardAllows]

/-- The last step done, whatever the guard says. -/
theorem LastStep.done (h : LastStep i pairs s c) (hlast : i + 1 = s.enc.walk.length) (hawake : s.osc.state ≠ .dormant)
    (hrows : (pairRows pairs).Nodup) (hplaced : ∀ p ∈ pairs, placeOf s p.row ≠ none) (after : ProposalFollows (Machine.advance i c) u) :
    (Machine.guardAllows s .wheel = true → Completed i pairs s u)
      ∧ (Machine.guardAllows s .wheel = false → Closed .refused i s u
        ∧ (¬ (s.osc.parkPending = true ∧ s.lines.ignition = false) → u.wheels = c.wheels)) := by
  have hawake' : c.osc.state ≠ .dormant := by rwa [h.state]
  rw [h.advance hlast] at after
  refine ⟨fun hallowed => ?_, fun hrefused => ?_⟩
  · rw [if_pos hallowed] at after
    refine h.completed after ?_
    have hcompleted : Completed i c.enc.pairs c (applyCompletion i c) := applyCompletion_completed (by rwa [h.pairs])
      (fun p hp => by rw [placeOf_congr h.frame.trailer]; exact hplaced p (h.pairs ▸ hp)) hawake'
    rwa [h.pairs] at hcompleted
  · rw [if_neg (by simp [hrefused])] at after
    obtain ⟨hclosed, hwheels⟩ := endSession_ended .refused h.session hawake'
    refine ⟨h.closed after hclosed, fun hstay => after.frame.wheels.trans (hwheels ?_)⟩
    rwa [h.park, h.frame.lines]

end

/-! ### The pending list at the last step -/

section
variable {s : State} {i : Nat} {r : Row}

theorem walked_placed (hopen : s.enc.session = some i) (hwalk : WalkLegal s) {q : Row} (hq : q ∈ s.enc.walk) : placeOf s q ≠ none := by
  have hsession : sessionOpen s = true := by rw [sessionOpen, hopen]; rfl
  obtain ⟨pl, hpl, -⟩ := rowUsable_iff_place.1 (hwalk hsession q hq)
  rw [hpl]
  exact Option.some_ne_none pl

/-- The pairs of a session name different rows, which stand. -/
theorem pairs_ready (hopen : s.enc.session = some i) (hlegal : SessionLegal s) (hwalk : WalkLegal s) :
    (pairRows s.enc.pairs).Nodup ∧ ∀ p ∈ s.enc.pairs, placeOf s p.row ≠ none := by
  obtain ⟨-, -, -, hopened⟩ := hlegal
  obtain ⟨-, -, -, -, -, -, hrows, -, htaken⟩ := hopened i hopen
  exact ⟨hrows, fun p hp => walked_placed hopen hwalk (List.take_subset i _ (htaken p hp))⟩

/-- So do they with the pair of the step. -/
theorem pairs_ready_append {p : EnrolPair} (hopen : s.enc.session = some i) (hr : s.enc.walk[i]? = some p.row) (hlegal : SessionLegal s)
    (hwalk : WalkLegal s) (hfresh : p.id ∉ s.enc.pairs.map EnrolPair.id) :
    (pairRows (s.enc.pairs ++ [p])).Nodup ∧ ∀ q ∈ s.enc.pairs ++ [p], placeOf s q.row ≠ none := by
  obtain ⟨-, -, -, hopened⟩ := hlegal
  have hany : s.enc.pairs.any (fun q => decide (q.id = p.id)) = false := List.any_eq_false.2 fun q hq hid =>
    hfresh (List.mem_map.2 ⟨q, hq, of_decide_eq_true hid⟩)
  obtain ⟨hrows, -, htaken⟩ := pairs_append hr hany (hopened i hopen)
  exact ⟨hrows, fun q hq => walked_placed hopen hwalk (List.take_subset _ _ (htaken q hq))⟩

theorem active_of_open (hopen : s.enc.session = some i) (hlegal : SessionLegal s) : s.osc.state = .active := by
  obtain ⟨-, -, -, hopened⟩ := hlegal
  obtain ⟨-, hactive, -⟩ := hopened i hopen
  exact hactive

end

/-! ### The three ways to complete -/

section
variable {s : State} {before after : List TelegramRecord} {t : TelegramRecord} {i : Nat} {r : Row}

/-- The state in which a step's event is raised on another one. -/
theorem LastStep.told {pairs : List EnrolPair} {c : State} (h : LastStep i pairs s c) (kind : EventKind) (row : Option Row)
    (value : Option Nat) : LastStep i pairs s (raiseEvent kind row value c) := by
  have hf := raiseEvent_frame kind row value c
  obtain ⟨hframe, hstate, hpark, hsession, hwalk, hpairs⟩ := h
  exact ⟨hframe.trans (hf.mono (by decide)), by rwa [hf.osc], by rwa [hf.osc], by rwa [hf.enc], by rwa [hf.enc], by rwa [hf.enc]⟩

theorem LastStep.paired {pairs : List EnrolPair} {c : State} (h : LastStep i pairs s c) (p : EnrolPair) :
    LastStep i (pairs ++ [p]) s (c.setEnc { c.enc with pairs := c.enc.pairs ++ [p] }) := by
  obtain ⟨hframe, hstate, hpark, hsession, hwalk, hpairs⟩ := h
  exact ⟨hframe.trans ((setEnc_frame _ c).mono (by decide)), hstate, hpark, hsession, hwalk, congrArg (· ++ [p]) hpairs⟩

theorem heardInSession_lastStep (hopen : s.enc.session = some i) : LastStep i s.enc.pairs s (heardInSession before after t s) := by
  refine ⟨((setHanded_frame _ s).mono (by decide)).trans ((setEnc_frame _ _).mono (by decide)), rfl, rfl, hopen, rfl, rfl⟩

/-- An answer taken at the last step: its pair joins the list, and the session completes. -/
theorem acceptAnswer_lastStep {pairs : List EnrolPair} {c : State} (h : LastStep i pairs s c) (id : SensorId) (source : Option Row) :
    ∃ d, acceptAnswer i r id source c = advance i d ∧ LastStep i (pairs ++ [{ row := r, id := id, source := source }]) s d
      ∧ d.wheels = c.wheels ∧ d.handed = c.handed := by
  have hpaired := h.paired { row := r, id := id, source := source }
  exact ⟨_, rfl, hpaired.told _ _ _, rfl, rfl⟩

end

end Sys2Proof.Machine
end

section
/-! A session completed by SKIP or by an answer: the settlement of O24. -/

namespace Sys2Proof.Machine

set_option Elab.async false

/-- What is heard of a sensor, which the end of a session does not touch. -/
abbrev SameHeard (w v : WheelRecord) : Prop := v.status = w.status ∧ v.lastAccepted = w.lastAccepted ∧ v.raw = w.raw

theorem sessionClosed_heard {s : State} (hawake : s.osc.state ≠ .dormant) (r : Row) : SameHeard (s.wheel r) ((sessionClosed s).wheel r) := by
  by_cases hpark : s.osc.parkPending = true ∧ s.lines.ignition = false
  · obtain ⟨-, -, -, hwheels, -⟩ := enterState_entered .parkWatch (s.setOsc { s.osc with parkPending := false })
    rw [sessionClosed_of_parking hpark, hwheels r]
    exact ⟨if_neg fun h => hawake h.1, rfl, rfl⟩
  · rw [sessionClosed_of_staying hpark]
    exact ⟨rfl, rfl, rfl⟩

theorem endSession_heard {s : State} {i : Nat} (how : Ending) (hopen : s.enc.session = some i) (hawake : s.osc.state ≠ .dormant) (r : Row) :
    SameHeard (s.wheel r) ((endSession how s).wheel r) := by
  rw [endSession_eq hopen, (search_frame _).wheel]
  exact sessionClosed_heard (s := withClosedEnc how i s) hawake r

section
variable {s : State} {before after : List TelegramRecord} {t : TelegramRecord} {i : Nat} {r q : Row}

/-- SKIP at the last step. -/
theorem skip_completes (hl : Listening s) (hh : Handed s before t after) (htool : inToolBlock t.id = true) (hcode : t.pressure.toNat = 1)
    (hopen : s.enc.session = some i) (hnew : sessionCopy s t = false) :
    ∃ c, exec (.skip t.lane) s = .next (advance i c) ∧ LastStep i s.enc.pairs s c ∧ c.wheels = s.wheels ∧ c.handed = before ++ after := by
  let b := heardInSession before after t s
  have hexec : exec (.skip t.lane) s = .next (takeHanded t.lane (toolAction 1) s) := whileRunning_running hl.1 _
  have htaken := takeHanded_of_tool hl hh htool hopen hnew
  have hb : b.enc.session = some i := hopen
  rw [takeTool_of_open (s := heardInSession before after t s) _ hb, hcode, if_pos rfl] at htaken
  exact ⟨raiseEvent .enrolStep (stepRow b i) none b, by rw [hexec, htaken], (heardInSession_lastStep hopen).told _ _ _, rfl, rfl⟩

/-- An unknown sensor answers the last step. -/
theorem unknown_completes (hl : Listening s) (hh : Handed s before t after) (hmode : t.mode = .triggered) (hopen : s.enc.session = some i)
    (hr : s.enc.walk[i]? = some r) (hu : UnknownId s t.id) (hnew : sessionCopy s t = false) (hfresh : t.id ∉ s.enc.pairs.map EnrolPair.id) :
    ∃ c, exec (.telegramRecord t.lane) s = .next (advance i c)
      ∧ LastStep i (s.enc.pairs ++ [{ row := r, id := t.id, source := none }]) s c ∧ c.wheels = s.wheels ∧ c.handed = before ++ after := by
  obtain ⟨hunknown, -⟩ := takeAnswer_of_fresh (s := heardInSession before after t s) hopen hr hfresh
  obtain ⟨c, hc, hstep, hwheels, hhanded⟩ := acceptAnswer_lastStep (r := r) (heardInSession_lastStep (before := before) (after := after) (t := t) hopen)
    t.id none
  exact ⟨c, by rw [exec_telegramRecord_of_answer hl hh hmode hopen hu hnew, hunknown, hc], hstep, hwheels, hhanded⟩

/-- An enrolled sensor answers the last step, once it has been measured. -/
theorem enrolled_completes (hl : Listening s) (hh : Handed s before t after) (hmode : t.mode = .triggered) (hopen : s.enc.session = some i)
    (hr : s.enc.walk[i]? = some r) (htool : inToolBlock t.id = false) (hq : rowHolding s t.id = some q) (hnew : enrolledCopy s q t = false)
    (hfresh : t.id ∉ s.enc.pairs.map EnrolPair.id) (htaken : q = r ∨ s.enc.allowMove = true) :
    ∃ w v m c, exec (.telegramRecord t.lane) s = .next (settleProposal (advance i c))
      ∧ LastStep i (s.enc.pairs ++ [{ row := r, id := t.id, source := if q = r then none else some q }]) s c
      ∧ c.wheels = m.wheels ∧ c.handed = before ++ after ∧ MeasuredBy (heardAt before after t q s) q t w v m := by
  obtain ⟨w, v, hm⟩ := measure_measured q t (heardAt before after t q s)
  have hwork := measure_work q t (heardAt before after t q s)
  have hexec : exec (.telegramRecord t.lane) s
      = .next (settleProposal (takeAnswer (.enrolled q) t.id (measure q t (heardAt before after t q s)))) := by
    have hcopy : enrolledCopy (s.setHanded (before ++ after)) q t = false := hnew
    have hsession : sessionOpen (measure q t (heardAt before after t q s)) = true := by
      rw [sessionOpen, hm.frame.enc, (heardAt_frame before after t q s).enc, hopen]
      rfl
    rw [exec_telegramRecord_of_handed hl.1 hh, acceptRecord_of_enrolled (s := s.setHanded (before ++ after)) hl htool hq]
    unfold takeEnrolled
    dsimp only
    rw [hcopy, if_neg Bool.false_ne_true, if_pos ⟨hsession, hmode⟩]
  have hbefore : LastStep i s.enc.pairs s (measure q t (heardAt before after t q s)) := by
    have henc := hm.frame.enc.trans (heardAt_frame before after t q s).enc
    obtain ⟨a, hosc, -⟩ := hwork.osc
    refine ⟨((heardAt_frame before after t q s).mono (by decide)).trans (hm.frame.mono (by decide)), by rw [hosc]; rfl, by rw [hosc]; rfl,
      by rw [henc, hopen], by rw [henc], by rw [henc]⟩
  generalize measure q t (heardAt before after t q s) = m at *
  have hanswer : takeAnswer (.enrolled q) t.id m = acceptAnswer i r t.id (if q = r then none else some q) m := by
    have henc : m.enc = s.enc := hm.frame.enc.trans (heardAt_frame before after t q s).enc
    rw [← henc] at hopen hr hfresh htaken
    obtain ⟨-, -, hself, hmoved⟩ := takeAnswer_of_fresh hopen hr hfresh
    by_cases hqr : q = r
    · rw [if_pos hqr, hqr]
      exact hself
    · rw [if_neg hqr, hmoved q hqr, if_pos (htaken.resolve_left hqr)]
  obtain ⟨c, hc, hstep, hwheels, hhanded⟩ := acceptAnswer_lastStep (r := r) hbefore t.id (if q = r then none else some q)
  exact ⟨w, v, m, c, by rw [hexec, hanswer, hc], hstep, hwheels, hhanded.trans hm.frame.handed, hm⟩

end

/-- Settles O24, by what completes the session. -/
theorem completionAppliesThePairs : Obligations.CompletionAppliesThePairs := by
  intro s before after t i r hl hh hopen hr hlast hlegal hwalk _
  have hactive := active_of_open hopen hlegal
  have hawake : s.osc.state ≠ .dormant := by rw [hactive]; decide
  refine ⟨fun htool hcode hnew => ?skip, fun hmode hu hnew hfresh => ?unknown, fun q hmode htool hq hnew hfresh htaken => ?enrolled⟩
  case skip =>
    obtain ⟨c, hexec, hstep, hwheels, hkeeps⟩ := skip_completes hl hh htool hcode hopen hnew
    obtain ⟨hrows, hplaced⟩ := pairs_ready hopen hlegal hwalk
    obtain ⟨hcompleted, hrefused⟩ := hstep.done hlast hawake hrows hplaced (.refl _)
    have hhanded : (advance i c).handed = before ++ after := (advance_frame i c).handed.trans hkeeps
    refine ⟨fun hallowed => ⟨_, hexec, hhanded, hcompleted hallowed, fun hstay x hown hpartner => ?_⟩, fun hno => ⟨_, hexec, hhanded, ?_⟩⟩
    · rw [hstep.advance hlast, if_pos hallowed] at hown hpartner ⊢
      have hids : ∀ y, rowId c y = rowId s y := hstep.frame.rowId
      rw [applyCompletion_kept (by rwa [hstep.park, hstep.frame.lines]) (by rwa [hids]) (by rwa [hids])]
      rw [State.wheel, hwheels]
      rfl
    · obtain ⟨hclosed, hkept⟩ := hrefused hno
      exact ⟨hclosed, fun hstay => (hkept hstay).trans hwheels⟩
  case unknown =>
    obtain ⟨c, hexec, hstep, hwheels, hkeeps⟩ := unknown_completes hl hh hmode hopen hr hu hnew hfresh
    obtain ⟨hrows, hplaced⟩ := pairs_ready_append (p := { row := r, id := t.id, source := none }) hopen hr hlegal hwalk hfresh
    obtain ⟨hcompleted, hrefused⟩ := hstep.done hlast hawake hrows hplaced (.refl _)
    have hhanded : (advance i c).handed = before ++ after := (advance_frame i c).handed.trans hkeeps
    refine ⟨fun hallowed => ⟨_, hexec, hhanded, hcompleted hallowed⟩, fun hno => ⟨_, hexec, hhanded, ?_⟩⟩
    obtain ⟨hclosed, hkept⟩ := hrefused hno
    exact ⟨hclosed, fun hstay => (hkept hstay).trans hwheels⟩
  case enrolled =>
    obtain ⟨w, v, m, c, hexec, hstep, hwheels, hkeeps, hm⟩ := enrolled_completes hl hh hmode hopen hr htool hq hnew hfresh htaken
    obtain ⟨hrows, hplaced⟩ := pairs_ready_append (p := { row := r, id := t.id, source := if q = r then none else some q })
      hopen hr hlegal hwalk hfresh
    obtain ⟨hcompleted, hrefused⟩ := hstep.done hlast hawake hrows hplaced (settleProposal_follows _)
    have hhanded : (settleProposal (advance i c)).handed = before ++ after :=
      ((settleProposal_frame _).handed.trans (advance_frame i c).handed).trans hkeeps
    refine ⟨fun hallowed => ⟨_, hexec, hhanded, hcompleted hallowed⟩, fun hno => ⟨_, hexec, hhanded, ?_⟩⟩
    obtain ⟨hclosed, hkept⟩ := hrefused hno
    have hrec := hm.recordRead
    have hcwheel : ∀ x, c.wheel x = m.wheel x := fun x => by rw [State.wheel, hwheels]; rfl
    have hheard : SameHeard (m.wheel q) ((settleProposal (advance i c)).wheel q) := by
      rw [(settleProposal_frame _).wheel, hstep.advance hlast, if_neg (by simp [hno]), ← hcwheel]
      exact endSession_heard .refused hstep.session (by rwa [hstep.state]) q
    obtain ⟨hstatus, haccepted, hraw⟩ := hheard
    refine ⟨hclosed, hstatus.trans hrec.status, haccepted.trans hrec.accepted, hraw.trans hrec.raw, fun hstay x hx hp => ?_⟩
    rw [State.wheel, hkept hstay, hwheels]
    exact (hm.others hx hp).trans (heardAt_wheel_other hx)

end Sys2Proof.Machine
end

section
/-! Persistence of a condition (R93, R94), and the tests of a measurement as the rules write them (R91, R92). -/

namespace Sys2Proof.Machine

set_option Elab.async false

/-! ### Persistence -/

theorem moveCounter_enters {persist : Nat} {v : Verdict} (hpersist : 1 ≤ persist) (h : v.qualifies = true) (j : Nat) (hj : j ≤ persist) :
    (fun p : Bool × Nat => moveCounter persist false p.1 p.2 v)^[j] (false, 0) = if j < persist then (false, j) else (true, 0) := by
  induction j with
  | zero => rw [if_pos (by omega)]; rfl
  | succ j ih =>
    rw [Function.iterate_succ_apply', ih (by omega), if_pos (by omega)]
    simp only [moveCounter, h, Bool.false_eq_true, if_false, if_true, false_or]
    by_cases hlast : persist ≤ j + 1
    · rw [if_pos hlast, if_neg (by omega)]
    · rw [if_neg hlast, if_pos (by omega)]

theorem moveCounter_leaves {persist : Nat} {v : Verdict} (hpersist : 1 ≤ persist) (h : v.clears = true) (atOnce : Bool) (j : Nat)
    (hj : j ≤ persist) :
    (fun p : Bool × Nat => moveCounter persist atOnce p.1 p.2 v)^[j] (true, 0) = if j < persist then (true, j) else (false, 0) := by
  induction j with
  | zero => rw [if_pos (by omega)]; rfl
  | succ j ih =>
    rw [Function.iterate_succ_apply', ih (by omega), if_pos (by omega)]
    simp only [moveCounter, h, if_true]
    by_cases hlast : persist ≤ j + 1
    · rw [if_pos hlast, if_neg (by omega)]
    · rw [if_neg hlast, if_pos (by omega)]

theorem moveCounter_rules (persist : Nat) (v : Verdict) :
    (∀ count, v.qualifies = true → moveCounter persist true false count v = (true, 0))
      ∧ (∀ atOnce count, v.qualifies = false → moveCounter persist atOnce false count v = (false, 0))
      ∧ (∀ atOnce count, v.clears = false → moveCounter persist atOnce true count v = (true, 0)) := by
  refine ⟨fun count h => ?_, fun atOnce count h => ?_, fun atOnce count h => ?_⟩
  · simp only [moveCounter, h, Bool.false_eq_true, if_false, if_true, true_or]
  · simp only [moveCounter, h, Bool.false_eq_true, if_false]
  · simp only [moveCounter, h, Bool.false_eq_true, if_false, if_true]

/-! ### The tests of a measurement -/

theorem clampGauge_le (p : Int) : clampGauge p ≤ 4000 := by
  unfold clampGauge
  split
  · exact Nat.zero_le 4000
  · split
    · exact le_refl 4000
    · next h => exact Int.toNat_le.2 (not_lt.1 h)

/-- The clearing test of HIGH, over the integers and over the naturals. -/
theorem highClears_iff (pg limit hyst : Nat) : (pg : Int) ≤ (limit : Int) - hyst ↔ pg + hyst ≤ limit := by omega

theorem imbalanceClears_iff (a b imbalance hyst : Nat) :
    a - b + (b - a) ≤ imbalance - hyst ↔ max a b - min a b = 0 ∨ max a b - min a b + hyst ≤ imbalance := by omega

theorem imbalanceQualifies_iff (a b imbalance : Nat) : imbalance < a - b + (b - a) ↔ imbalance < max a b - min a b := by omega

/-- The state after the reading and its trend, as the conditions read it. -/
structure ReadyToJudge (s : State) (r : Row) (t : TelegramRecord) (rate : Option Nat) (w : State) : Prop where
  frame : Frame [.handed, .wheels, .evq, .episodes] s w
  status : (w.wheel r).status = .live
  pc : (w.wheel r).pc = (computed s r t).pc
  pg : (w.wheel r).pg = (computed s r t).pg
  temperature : (w.wheel r).temperature = measTemp t.temperature
  mode : (w.wheel r).lastMode = some t.mode
  rate : (w.wheel r).leakRate = rate
  partner : w.wheel (partner r) = s.wheel (partner r)

namespace ReadyToJudge

variable {s w : State} {r : Row} {t : TelegramRecord} {rate : Option Nat} {c : Condition}

theorem fault_iff (h : ReadyToJudge s r t rate w) : (w.wheel r).pc = 4094 ↔ FaultKind t := by
  rw [h.pc]
  by_cases hf : FaultKind t
  · obtain ⟨hpc, -⟩ := compute_of_fault s.vdm.ambient (groupOf s r).temp.tref t hf
    exact iff_of_true hpc hf
  · obtain ⟨hpc, -⟩ := compute_of_reading s.vdm.ambient (groupOf s r).temp.tref t hf
    refine iff_of_false ?_ hf
    rw [hpc]
    exact fun heq => absurd (heq ▸ clampGauge_le _) (by decide)

theorem holdsValues (h : ReadyToJudge s r t rate w) : holdsValues (w.wheel r) = decide (¬ FaultKind t) := by
  unfold Machine.holdsValues
  rw [h.pc, h.pg]
  by_cases hf : FaultKind t
  · obtain ⟨hpc, -⟩ := compute_of_fault s.vdm.ambient (groupOf s r).temp.tref t hf
    rw [hpc, decide_eq_false (not_not.2 hf)]
    rfl
  · obtain ⟨hpc, hpg, -⟩ := compute_of_reading s.vdm.ambient (groupOf s r).temp.tref t hf
    rw [hpc, hpg, decide_eq_true hf, decide_eq_true (clampGauge_le _), decide_eq_true (clampGauge_le _)]
    rfl

theorem temperature_isSome (h : ReadyToJudge s r t rate w) : (w.wheel r).temperature.isSome = decide (t.temperature.toNat ≠ 255) := by
  rw [h.temperature, measTemp]
  split
  · next hcode => simp [hcode]
  · next hcode => simp [hcode]

/-- The conditions of R91, as the model and the rules list them. -/
theorem judged_eq (h : ReadyToJudge s r t rate w) (c : Condition) : judged w r c = isJudged s r t rate c := by
  have hraised : raisedRow w r = raisedRow s r := h.frame.raisedRow (r := r)
  have hgroup : groupOf w r = groupOf s r := h.frame.groupOf (r := r)
  have haxle : axleOf w (rowAxle r) = axleOf s (rowAxle r) := h.frame.axleOf (a := rowAxle r)
  cases c <;> simp only [judged, isJudged, h.holdsValues, h.temperature_isSome, h.rate, h.status, h.partner, inDualPair, hraised, hgroup, haxle,
    decide_true, Bool.and_true]

theorem entersAtOnce_eq (h : ReadyToJudge s r t rate w) (c : Condition) : entersAtOnce (w.wheel (countedRow r c)) c = entersFirst t c := by
  have hcounted : c = .lowWarn → countedRow r c = r := fun hc => countedRow_self (by rw [hc]; decide)
  cases c with
  | lowWarn =>
    rw [hcounted rfl]
    simp only [entersAtOnce, entersFirst, h.mode, Option.some.injEq]
  | _ => rfl

/-- The tests of R92, where the condition is judged. -/
theorem verdict_eq (h : ReadyToJudge s r t rate w) (hjudged : judged w r c = true) {v : WheelRecord} (hpc : v.pc = (w.wheel r).pc)
    (hpg : v.pg = (w.wheel r).pg) (hrate : v.leakRate = rate) :
    verdict w r t.batteryLow c = testsOf (limitsOf s r) (groupOf s r).temp t v (s.wheel (Machine.partner r)).pc c := by
  have hlimits : limitsOf w r = limitsOf s r := h.frame.limitsOf (r := r)
  have hgroup : groupOf w r = groupOf s r := h.frame.groupOf (r := r)
  have hread : c = .tempWarn ∨ c = .tempCrit → (w.wheel r).temperature = some ((t.temperature.toNat : Int) - 50) := fun hc => by
    have hsome : (w.wheel r).temperature.isSome = true := by
      rcases hc with rfl | rfl <;>
        · simp only [judged, Bool.and_eq_true] at hjudged
          exact hjudged.2
    rw [h.temperature_isSome, decide_eq_true_eq] at hsome
    rw [h.temperature, measTemp, if_neg hsome]
  cases c with
  | lowWarn | lowCrit => simp only [verdict, testsOf, hlimits, hgroup, hpc]
  | highWarn =>
    simp only [verdict, testsOf, hlimits, hgroup, hpg, Verdict.mk.injEq, decide_eq_decide, true_and]
    exact highClears_iff _ _ _
  | tempWarn =>
    simp only [verdict, testsOf, hgroup, hread (.inl rfl), Option.any_some, Verdict.mk.injEq, decide_eq_decide]
    constructor <;> omega
  | tempCrit =>
    simp only [verdict, testsOf, hgroup, hread (.inr rfl), Option.any_some, Verdict.mk.injEq, decide_eq_decide]
    constructor <;> omega
  | leak =>
    have hsome : (w.wheel r).leakRate.isSome = true := by
      simp only [judged, Bool.and_eq_true] at hjudged
      exact hjudged.1.2
    obtain ⟨n, hn⟩ := Option.isSome_iff_exists.1 hsome
    have hv : v.leakRate = some n := hrate.trans (h.rate.symm.trans hn)
    simp only [verdict, testsOf, hgroup, hn, hv, Option.any_some, Option.getD_some]
  | fastLeak => simp only [verdict, testsOf, h.mode, Option.some.injEq, ne_eq]
  | imbalance =>
    simp only [verdict, testsOf, hgroup, h.partner, hpc, absDiff, Verdict.mk.injEq, decide_eq_decide]
    exact ⟨imbalanceQualifies_iff _ _ _, imbalanceClears_iff _ _ _ _⟩
  | batteryLow => rfl
  | sensorFault =>
    have hint : (((w.wheel r).pc : Nat) : Int) = 4094 ↔ FaultKind t := by
      rw [← h.fault_iff]
      exact Int.ofNat_inj
    simp only [verdict, testsOf, hint, ne_eq]
  | missing => rfl

end ReadyToJudge

end Sys2Proof.Machine
end

section
/-! A measurement judged, in terms of the state before it: each condition, the events in their order, and the announcements. -/

namespace Sys2Proof.Machine

set_option Elab.async false

/-! ### The conditions that the judging starts from -/

section
variable {s w : State} {r : Row} {t : TelegramRecord} {x : Computed}

theorem hasCond_trendActive {c : Condition} (hmissing : c ≠ .missing) (hleak : c ≠ .leak) (s : State) (r : Row) (t : TelegramRecord) (x : Computed) :
    hasCond (trendActive s r t x) c = hasCond (s.wheel r).active c := by
  unfold trendActive
  split
  · rw [hasCond_dropCond, decide_eq_false hleak, Bool.not_false, Bool.and_true]
    exact hasCond_heardActive hmissing s r
  · exact hasCond_heardActive hmissing s r

/-- Every condition but MISSING and LEAK is judged from what it was. -/
theorem TrendWritten.condOf_kept (h : TrendWritten s r t x w) {c : Condition} (hmissing : c ≠ .missing) (hleak : c ≠ .leak) :
    condOf (w.wheel r) c = condOf (s.wheel r) c := by
  refine Prod.ext ?_ (h.counters c hmissing hleak)
  show hasCond (w.wheel r).active c = _
  rw [h.active]
  exact hasCond_trendActive hmissing hleak s r t x

/-- LEAK is judged from where a refill has left it (R71). -/
theorem TrendWritten.condOf_leak (h : TrendWritten s r t x w) :
    condOf (w.wheel r) .leak = if refillSeen s r t x = true then (false, 0) else condOf (s.wheel r) .leak := by
  have hbit : hasCond (w.wheel r).active .leak = if refillSeen s r t x = true then false else hasCond (s.wheel r).active .leak := by
    rw [h.active, trendActive]
    split
    · simp
    · exact hasCond_heardActive (by decide) s r
  have hcount := h.leak
  split
  · next hyes =>
    rw [if_pos hyes] at hbit hcount
    exact Prod.ext hbit hcount
  · next hno =>
    rw [if_neg hno] at hbit hcount
    exact Prod.ext hbit hcount

end

/-! ### The measurement against the state before it -/

namespace MeasuredBy

section
variable {s w v m : State} {before after : List TelegramRecord} {t : TelegramRecord} {r : Row}
  (h : MeasuredBy (heardAt before after t r s) r t w v m)
include h

theorem ready : ReadyToJudge s r t (m.wheel r).leakRate w := by
  have hw : RecordRead s r t (w.wheel r) := recordRead_of_reading h.written.record.reading
  have hm := h.recordRead
  refine ⟨((heardAt_frame before after t r s).mono (by decide)).trans (h.written.frame.mono (by decide)), hw.status, hw.pc, hw.pg,
    hw.temperature, hw.mode, hw.leakRate.trans hm.leakRate.symm, ?_⟩
  rw [h.written.others _ (partner_ne r), heardAt_wheel_other (partner_ne r)]

theorem refillSeen_eq : refillSeen (heardAt before after t r s) r t (computed (heardAt before after t r s) r t)
    = refills s r t (m.wheel r).pc := by
  have hn := heardAt_frame before after t r s
  have hcomputed : computed (heardAt before after t r s) r t = computed s r t := by simp only [computed, hn.vdm, hn.groupOf]
  have hraised : raisedRow (heardAt before after t r s) r = raisedRow s r := hn.raisedRow (r := r)
  have hfault : (!(computed s r t).fault) = decide (¬ FaultKind t) := by
    rw [Bool.eq_iff_iff, Bool.not_eq_true', decide_eq_true_eq, ← computed_fault_iff s r t, Bool.not_eq_true]
  unfold refillSeen refills
  rw [hcomputed, hraised, hfault, ringAdd_refill, heardAt_wheel_self, h.recordRead.pc]

/-- The conditions before the judging, as they stood in the record of the row that counts them. -/
theorem condOf_before {c : Condition} (hmissing : c ≠ .missing) (hleak : c ≠ .leak) :
    Machine.condOf (w.wheel (countedRow r c)) c = Machine.condOf (s.wheel (countedRow r c)) c := by
  by_cases hrow : countedRow r c = r
  · rw [hrow, h.written.condOf_kept hmissing hleak, heardAt_wheel_self]
  · rw [h.written.others _ hrow, heardAt_wheel_other hrow]

theorem condOf_leak_before : Machine.condOf (w.wheel r) .leak
    = if refills s r t (m.wheel r).pc = true then (false, 0) else Machine.condOf (s.wheel r) .leak := by
  rw [h.written.condOf_leak, h.refillSeen_eq, heardAt_wheel_self]

theorem leakDisabled_iff : leakDisabled w r = true ↔ (groupOf s r).temp.leakWarn = 0 ∧ ¬ FaultKind t := by
  have hgroup : groupOf w r = groupOf s r := h.ready.frame.groupOf (r := r)
  rw [leakDisabled, hgroup, h.ready.holdsValues, Bool.and_eq_true, decide_eq_true_eq, decide_eq_true_eq]

/-- A condition judged by its tests, or held (R91 to R94). -/
theorem condOf_after {c : Condition} (hdisabled : ¬ (c = .leak ∧ leakDisabled w r = true)) :
    Machine.condOf (m.wheel (countedRow r c)) c =
      if isJudged s r t (m.wheel r).leakRate c = true then
        moveCounter (s.setting .persistN) (entersFirst t c) (Machine.condOf (w.wheel (countedRow r c)) c).1
          (Machine.condOf (w.wheel (countedRow r c)) c).2
          (testsOf (limitsOf s r) (groupOf s r).temp t (m.wheel r) (s.wheel (partner r)).pc c)
      else Machine.condOf (w.wheel (countedRow r c)) c := by
  have hready := h.ready
  have hall : c ∈ Condition.all := by cases c <;> decide
  have hw : RecordRead s r t (w.wheel r) := recordRead_of_reading h.written.record.reading
  have hm := h.recordRead
  have hsetting : w.setting .persistN = s.setting .persistN := hready.frame.setting _
  rw [h.condOf, h.judged.cond c hall, judgedCond, if_neg hdisabled, hready.entersAtOnce_eq, hsetting, ← hready.judged_eq]
  by_cases hjudged : Machine.judged w r c = true
  · rw [if_pos hjudged, if_pos hjudged, hready.verdict_eq hjudged (hm.pc.trans hw.pc.symm) (hm.pg.trans hw.pg.symm) rfl]
  · rw [if_neg hjudged, if_neg hjudged]

theorem leak_off (hwarn : (groupOf s r).temp.leakWarn = 0) (hf : ¬ FaultKind t) : hasCond (m.wheel r).active .leak = false := by
  have hcond := (h.condOf r .leak).trans (h.judged.cond .leak (by decide))
  rw [judgedCond, if_pos ⟨rfl, h.leakDisabled_iff.2 ⟨hwarn, hf⟩⟩] at hcond
  have hbit := congrArg Prod.fst hcond
  dsimp only at hbit
  split at hbit
  · exact hbit
  · next hno => exact hbit.trans (Bool.not_eq_true _ ▸ hno)

/-- IMBALANCE stays the pair's (R95). -/
theorem imbalance (hpair : ImbalanceLegal s r) : ImbalanceLegal m r := by
  have hbit : ∀ q, hasCond (w.wheel q).active .imbalance = hasCond (s.wheel q).active .imbalance := fun q => by
    by_cases hq : q = r
    · subst hq
      rw [h.written.active, hasCond_trendActive (by decide) (by decide), heardAt_wheel_self]
    · rw [h.written.others q hq, heardAt_wheel_other hq]
  have hwpair : ImbalanceLegal w r := by
    rw [ImbalanceLegal, hbit, hbit]
    exact hpair
  have hvpair := h.judged.pair hwpair
  rw [ImbalanceLegal, (h.announced.reannounced r).active, (h.announced.reannounced (partner r)).active]
  exact hvpair

theorem partner_condOf {c : Condition} (hc : c ≠ .imbalance) :
    Machine.condOf (m.wheel (partner r)) c = Machine.condOf (s.wheel (partner r)) c := by
  rw [h.condOf, h.judged.partner c hc, h.written.others _ (partner_ne r), heardAt_wheel_other (partner_ne r)]

end

end MeasuredBy

end Sys2Proof.Machine
end

section
/-! The events and the announcements of a measurement: the settlement of O52. -/

namespace Sys2Proof.Machine

set_option Elab.async false

/-- The set from which the conditions of a measurement are judged: MISSING ended (R80), and LEAK after a refill (R71). -/
abbrev setHeard (w : WheelRecord) : ConditionSet := if w.status = .missing then dropCond w.active .missing else w.active

abbrev setRefilled (w : WheelRecord) (refilled : Bool) : ConditionSet :=
  if refilled = true then dropCond (setHeard w) .leak else setHeard w

/-- The events that a measurement raises before the conditions are judged (R96). -/
abbrev eventsBefore (s : State) (r : Row) (refilled : Bool) (pc : Pu) : List Event :=
  (if (s.wheel r).status = .missing ∧ hasCond (s.wheel r).active .missing = true then
      [conditionEvent r .missing false (setHeard (s.wheel r)) pc (s.now / 1000)] else [])
    ++ if refilled = true then
      ({ kind := .refill, row := some r, value := some (BitVec.ofNat 32 pc), time := s.now / 1000 } : Event)
        :: (if hasCond (s.wheel r).active .leak = true then
          [conditionEvent r .leak false (setRefilled (s.wheel r) refilled) pc (s.now / 1000)] else [])
      else []

namespace MeasuredBy

section
variable {s w v m : State} {before after : List TelegramRecord} {t : TelegramRecord} {r : Row}
  (h : MeasuredBy (heardAt before after t r s) r t w v m)
include h

theorem setRefilled_eq : (w.wheel r).active = setRefilled (s.wheel r) (refills s r t (m.wheel r).pc) := by
  rw [h.written.active, trendActive, heardActive, h.refillSeen_eq, heardAt_wheel_self]

theorem eventsBefore_eq : heardEvents (heardAt before after t r s) r (computed (heardAt before after t r s) r t)
      ++ refillEvents (heardAt before after t r s) r t (computed (heardAt before after t r s) r t)
    = eventsBefore s r (refills s r t (m.wheel r).pc) (m.wheel r).pc := by
  have hn := heardAt_frame before after t r s
  have hnow : (heardAt before after t r s).now = s.now := hn.now
  have hpc : (computed (heardAt before after t r s) r t).pc = (m.wheel r).pc := by
    rw [h.recordRead.pc]
    simp only [computed, hn.vdm, hn.groupOf]
  unfold heardEvents refillEvents trendActive heardActive
  rw [h.refillSeen_eq, hpc, hnow, heardAt_wheel_self]

/-- The events of a condition judged, in terms of the state before the measurement. -/
theorem judgedEvents_eq (c : Condition) :
    judgedEvents r c (activeUpTo c (w.wheel r).active (v.wheel r).active) w v
      = let q := partner r
        let o := outerRow r
        let shared := hasCond (m.wheel o).active .imbalance
        let own := conditionEvent r c (hasCond (m.wheel r).active c)
          (activeUpTo c (setRefilled (s.wheel r) (refills s r t (m.wheel r).pc)) (m.wheel r).active) (m.wheel r).pc (s.now / 1000)
        let other := conditionEvent q .imbalance shared (m.wheel q).active (s.wheel q).pc (s.now / 1000)
        if c = .imbalance then
          if shared = hasCond (s.wheel o).active c then [] else if o = r then [own, other] else [other, own]
        else if hasCond (m.wheel r).active c = hasCond (setRefilled (s.wheel r) (refills s r t (m.wheel r).pc)) c then [] else [own] := by
  have hactive : ∀ q, (v.wheel q).active = (m.wheel q).active := fun q => ((h.announced.reannounced q).active).symm
  have hw : RecordRead s r t (w.wheel r) := recordRead_of_reading h.written.record.reading
  have hpc : (w.wheel r).pc = (m.wheel r).pc := hw.pc.trans h.recordRead.pc.symm
  have hpartner := h.ready.partner
  have hnow : w.now = s.now := h.ready.frame.now
  have houter : hasCond (w.wheel (outerRow r)).active .imbalance = hasCond (s.wheel (outerRow r)).active .imbalance :=
    congrArg Prod.fst (h.condOf_before (c := .imbalance) (by decide) (by decide))
  unfold judgedEvents
  dsimp only
  rw [hactive, hactive, hactive, hpc, hpartner, hnow, h.setRefilled_eq]
  by_cases hc : c = .imbalance
  · subst hc
    rw [if_pos rfl, if_pos rfl, houter]
  · rw [if_neg hc, if_neg hc]

theorem events : RaisedAll (eventsBefore s r (refills s r t (m.wheel r).pc) (m.wheel r).pc
    ++ Condition.all.flatMap fun c => judgedEvents r c (activeUpTo c (w.wheel r).active (v.wheel r).active) w v) s m := by
  have hwritten := h.written.raised
  rw [h.eventsBefore_eq] at hwritten
  have hall := hwritten.trans h.judged.raised
  rw [RaisedAll, (heardAt_frame before after t r s).evq] at hall
  exact h.announced.evq.trans hall

/-- The announcements that follow, as they stand to the state before. -/
theorem announcements : (∀ q, q = r ∨ q = partner r → AnnouncedLegal m q
      ∧ (AlertDueFor s m q → alertOf q (m.wheel q) ∈ m.link.alerts))
    ∧ (¬ AlertDueFor s m r → ¬ AlertDueFor s m (partner r) → m.link.alerts = s.link.alerts) := by
  have hstate : v.osc.state = s.osc.state := by
    rw [h.judged.judging.osc_state, h.ready.frame.osc]
  have hann : ∀ q, (v.wheel q).announced = (s.wheel q).announced := fun q => by
    rw [(h.judged.judging.rejudged q).announced]
    by_cases hq : q = r
    · subst hq
      obtain ⟨-, -, hmeasured, -⟩ := measuredRecord_rejudged (heardAt before after t q s) q t (computed (heardAt before after t q s) q t)
      have hread : (readRecord (heardAt before after t q s) q t (computed (heardAt before after t q s) q t)).announced
          = (measuredRecord (heardAt before after t q s) q t (computed (heardAt before after t q s) q t)).announced := by
        unfold readRecord
        split
        · rfl
        · split <;> rfl
      rw [h.written.record.announced, hread, hmeasured, heardAt_wheel_self]
    · rw [h.written.others q hq, heardAt_wheel_other hq]
  have hdue : ∀ q, AlertDueFor v m q ↔ AlertDueFor s m q := fun q => by
    unfold AlertDueFor WheelRecord.announcedLevel
    rw [hann, hstate]
  have halerts : v.link.alerts = s.link.alerts := by rw [h.judged.judging.frame.link, h.ready.frame.link]
  refine ⟨fun q hq => ?_, fun hr hp => ?_⟩
  · obtain ⟨hlegal, hframes⟩ := h.announced.announced q hq
    refine ⟨hlegal, fun hsent => ?_⟩
    rw [if_pos ((hdue q).2 hsent)] at hframes
    exact hframes.1
  · rw [h.announced.quiet (mt (hdue r).1 hr) (mt (hdue _).1 hp), halerts]

end

end MeasuredBy

/-- Where TAU listens, an ALERT frame is due as the rule says (R104). -/
theorem alertDueFor_iff {s u : State} {q : Row} (hl : s.osc.state = .active ∨ s.osc.state = .parkWatch) :
    AlertDueFor s u q ↔ (u.wheel q).announced ≠ (s.wheel q).announced
      ∧ (s.osc.state = .active ∨ (s.wheel q).announcedLevel = .critical ∨ (u.wheel q).announcedLevel = .critical) := by
  unfold AlertDueFor
  rcases hl with h | h
  · simp [h, alertDue]
  · simp [h, alertDue]

theorem outerRow_of_place (r : Row) : (if r.val % 4 = 0 ∨ r.val % 4 = 3 then r else partner r) = outerRow r := rfl

/-- Settles O52: persistence by the counter, and the measurement by its stages. -/
theorem conditionsPersist : Obligations.ConditionsPersist := by
  refine ⟨fun persist v hpersist => ?_, fun s before after t r hmeasures => ?_⟩
  · obtain ⟨hfirst, hbroken, hheld⟩ := moveCounter_rules persist v
    exact ⟨fun j hq hj => moveCounter_enters hpersist hq j hj, fun j atOnce hc hj => moveCounter_leaves hpersist hc atOnce j hj,
      hfirst, hbroken, hheld⟩
  · obtain ⟨w, v, m, hexec, h, -⟩ := telegramRecord_measured hmeasures
    obtain ⟨⟨-, hl⟩, -⟩ := hmeasures
    have hafter := settleProposal_frame m
    have hwheel : ∀ q, (settleProposal m).wheel q = m.wheel q := hafter.wheel
    refine ⟨settleProposal m, hexec, ?_⟩
    simp only [hwheel, outerRow_of_place]
    refine ⟨fun c hleak himb hmissing => ?own, fun hdisabled => ?leak, fun hwarn hf => h.leak_off hwarn hf, ?shared, fun hpair => ?pair,
      ?missing, fun c hc => h.partner_condOf hc, ?events, ?announced⟩
    case own =>
      have hafter := h.condOf_after (c := c) fun hd => hleak hd.1
      rw [h.condOf_before hmissing hleak, countedRow_self himb] at hafter
      exact hafter
    case leak =>
      have hafter := h.condOf_after (c := .leak) fun hd => by
        obtain ⟨hwarn, hf⟩ := h.leakDisabled_iff.1 hd.2
        exact hdisabled.elim (fun hne => hne hwarn) hf
      rw [countedRow_self (by decide), h.condOf_leak_before] at hafter
      exact hafter
    case shared =>
      have hafter := h.condOf_after (c := .imbalance) fun hd => absurd hd.1 (by decide)
      rw [h.condOf_before (by decide) (by decide)] at hafter
      exact hafter
    case pair =>
      have hpair := h.imbalance hpair
      rw [ImbalanceLegal, hwheel, hwheel]
      exact hpair
    case missing =>
      have hbit := h.missing
      rw [heardAt_wheel_self] at hbit
      exact hbit
    case events =>
      have hraised := h.events
      simp only [h.judgedEvents_eq] at hraised
      have henc : m.enc = s.enc := h.frame.enc.trans (heardAt_frame before after t r s).enc
      by_cases hnone : s.enc.proposal = none
      · refine ⟨[], ?_, fun _ => rfl⟩
        rw [settleProposal_of_none (by rw [henc, hnone]), List.append_nil]
        exact hraised
      · obtain ⟨later, hlater⟩ := hafter.pushes
        have hall : RaisedAll later m (settleProposal m) := hlater
        exact ⟨later, hraised.trans hall, fun h => absurd h hnone⟩
    case announced =>
      obtain ⟨hsent, hquiet⟩ := h.announcements
      simp only [alertDueFor_iff hl] at hsent hquiet
      refine ⟨fun x hx => ?_, fun hr hp => ?_⟩
      · obtain ⟨hlegal, halert⟩ := hsent x hx
        refine ⟨?_, fun hdue => ?_⟩
        · rw [AnnouncedLegal, hwheel, hafter.tables]
          exact hlegal
        · rw [hafter.link]
          exact halert hdue
      · rw [hafter.link]
        exact hquiet hr hp

end Sys2Proof.Machine
end

section
/-! No condition of a row is left without its event, by anything that judges conditions, retimes rows or lifts axles (R96). -/

namespace Sys2Proof.Machine

set_option Elab.async false

/-- What a vehicle data frame may change. -/
abbrev vehicleFields : List Field := trailerFields ++ endFields

/-- A condition left, with its event. -/
abbrev ToldOff (q : Row) (c : Condition) (s u : State) : Prop :=
  ∃ level value, Raised
    { kind := .conditionOff, row := some q, condition := some c, level := level, value := value, time := s.now / 1000 } s u

/-- Each condition of row `q` that is left is told. -/
abbrev TellsRow (q : Row) (s u : State) : Prop :=
  ∀ c, hasCond (s.wheel q).active c = true → hasCond (u.wheel q).active c = true ∨ ToldOff q c s u

/-- Work after which no condition of any row is left untold. -/
structure Tells (s u : State) : Prop where
  frame : Frame vehicleFields s u
  rows : ∀ q, TellsRow q s u

theorem ToldOff.later {q : Row} {c : Condition} {s t u : State} {cs : List Field} (h : ToldOff q c s t) (k : Frame cs t u) : ToldOff q c s u := by
  obtain ⟨level, value, hraised⟩ := h
  exact ⟨level, value, raised_later hraised k⟩

theorem ToldOff.earlier {q : Row} {c : Condition} {s t u : State} {cs : List Field} (h : Frame cs s t) (k : ToldOff q c t u)
    (hclock : Field.clock ∉ cs := by decide) : ToldOff q c s u := by
  obtain ⟨level, value, hraised⟩ := k
  rw [h.now hclock] at hraised
  exact ⟨level, value, raised_earlier h hraised⟩

theorem TellsRow.trans {q : Row} {s t u : State} {cs ds : List Field} (hst : Frame cs s t) (htu : Frame ds t u) (h : TellsRow q s t)
    (k : TellsRow q t u) (hclock : Field.clock ∉ cs := by decide) : TellsRow q s u := by
  intro c hc
  rcases h c hc with hkept | htold
  · rcases k c hkept with hkept | htold
    · exact .inl hkept
    · exact .inr (htold.earlier hst hclock)
  · exact .inr (htold.later htu)

theorem TellsRow.of_kept {q : Row} {s u : State} (h : ∀ c, hasCond (s.wheel q).active c = true → hasCond (u.wheel q).active c = true) :
    TellsRow q s u := fun c hc => .inl (h c hc)

namespace Tells

variable {s t u : State}

theorem trans (h : Tells s t) (k : Tells t u) : Tells s u :=
  ⟨h.frame.trans k.frame, fun q => (h.rows q).trans h.frame k.frame (k.rows q)⟩

theorem refl (s : State) : Tells s s := ⟨.refl _ s, fun _ => .of_kept fun _ h => h⟩

theorem ite {p : Prop} [Decidable p] (h : Tells s t) (k : Tells s u) : Tells s (if p then t else u) := by split <;> assumption

theorem of_active {cs : List Field} (hf : Frame cs s u) (h : ∀ q, (u.wheel q).active = (s.wheel q).active)
    (hsub : ∀ f ∈ cs, f ∈ vehicleFields := by decide) : Tells s u :=
  ⟨hf.mono hsub, fun q => .of_kept fun c hc => by rw [h q]; exact hc⟩

theorem foldl {α : Type} {f : State → α → State} (h : ∀ s x, Tells s (f s x)) (l : List α) (s : State) : Tells s (l.foldl f s) := by
  induction l generalizing s with
  | nil => exact .refl s
  | cons x l ih => exact (h s x).trans (ih (f s x))

theorem forRows {f : Row → State → State} (h : ∀ r s, Tells s (f r s)) (rows : List Row) (s : State) : Tells s (Machine.forRows f rows s) :=
  foldl (fun s r => h r s) rows s

theorem putWheel {r : Row} {w : WheelRecord} (h : w.active = (s.wheel r).active) : Tells s (putWheel r w s) := by
  refine of_active (putWheel_frame r w s) fun q => ?_
  rw [putWheel_wheel]
  split
  · next hq => rw [h, hq]
  · rfl

end Tells

theorem setCondition_tells (r : Row) (c : Condition) (on : Bool) (s : State) : Tells s (setCondition r c on s) := by
  refine ⟨(setCondition_frame r c on s).mono (by decide), fun q d hd => ?_⟩
  rw [setCondition_wheel]
  split
  · next hq =>
    subst hq
    by_cases hdc : d = c
    · subst hdc
      cases on with
      | true => exact .inl (by simp)
      | false => exact .inr ⟨_, _, (setCondition_raised q d false s).raised List.mem_cons_self⟩
    · refine .inl ?_
      rw [hasCond_withCond, if_neg hdc]
      exact hd
  · exact .inl hd

theorem clearIfActive_tells (r : Row) (c : Condition) (s : State) : Tells s (clearIfActive r c s) :=
  .ite (setCondition_tells r c false s) (.refl s)

theorem setCounter_tells (r : Row) (c : Condition) (n : Nat) (s : State) : Tells s (setCounter r c n s) := .putWheel rfl

theorem setImbalance_tells (r : Row) (on : Bool) (s : State) : Tells s (setImbalance r on s) :=
  (setCondition_tells _ _ on s).trans (setCondition_tells _ _ on _)

theorem reannounce_tells (r : Row) (s : State) : Tells s (reannounce r s) :=
  .of_active (reannounce_frame r s) fun q => reannounce_active r q s

theorem goStale_tells (r : Row) (s : State) : Tells s (goStale r s) := .putWheel rfl

theorem goMissing_tells (r : Row) (s : State) : Tells s (goMissing r s) := by
  have hsilenced : Tells s (putWheel r (silenced (s.wheel r)) s) := .putWheel rfl
  rw [goMissing_eq]
  exact (hsilenced.trans (setCondition_tells r .missing true _)).trans (reannounce_tells r _)

theorem retimeRow_tells (before : State) (r : Row) (s : State) : Tells s (retimeRow before r s) := by
  unfold retimeRow
  dsimp only
  refine .ite (.refl s) (.ite (.putWheel rfl) ?_)
  have hput : Tells s (putWheel r (withDeadlines s r ((s.wheel r).base.getD s.now) (s.wheel r)) s) := .putWheel rfl
  refine hput.trans ?_
  generalize putWheel r (withDeadlines s r ((s.wheel r).base.getD s.now) (s.wheel r)) s = t
  have hstale : Tells t (if due t (t.wheel r).staleAt = true then goStale r t else t) := .ite (goStale_tells r t) (.refl t)
  exact hstale.trans (.ite (goMissing_tells r _) (.refl _))

theorem reevaluateOne_tells (r : Row) (c : Condition) (s : State) : Tells s (reevaluateOne r c s) := by
  unfold reevaluateOne
  dsimp only
  refine .ite (clearIfActive_tells r _ s) (.ite (.refl s) (.ite (.ite (setImbalance_tells r false s) (.refl s)) (.ite ?_ ?_)))
  · exact .ite (setCondition_tells r c false s) (.refl s)
  · exact .ite (setCondition_tells r c true s) (.refl s)

theorem reevaluateWheel_tells (r : Row) (s : State) : Tells s (reevaluateWheel r s) :=
  .foldl (fun s c => reevaluateOne_tells r c s) wheelLimitConditions s

theorem clearLimitCounters_tells (r : Row) (s : State) : Tells s (clearLimitCounters r s) :=
  .foldl (fun s c => setCounter_tells r c 0 s) limitConditions s

theorem reevaluate_tells (rows : List Row) (s : State) : Tells s (reevaluate rows s) := by
  rw [reevaluate_eq]
  refine Tells.trans ?_ (.forRows reannounce_tells _ _)
  refine Tells.trans ?_ (.forRows clearLimitCounters_tells _ _)
  exact (Tells.forRows reevaluateWheel_tells _ s).trans (.forRows (fun r s => reevaluateOne_tells r .imbalance s) _ _)

theorem raiseWheel_tells (r : Row) (s : State) : Tells s (raiseWheel r s) :=
  (clearIfActive_tells r .lowWarn s).trans (clearIfActive_tells r .leak _)

theorem raisePair_tells (r : Row) (s : State) : Tells s (raisePair r s) := .ite (setImbalance_tells r false s) (.refl s)

theorem raiseRest_tells (before : State) (r : Row) (s : State) : Tells s (raiseRest before r s) := by
  unfold raiseRest
  dsimp only
  have hcounters := ((setCounter_tells r .lowWarn 0 s).trans (setCounter_tells r .leak 0 _)).trans (setCounter_tells r .imbalance 0 _)
  generalize setCounter r .imbalance 0 (setCounter r .leak 0 (setCounter r .lowWarn 0 s)) = t at hcounters
  have hput : Tells t (putWheel r { t.wheel r with ring := [], leakRate := none } t) := .putWheel rfl
  exact (hcounters.trans hput).trans (retimeRow_tells before r _)

theorem raiseRows_tells (before : State) (rows : List Row) (s : State) : Tells s (raiseRows before rows s) := by
  unfold raiseRows
  dsimp only
  refine Tells.trans ?_ (.forRows reannounce_tells _ _)
  refine Tells.trans ?_ (.forRows (raiseRest_tells before) _ _)
  exact (Tells.forRows raiseWheel_tells _ s).trans (.forRows raisePair_tells _ _)

theorem liftAxle_tells (before : State) (a : AxleNo) (s : State) : Tells s (liftAxle before a s) :=
  .ite (.refl s) (.ite (raiseRows_tells before _ s) ((reevaluate_tells _ s).trans (.forRows (retimeRow_tells before) _ _)))

theorem liftChange_tells (before s : State) : Tells s (liftChange before s) :=
  .ite (.refl s) (.foldl (fun s a => liftAxle_tells before a s) _ s)

/-- The mode entered keeps the conditions. -/
theorem enterState_tells {n : OpState} {s : State} : Tells s (enterState n s) := by
  obtain ⟨-, -, -, hwheels, -⟩ := enterState_entered n s
  exact .of_active (enterState_frame n s) fun q => by rw [hwheels q]

end Sys2Proof.Machine
end

section
/-! A row through the stages of a vehicle data frame: carried along, or judged anew (R83, R99, R100). -/

namespace Sys2Proof.Machine

set_option Elab.async false

/-- LIVE or STALE. -/
abbrev Alive (w : WheelRecord) : Prop := w.status = .live ∨ w.status = .stale

/-- A record alive at the end was alive before, with the same reading, its LOW_CRIT and its counters at 0 kept. -/
abbrev LiveKept (w v : WheelRecord) : Prop :=
  Alive v → Alive w ∧ v.pc = w.pc ∧ v.pg = w.pg ∧ hasCond v.active .lowCrit = hasCond w.active .lowCrit
    ∧ ∀ c ∈ limitConditions, w.counters[c.code] = 0 → v.counters[c.code] = 0

/-- A record alive at the end was alive before, with the same reading, its LOW_CRIT judged by the limits and its counters at 0. -/
abbrev LiveJudged (p : PressureLimits) (hyst : Nat) (w v : WheelRecord) : Prop :=
  Alive v → Alive w ∧ v.pc = w.pc ∧ v.pg = w.pg
    ∧ (w.pc ≤ 4000 → w.pg ≤ 4000 → hasCond v.active .lowCrit = critAfter p hyst w) ∧ ∀ c ∈ limitConditions, v.counters[c.code] = 0

section
variable {p : PressureLimits} {hyst : Nat} {w v x : WheelRecord}

theorem LiveKept.trans (h : LiveKept w v) (k : LiveKept v x) : LiveKept w x := fun hx => by
  obtain ⟨hv, hpc, hpg, hcrit, hcounters⟩ := k hx
  obtain ⟨hw, hpc', hpg', hcrit', hcounters'⟩ := h hv
  exact ⟨hw, hpc.trans hpc', hpg.trans hpg', hcrit.trans hcrit', fun c hc hzero => hcounters c hc (hcounters' c hc hzero)⟩

theorem LiveKept.judged (h : LiveKept w v) (k : LiveJudged p hyst v x) : LiveJudged p hyst w x := fun hx => by
  obtain ⟨hv, hpc, hpg, hcrit, hcounters⟩ := k hx
  obtain ⟨hw, hpc', hpg', hcrit', -⟩ := h hv
  refine ⟨hw, hpc.trans hpc', hpg.trans hpg', fun hlow hhigh => ?_, hcounters⟩
  exact (hcrit (hpc' ▸ hlow) (hpg' ▸ hhigh)).trans (critAfter_congr hpc' hcrit')

theorem LiveJudged.kept (h : LiveJudged p hyst w v) (k : LiveKept v x) : LiveJudged p hyst w x := fun hx => by
  obtain ⟨hv, hpc, hpg, hcrit, hcounters⟩ := k hx
  obtain ⟨hw, hpc', hpg', hcrit', hcounters'⟩ := h hv
  exact ⟨hw, hpc.trans hpc', hpg.trans hpg', fun hlow hhigh => hcrit.trans (hcrit' hlow hhigh),
    fun c hc => hcounters c hc (hcounters' c hc)⟩

/-- Judged twice by the same limits is judged once. -/
theorem LiveJudged.again (h : LiveJudged p hyst w v) (k : LiveJudged p hyst v x) : LiveJudged p hyst w x := fun hx => by
  obtain ⟨hv, hpc, hpg, hcrit, hcounters⟩ := k hx
  obtain ⟨hw, hpc', hpg', hcrit', -⟩ := h hv
  refine ⟨hw, hpc.trans hpc', hpg.trans hpg', fun hlow hhigh => ?_, hcounters⟩
  rw [hcrit (hpc' ▸ hlow) (hpg' ▸ hhigh), critAfter, hcrit' hlow hhigh, critAfter, hpc']
  cases decide (w.pc < lowCritLimit p) <;> cases decide (w.pc < lowCritLimit p + hyst) <;> cases hasCond w.active .lowCrit <;> rfl

theorem LiveKept.refl (w : WheelRecord) : LiveKept w w := fun h => ⟨h, rfl, rfl, rfl, fun _ _ h => h⟩

/-- A record that differs in its deadlines, and what is announced of it, alone. -/
theorem LiveKept.of_eq {w v : WheelRecord} (hstatus : v.status = w.status) (hpc : v.pc = w.pc) (hpg : v.pg = w.pg) (hactive : v.active = w.active)
    (hcounters : v.counters = w.counters) : LiveKept w v := fun h =>
  ⟨by rwa [Alive, hstatus] at h, hpc, hpg, by rw [hactive], fun c _ hzero => by rwa [hcounters]⟩

end

/-! ### A row carried along -/

/-- Row `q` through work that does not judge its LOW_CRIT. -/
structure Carried (q : Row) (s u : State) : Prop where
  frame : Frame vehicleFields s u
  tells : TellsRow q s u
  vacant : (u.wheel q).status = .vacant → (s.wheel q).status = .vacant
  live : LiveKept (s.wheel q) (u.wheel q)

/-- Row `q` through work that judges its LOW_CRIT by the limits `p`. -/
structure CarriedJudged (p : PressureLimits) (hyst : Nat) (q : Row) (s u : State) : Prop where
  frame : Frame vehicleFields s u
  tells : TellsRow q s u
  vacant : (u.wheel q).status = .vacant → (s.wheel q).status = .vacant
  live : LiveJudged p hyst (s.wheel q) (u.wheel q)

section
variable {p : PressureLimits} {hyst : Nat} {q : Row} {s t u : State}

theorem Carried.trans (h : Carried q s t) (k : Carried q t u) : Carried q s u :=
  ⟨h.frame.trans k.frame, h.tells.trans h.frame k.frame k.tells, fun hv => h.vacant (k.vacant hv), LiveKept.trans h.live k.live⟩

theorem Carried.judged (h : Carried q s t) (k : CarriedJudged p hyst q t u) : CarriedJudged p hyst q s u :=
  ⟨h.frame.trans k.frame, h.tells.trans h.frame k.frame k.tells, fun hv => h.vacant (k.vacant hv), LiveKept.judged h.live k.live⟩

theorem CarriedJudged.carried (h : CarriedJudged p hyst q s t) (k : Carried q t u) : CarriedJudged p hyst q s u :=
  ⟨h.frame.trans k.frame, h.tells.trans h.frame k.frame k.tells, fun hv => h.vacant (k.vacant hv), LiveJudged.kept h.live k.live⟩

theorem CarriedJudged.again (h : CarriedJudged p hyst q s t) (k : CarriedJudged p hyst q t u) : CarriedJudged p hyst q s u :=
  ⟨h.frame.trans k.frame, h.tells.trans h.frame k.frame k.tells, fun hv => h.vacant (k.vacant hv), LiveJudged.again h.live k.live⟩

theorem Carried.of_wheel {cs : List Field} (hf : Frame cs s u) (hw : u.wheel q = s.wheel q)
    (hsub : ∀ f ∈ cs, f ∈ vehicleFields := by decide) : Carried q s u :=
  ⟨hf.mono hsub, .of_kept fun c hc => by rw [hw]; exact hc, fun hv => by rwa [hw] at hv, by rw [hw]; exact .refl _⟩

theorem Carried.refl (q : Row) (s : State) : Carried q s s := .of_wheel (.refl [] s) rfl

theorem Carried.of_frame {cs : List Field} (hf : Frame cs s u) (hwheels : Field.wheels ∉ cs := by decide)
    (hsub : ∀ f ∈ cs, f ∈ vehicleFields := by decide) : Carried q s u := .of_wheel hf (hf.wheel q hwheels) hsub

theorem Carried.of_tells (ht : Tells s u) (hvacant : (u.wheel q).status = .vacant → (s.wheel q).status = .vacant)
    (hlive : LiveKept (s.wheel q) (u.wheel q)) : Carried q s u := ⟨ht.frame, ht.rows q, hvacant, hlive⟩

theorem Carried.ite {b : Prop} [Decidable b] (h : b → Carried q s t) (k : ¬ b → Carried q s u) : Carried q s (if b then t else u) := by
  split
  · exact h ‹_›
  · exact k ‹_›

theorem Carried.forRows {f : Row → State → State} (h : ∀ r s, Carried q s (f r s)) (rows : List Row) (s : State) :
    Carried q s (Machine.forRows f rows s) := by
  induction rows generalizing s with
  | nil => exact .refl q s
  | cons r rows ih => exact (h r s).trans (ih (f r s))

theorem Carried.foldl {α : Type} {f : State → α → State} (h : ∀ s x, Carried q s (f s x)) (l : List α) (s : State) : Carried q s (l.foldl f s) := by
  induction l generalizing s with
  | nil => exact .refl q s
  | cons x l ih => exact (h s x).trans (ih (f s x))

end

/-! ### The stages -/

theorem goMissing_carried (q r : Row) (s : State) : Carried q s (goMissing r s) := by
  obtain ⟨d, hd⟩ := goMissing_wheel r s
  refine .of_tells (goMissing_tells r s) (fun hv => ?_) fun halive => ?_
  · rw [hd] at hv
    split at hv
    · cases hv
    · exact hv
  · rw [hd] at halive ⊢
    split at halive
    · rcases halive with h | h <;> cases h
    · next hq =>
      rw [if_neg hq]
      exact LiveKept.refl _ halive

theorem goStale_carried (q r : Row) {s : State} (hlive : (s.wheel r).status = .live) : Carried q s (goStale r s) := by
  have hwheel : (goStale r s).wheel q = if q = r then { s.wheel r with status := .stale, staleAt := none } else s.wheel q :=
    putWheel_wheel r q _ s
  refine .of_tells (goStale_tells r s) (fun hv => ?_) fun halive => ?_
  · rw [hwheel] at hv
    split at hv
    · cases hv
    · exact hv
  · rw [hwheel] at halive ⊢
    split
    · next hq =>
      subst hq
      exact ⟨.inl hlive, rfl, rfl, rfl, fun _ _ h => h⟩
    · next hq =>
      rw [if_neg hq] at halive
      exact LiveKept.refl _ halive

theorem withDeadlines_carried (q r : Row) (base : Millis) (s : State) : Carried q s (putWheel r (withDeadlines s r base (s.wheel r)) s) := by
  refine .of_tells (.putWheel rfl) (fun hv => ?_) ?_
  · rw [putWheel_wheel] at hv
    split at hv
    · next hq => exact hq ▸ hv
    · exact hv
  · rw [putWheel_wheel]
    split
    · next hq =>
      subst hq
      exact .of_eq rfl rfl rfl rfl rfl
    · exact .refl _

theorem retimeRow_carried (before : State) (q r : Row) (s : State) : Carried q s (retimeRow before r s) := by
  unfold retimeRow
  dsimp only
  refine .ite (fun _ => .refl q s) fun _ => .ite (fun _ => withDeadlines_carried q r _ s) fun _ => ?_
  refine (withDeadlines_carried q r ((s.wheel r).base.getD s.now) s).trans ?_
  have hself : (putWheel r (withDeadlines s r ((s.wheel r).base.getD s.now) (s.wheel r)) s).wheel r
      = withDeadlines s r ((s.wheel r).base.getD s.now) (s.wheel r) := by rw [putWheel_wheel, if_pos rfl]
  generalize putWheel r (withDeadlines s r ((s.wheel r).base.getD s.now) (s.wheel r)) s = t at hself ⊢
  have hstatus : (t.wheel r).status = (s.wheel r).status := by rw [hself]; rfl
  have hstale : Carried q t (if due t (t.wheel r).staleAt = true then goStale r t else t) := by
    refine .ite (fun hdue => goStale_carried q r ?_) fun _ => .refl q t
    by_contra hno
    have hnone : (t.wheel r).staleAt = none := by
      rw [hself]
      exact if_neg (by rwa [hstatus] at hno)
    rw [hnone, due_none] at hdue
    cases hdue
  exact hstale.trans (.ite (fun _ => goMissing_carried q r _) fun _ => .refl q _)

theorem retime_carried (before : State) (q : Row) (s : State) : Carried q s (retime before s) := .forRows (retimeRow_carried before q) allRows s

theorem enterState_carried {n : OpState} {s : State} (q : Row) (hawake : s.osc.state ≠ .dormant) : Carried q s (enterState n s) := by
  obtain ⟨-, -, -, hwheels, -⟩ := enterState_entered n s
  have hstatus : ((enterState n s).wheel q).status = (s.wheel q).status := by
    rw [hwheels q]
    exact if_neg fun h => hawake h.1
  refine .of_tells enterState_tells (fun hv => by rwa [hstatus] at hv) (.of_eq hstatus ?_ ?_ ?_ ?_)
  all_goals rw [hwheels q]

theorem sessionClosed_carried {s : State} (q : Row) (hawake : s.osc.state ≠ .dormant) : Carried q s (sessionClosed s) := by
  by_cases hpark : s.osc.parkPending = true ∧ s.lines.ignition = false
  · rw [sessionClosed_of_parking hpark]
    have hset : Carried q s (s.setOsc { s.osc with parkPending := false }) := .of_frame (setOsc_frame _ s)
    exact hset.trans (enterState_carried q hawake)
  · rw [sessionClosed_of_staying hpark]
    exact .of_frame (setOsc_frame _ s)

theorem endSession_carried {s : State} (how : Ending) (q : Row) (hawake : s.osc.state ≠ .dormant) : Carried q s (endSession how s) := by
  cases hopen : s.enc.session with
  | none =>
    rw [endSession_of_closed how hopen]
    exact .refl q s
  | some i =>
    rw [endSession_eq hopen]
    have hclosed : Carried q s (withClosedEnc how i s) :=
      Carried.trans (.of_frame (setEnc_frame _ s)) (.of_frame (raiseEvent_frame _ _ _ _))
    exact (hclosed.trans (sessionClosed_carried q hawake)).trans (.of_frame (search_frame _))

theorem sessionMoved_carried {s : State} (q : Row) (hawake : s.osc.state ≠ .dormant) : Carried q s (sessionMoved s) :=
  .ite (fun _ => endSession_carried _ q hawake) fun _ => .refl q s

theorem sessionTrailerLost_carried {s : State} (q : Row) (hawake : s.osc.state ≠ .dormant) : Carried q s (sessionTrailerLost s) :=
  .ite (fun _ => endSession_carried _ q hawake) fun _ => .refl q s

/-- A re-evaluation judges the rows of its scope, and leaves the others. -/
theorem reevaluate_carried {rows : List Row} (s : State) (hnodup : rows.Nodup) (hclosed : ∀ r ∈ rows, partner r ∈ rows) (q : Row) :
    (q ∉ rows → (reevaluate rows s).wheel q = s.wheel q)
      ∧ (q ∈ rows → s.osc.state = .active ∨ s.osc.state = .parkWatch →
        CarriedJudged (limitsOf s q) (groupOf s q).temp.hyst q s (reevaluate rows s))
      ∧ SameReading (s.wheel q) ((reevaluate rows s).wheel q) := by
  have h := reevaluate_reevaluated s hnodup hclosed
  have ht := reevaluate_tells rows s
  generalize reevaluate rows s = u at h ht ⊢
  have hreading := h.reading q
  refine ⟨fun hq => h.kept fun hboth => hq hboth.1, fun hq hstate => ⟨ht.frame, ht.rows q, fun hv => by rwa [hreading.status] at hv,
    fun halive => ?_⟩, hreading⟩
  have hwas : Alive (s.wheel q) := by rwa [Alive, hreading.status] at halive
  have hre : reevaluated s q = true := (reevaluated_iff s q).2 ⟨hwas, hstate⟩
  refine ⟨hwas, hreading.pc, hreading.pg, fun hpc hpg => h.lowCrit q hq hre ?_, fun c hc => h.counters q hq hre c hc⟩
  simp [holdsValues, hpc, hpg]

end Sys2Proof.Machine
end

section
/-! A lift axle raised or lowered, row by row (R97, R98): rows of other axles untouched, its own cleared or judged anew. -/

namespace Sys2Proof.Machine

set_option Elab.async false

/-! ### One row at a time -/

/-- What each step of a pass over rows keeps, the row's own step turns into `Q`, and every step keeps from then on. -/
theorem forRows_establishes {f : Row → State → State} {q : Row} {P Q : WheelRecord → Prop}
    (hkeeps : ∀ r s, P (s.wheel q) → P ((f r s).wheel q)) (hself : ∀ s, P (s.wheel q) → Q ((f q s).wheel q))
    (hafter : ∀ r s, Q (s.wheel q) → Q ((f r s).wheel q)) {rows : List Row} (hq : q ∈ rows) {s : State} (hs : P (s.wheel q)) :
    Q ((forRows f rows s).wheel q) := by
  have hlater : ∀ (l : List Row) (t : State), Q (t.wheel q) → Q ((forRows f l t).wheel q) := by
    intro l
    induction l with
    | nil => exact fun _ h => h
    | cons r l ih => exact fun t h => ih (f r t) (hafter r t h)
  induction rows generalizing s with
  | nil => exact absurd hq List.not_mem_nil
  | cons r rows ih =>
    rw [forRows_cons]
    rcases List.mem_cons.1 hq with rfl | hmem
    · exact hlater rows _ (hself s hs)
    · exact ih hmem (hkeeps r s hs)

theorem forRows_keepsRow {f : Row → State → State} {q : Row} {P : WheelRecord → Prop}
    (hkeeps : ∀ r s, P (s.wheel q) → P ((f r s).wheel q)) (rows : List Row) {s : State} (hs : P (s.wheel q)) : P ((forRows f rows s).wheel q) := by
  induction rows generalizing s with
  | nil => exact hs
  | cons r rows ih => exact ih (hkeeps r s hs)

/-- A row that no step of a pass touches. -/
theorem forRows_untouched {f : Row → State → State} {q : Row} {rows : List Row} (h : ∀ r ∈ rows, ∀ s, (f r s).wheel q = s.wheel q) (s : State) :
    (forRows f rows s).wheel q = s.wheel q := by
  induction rows generalizing s with
  | nil => rfl
  | cons r rows ih =>
    exact (ih (fun x hx => h x (List.mem_cons_of_mem _ hx)) (f r s)).trans (h r List.mem_cons_self s)

/-! ### What the steps of a raise do to a record -/

/-- A record judged, whose LOW_CRIT and counters at 0 are spared. -/
structure Spared (w v : WheelRecord) : Prop where
  rejudged : Rejudged w v
  lowCrit : hasCond v.active .lowCrit = hasCond w.active .lowCrit
  counters : ∀ c : Condition, w.counters[c.code] = 0 → v.counters[c.code] = 0

theorem Spared.refl (w : WheelRecord) : Spared w w := ⟨rfl, rfl, fun _ h => h⟩

theorem Spared.trans {w v x : WheelRecord} (h : Spared w v) (k : Spared v x) : Spared w x :=
  ⟨h.rejudged.trans k.rejudged, k.lowCrit.trans h.lowCrit, fun c hc => k.counters c (h.counters c hc)⟩

theorem Spared.live {w v : WheelRecord} (h : Spared w v) : LiveKept w v := fun halive =>
  ⟨by rwa [Alive, h.rejudged.status] at halive, h.rejudged.pc, h.rejudged.pg, h.lowCrit, fun c _ => h.counters c⟩

theorem Spared.withCond {c : Condition} (h : c ≠ .lowCrit) (on : Bool) (w : WheelRecord) :
    Spared w { w with active := withCond w.active c on, counters := w.counters.set c.code 0 } := by
  refine ⟨rfl, by rw [hasCond_withCond, if_neg h.symm], fun d hd => ?_⟩
  by_cases hdc : d = c
  · subst hdc
    exact Vector.getElem_set_self d.code.isLt
  · exact (counters_set_other hdc w).trans hd

theorem Spared.zeroed (c : Condition) (w : WheelRecord) : Spared w { w with counters := w.counters.set c.code 0 } := by
  refine ⟨rfl, rfl, fun d hd => ?_⟩
  by_cases hdc : d = c
  · subst hdc
    exact Vector.getElem_set_self d.code.isLt
  · exact (counters_set_other hdc w).trans hd

theorem setCondition_spares {c : Condition} (h : c ≠ .lowCrit) (r q : Row) (on : Bool) (s : State) :
    Spared (s.wheel q) ((setCondition r c on s).wheel q) := by
  rw [setCondition_wheel]
  split
  · next hq => exact hq ▸ .withCond h on _
  · exact .refl _

theorem clearIfActive_spares {c : Condition} (h : c ≠ .lowCrit) (r q : Row) (s : State) :
    Spared (s.wheel q) ((clearIfActive r c s).wheel q) := by
  unfold clearIfActive
  split
  · exact setCondition_spares h r q false s
  · exact .refl _

theorem raiseWheel_spares (r q : Row) (s : State) : Spared (s.wheel q) ((raiseWheel r s).wheel q) :=
  (clearIfActive_spares (by decide) r q s).trans (clearIfActive_spares (by decide) r q _)

theorem raisePair_spares (r q : Row) (s : State) : Spared (s.wheel q) ((raisePair r s).wheel q) := by
  unfold raisePair
  split
  · exact (setCondition_spares (by decide) _ q false s).trans (setCondition_spares (by decide) _ q false _)
  · exact .refl _

/-- LOW_WARN and LEAK gone. -/
abbrev WheelRaised (w : WheelRecord) : Prop := hasCond w.active .lowWarn = false ∧ hasCond w.active .leak = false

/-- IMBALANCE gone too. -/
abbrev PairRaised (w : WheelRecord) : Prop := WheelRaised w ∧ hasCond w.active .imbalance = false

/-- The counters at 0 and the trend empty. -/
abbrev RestRaised (w : WheelRecord) : Prop :=
  (∀ c ∈ [Condition.lowWarn, .leak, .imbalance], condOf w c = (false, 0)) ∧ w.ring = [] ∧ w.leakRate = none

theorem raiseWheel_self (q : Row) (s : State) : WheelRaised ((raiseWheel q s).wheel q) := by
  have hfirst := (clearIfActive_cleared q .lowWarn s).active
  have hsecond := (clearIfActive_cleared q .leak (clearIfActive q .lowWarn s)).active
  unfold WheelRaised raiseWheel
  rw [hsecond, hfirst]
  simp

theorem raiseWheel_keeps {q : Row} (r : Row) {s : State} (h : WheelRaised (s.wheel q)) : WheelRaised ((raiseWheel r s).wheel q) := by
  by_cases hr : q = r
  · subst hr
    exact raiseWheel_self q s
  · rw [(raiseWheel_judging r s).outside q hr]
    exact h

theorem setImbalance_off_active (r q : Row) (s : State) {c : Condition} (h : hasCond (s.wheel q).active c = false) :
    hasCond ((setImbalance r false s).wheel q).active c = false := by
  rw [setImbalance_wheel]
  split
  · rw [hasCond_withCond]
    split
    · rfl
    · exact h
  · exact h

theorem raisePair_off {q : Row} (r : Row) {s : State} {c : Condition} (h : hasCond (s.wheel q).active c = false) :
    hasCond ((raisePair r s).wheel q).active c = false := by
  unfold raisePair
  split
  · exact setImbalance_off_active r q s h
  · exact h

theorem raisePair_self {q : Row} {s : State} (h : WheelRaised (s.wheel q)) : PairRaised ((raisePair q s).wheel q) := by
  refine ⟨⟨raisePair_off q h.1, raisePair_off q h.2⟩, ?_⟩
  unfold raisePair
  split
  · rw [setImbalance_wheel, if_pos (.inl rfl)]
    simp
  · next hno => exact Bool.not_eq_true _ ▸ hno

/-- What a change of the timing set leaves of the conditions but MISSING, and of an empty trend. -/
theorem retimeRow_conditions (before : State) (r q : Row) (s : State) :
    (∀ c : Condition, c ≠ .missing → condOf ((retimeRow before r s).wheel q) c = condOf (s.wheel q) c)
      ∧ ((s.wheel q).ring = [] → ((retimeRow before r s).wheel q).ring = [])
      ∧ ((s.wheel q).leakRate = none → ((retimeRow before r s).wheel q).leakRate = none) := by
  have hput : ∀ (t : State) (w : WheelRecord), w.active = (t.wheel r).active → w.counters = (t.wheel r).counters → w.ring = (t.wheel r).ring →
      w.leakRate = (t.wheel r).leakRate → (∀ c : Condition, c ≠ .missing → condOf ((putWheel r w t).wheel q) c = condOf (t.wheel q) c)
        ∧ ((t.wheel q).ring = [] → ((putWheel r w t).wheel q).ring = [])
        ∧ ((t.wheel q).leakRate = none → ((putWheel r w t).wheel q).leakRate = none) := by
    intro t w hactive hcounters hring hrate
    rw [putWheel_wheel]
    split
    · next hq =>
      subst hq
      exact ⟨fun c _ => by unfold condOf; rw [hactive, hcounters], fun h => hring.trans h, fun h => hrate.trans h⟩
    · exact ⟨fun _ _ => rfl, id, id⟩
  have hmissing : ∀ t : State, (∀ c : Condition, c ≠ .missing → condOf ((goMissing r t).wheel q) c = condOf (t.wheel q) c)
        ∧ ((t.wheel q).ring = [] → ((goMissing r t).wheel q).ring = [])
        ∧ ((t.wheel q).leakRate = none → ((goMissing r t).wheel q).leakRate = none) := by
    intro t
    obtain ⟨d, hd⟩ := goMissing_wheel r t
    rw [hd]
    split
    · next hq =>
      subst hq
      refine ⟨fun c hc => Prod.ext ?_ (counters_set_other hc _), fun _ => rfl, fun _ => rfl⟩
      show hasCond (addCond (t.wheel q).active .missing) c = hasCond (t.wheel q).active c
      rw [hasCond_addCond, decide_eq_false hc, Bool.or_false]
    · exact ⟨fun _ _ => rfl, id, id⟩
  unfold retimeRow
  dsimp only
  split
  · exact ⟨fun _ _ => rfl, id, id⟩
  · split
    · exact hput s _ rfl rfl rfl rfl
    · obtain ⟨hc₁, hring₁, hrate₁⟩ := hput s (withDeadlines s r ((s.wheel r).base.getD s.now) (s.wheel r)) rfl rfl rfl rfl
      generalize putWheel r (withDeadlines s r ((s.wheel r).base.getD s.now) (s.wheel r)) s = t at *
      have hstale : (∀ c : Condition, c ≠ .missing →
            condOf ((if due t (t.wheel r).staleAt = true then goStale r t else t).wheel q) c = condOf (t.wheel q) c)
          ∧ ((t.wheel q).ring = [] → ((if due t (t.wheel r).staleAt = true then goStale r t else t).wheel q).ring = [])
          ∧ ((t.wheel q).leakRate = none → ((if due t (t.wheel r).staleAt = true then goStale r t else t).wheel q).leakRate = none) := by
        split
        · exact hput t _ rfl rfl rfl rfl
        · exact ⟨fun _ _ => rfl, id, id⟩
      obtain ⟨hc₂, hring₂, hrate₂⟩ := hstale
      generalize (if due t (t.wheel r).staleAt = true then goStale r t else t) = u at *
      split
      · obtain ⟨hc₃, hring₃, hrate₃⟩ := hmissing u
        exact ⟨fun c hc => (hc₃ c hc).trans ((hc₂ c hc).trans (hc₁ c hc)), fun h => hring₃ (hring₂ (hring₁ h)),
          fun h => hrate₃ (hrate₂ (hrate₁ h))⟩
      · exact ⟨fun c hc => (hc₂ c hc).trans (hc₁ c hc), fun h => hring₂ (hring₁ h), fun h => hrate₂ (hrate₁ h)⟩

end Sys2Proof.Machine
end

section
/-! The rows of an axle raised or lowered (R97, R98), and all axles one after the other. -/

namespace Sys2Proof.Machine

set_option Elab.async false

/-! ### Deadlines carried, and retimed once -/

/-- The same status and deadlines. -/
abbrev SameTiming (w v : WheelRecord) : Prop := v.status = w.status ∧ v.base = w.base ∧ v.staleAt = w.staleAt ∧ v.missingAt = w.missingAt

theorem SameTiming.refl (w : WheelRecord) : SameTiming w w := ⟨rfl, rfl, rfl, rfl⟩

theorem SameTiming.trans {w v x : WheelRecord} (h : SameTiming w v) (k : SameTiming v x) : SameTiming w x := by
  obtain ⟨h₁, h₂, h₃, h₄⟩ := h
  obtain ⟨k₁, k₂, k₃, k₄⟩ := k
  exact ⟨k₁.trans h₁, k₂.trans h₂, k₃.trans h₃, k₄.trans h₄⟩

theorem SameReading.timing {w v : WheelRecord} (h : SameReading w v) : SameTiming w v := by
  unfold SameReading at h
  rw [h]
  exact ⟨rfl, rfl, rfl, rfl⟩

/-- A record whose deadlines follow a change of the timing set once, among work that leaves them. -/
def TimedOnce (c : State) (q : Row) (wasMoving : Bool) (w v : WheelRecord) : Prop :=
  ∃ w₁ w₂, SameTiming w w₁ ∧ TimedAs c q wasMoving w₁ w₂ ∧ SameTiming w₂ v

theorem TimedOnce.before {c : State} {q : Row} {was : Bool} {x w v : WheelRecord} (h : SameTiming x w) (k : TimedOnce c q was w v) :
    TimedOnce c q was x v := by
  obtain ⟨w₁, w₂, h₁, h₂, h₃⟩ := k
  exact ⟨w₁, w₂, h.trans h₁, h₂, h₃⟩

theorem TimedOnce.after {c : State} {q : Row} {was : Bool} {w v x : WheelRecord} (h : TimedOnce c q was w v) (k : SameTiming v x) :
    TimedOnce c q was w x := by
  obtain ⟨w₁, w₂, h₁, h₂, h₃⟩ := h
  exact ⟨w₁, w₂, h₁, h₂, h₃.trans k⟩

/-! ### The rest of a raise: counters, trend, deadlines -/

/-- The record before the deadlines of a raised row are moved. -/
def restRecord (w : WheelRecord) : WheelRecord :=
  { w with
    counters := ((w.counters.set Condition.lowWarn.code 0).set Condition.leak.code 0).set Condition.imbalance.code 0
    ring := [], leakRate := none }

/-- The state in which the deadlines of a raised row are moved. -/
def restPut (r : Row) (s : State) : State :=
  let t := setCounter r .imbalance 0 (setCounter r .leak 0 (setCounter r .lowWarn 0 s))
  putWheel r { t.wheel r with ring := [], leakRate := none } t

theorem raiseRest_eq (before : State) (r : Row) (s : State) : raiseRest before r s = retimeRow before r (restPut r s) := rfl

theorem restPut_wheel (r q : Row) (s : State) : (restPut r s).wheel q = if q = r then restRecord (s.wheel r) else s.wheel q := by
  unfold restPut
  dsimp only
  rw [putWheel_wheel]
  split
  · simp only [setCounter_wheel, if_true, restRecord]
  · next hq => rw [setCounter_wheel, if_neg hq, setCounter_wheel, if_neg hq, setCounter_wheel, if_neg hq]

theorem restPut_frame (r : Row) (s : State) : Frame [.wheels] s (restPut r s) :=
  (((setCounter_frame r .lowWarn 0 s).trans (setCounter_frame r .leak 0 _)).trans (setCounter_frame r .imbalance 0 _)).trans
    (putWheel_frame r _ _)

theorem restRecord_live (w : WheelRecord) : LiveKept w (restRecord w) := by
  have hspared := ((Spared.zeroed .lowWarn w).trans (.zeroed .leak _)).trans (.zeroed .imbalance _)
  exact hspared.live.trans (.of_eq rfl rfl rfl rfl rfl)

theorem restRecord_counters (w : WheelRecord) :
    ∀ c ∈ [Condition.lowWarn, .leak, .imbalance], (restRecord w).counters[c.code] = 0 := by
  intro c hc
  have h₁ : ((w.counters.set Condition.lowWarn.code 0).set Condition.leak.code 0)[Condition.lowWarn.code] = 0 := by
    refine (counters_set_other (n := 0) (show Condition.lowWarn ≠ .leak by decide) { w with counters := w.counters.set Condition.lowWarn.code 0 }).trans ?_
    exact Vector.getElem_set_self Condition.lowWarn.code.isLt
  have hleak : ((w.counters.set Condition.lowWarn.code 0).set Condition.leak.code 0)[Condition.leak.code] = 0 :=
    Vector.getElem_set_self Condition.leak.code.isLt
  have hothers : ∀ d : Condition, d ≠ .imbalance → (restRecord w).counters[d.code]
      = ((w.counters.set Condition.lowWarn.code 0).set Condition.leak.code 0)[d.code] := fun d hd =>
    counters_set_other (n := 0) hd { w with counters := (w.counters.set Condition.lowWarn.code 0).set Condition.leak.code 0 }
  simp only [List.mem_cons, List.not_mem_nil, or_false] at hc
  rcases hc with rfl | rfl | rfl
  · exact (hothers _ (by decide)).trans h₁
  · exact (hothers _ (by decide)).trans hleak
  · exact Vector.getElem_set_self Condition.imbalance.code.isLt

theorem raiseRest_other (before : State) {r q : Row} (h : q ≠ r) (s : State) : (raiseRest before r s).wheel q = s.wheel q := by
  rw [raiseRest_eq, retimeRow_other before h, restPut_wheel, if_neg h]

theorem condOf_eq_iff {w : WheelRecord} {c : Condition} : condOf w c = (false, 0) ↔ hasCond w.active c = false ∧ w.counters[c.code] = 0 :=
  Prod.mk.injEq _ _ _ _ ▸ Iff.rfl

theorem raiseRest_self (before : State) {q : Row} {s : State} (h : PairRaised (s.wheel q)) : RestRaised ((raiseRest before q s).wheel q) := by
  have hput : (restPut q s).wheel q = restRecord (s.wheel q) := by rw [restPut_wheel, if_pos rfl]
  obtain ⟨hcond, hring, hrate⟩ := retimeRow_conditions before q q (restPut q s)
  rw [hput] at hcond hring hrate
  obtain ⟨⟨hlow, hleak⟩, himb⟩ := h
  have hzero := restRecord_counters (s.wheel q)
  refine ⟨fun c hc => ?_, hring rfl, hrate rfl⟩
  have hc' := hc
  simp only [List.mem_cons, List.not_mem_nil, or_false] at hc'
  have hbit : hasCond (restRecord (s.wheel q)).active c = false := by rcases hc' with rfl | rfl | rfl <;> assumption
  rw [raiseRest_eq, hcond c (by rcases hc' with rfl | rfl | rfl <;> decide), condOf_eq_iff]
  exact ⟨hbit, hzero c hc⟩

theorem raiseRest_keeps (before : State) {q : Row} (r : Row) {s : State} (h : RestRaised (s.wheel q)) :
    RestRaised ((raiseRest before r s).wheel q) := by
  by_cases hr : q = r
  · subst hr
    obtain ⟨hall, -, -⟩ := h
    have hbit : ∀ c ∈ [Condition.lowWarn, .leak, .imbalance], hasCond (s.wheel q).active c = false := fun c hc => (condOf_eq_iff.1 (hall c hc)).1
    exact raiseRest_self before ⟨⟨hbit _ (by simp), hbit _ (by simp)⟩, hbit _ (by simp)⟩
  · rw [raiseRest_other before hr]
    exact h

theorem raiseRest_keepsPair (before : State) {q : Row} (r : Row) {s : State} (h : PairRaised (s.wheel q)) :
    PairRaised ((raiseRest before r s).wheel q) := by
  by_cases hr : q = r
  · subst hr
    obtain ⟨hall, -, -⟩ := raiseRest_self before h
    have hbit : ∀ c ∈ [Condition.lowWarn, .leak, .imbalance], hasCond ((raiseRest before q s).wheel q).active c = false := fun c hc =>
      (condOf_eq_iff.1 (hall c hc)).1
    exact ⟨⟨hbit _ (by simp), hbit _ (by simp)⟩, hbit _ (by simp)⟩
  · rw [raiseRest_other before hr]
    exact h

theorem raiseRest_live (before : State) (r q : Row) (s : State) : LiveKept (s.wheel q) ((raiseRest before r s).wheel q) := by
  by_cases hr : q = r
  · subst hr
    have hput : (restPut q s).wheel q = restRecord (s.wheel q) := by rw [restPut_wheel, if_pos rfl]
    rw [raiseRest_eq]
    exact (restRecord_live _).trans (hput ▸ (retimeRow_carried before q q (restPut q s)).live)
  · rw [raiseRest_other before hr]
    exact .refl _

theorem raiseRest_timed {before c s : State} {q : Row} (h : RetimedFrom c s) (hactive : c.osc.state = .active)
    (hholds : holdsMissing (s.wheel q).status = true) :
    TimedOnce c q (usesMoving before q) (s.wheel q) ((raiseRest before q s).wheel q) := by
  have hput : (restPut q s).wheel q = restRecord (s.wheel q) := by rw [restPut_wheel, if_pos rfl]
  have hf := restPut_frame q s
  have hstate : (restPut q s).osc = s.osc := hf.osc
  have hfrom : RetimedFrom c (restPut q s) := ⟨h.frame.trans (hf.mono (by decide)), by rw [hstate, h.osc_state]⟩
  have htimed := retimeRow_timed (before := before) (s := restPut q s) (r := q) (hfrom.osc_state.trans hactive) (by rw [hput]; exact hholds)
  rw [hput] at htimed
  exact ⟨restRecord (s.wheel q), _, ⟨rfl, rfl, rfl, rfl⟩, timedAs_congr hfrom htimed, .refl _⟩

/-! ### The rows of an axle raised -/

/-- The rows that a raise works on. -/
abbrev inUse (rows : List Row) (s : State) : List Row := rows.filter fun r => decide ((s.wheel r).status ≠ .vacant)

theorem raiseRows_eq (before : State) (rows : List Row) (s : State) : raiseRows before rows s =
    forRows reannounce (inUse rows s) (forRows (raiseRest before) (inUse rows s)
      (forRows raisePair (inUse rows s) (forRows raiseWheel (inUse rows s) s))) := rfl

theorem reannounce_rows_reannounced (rows : List Row) (q : Row) (s : State) : Reannounced (s.wheel q) ((forRows reannounce rows s).wheel q) := by
  induction rows generalizing s with
  | nil => rfl
  | cons r rows ih =>
    have hone := reannounce_reannounced r q s
    have hlater := ih (reannounce r s)
    rw [forRows_cons]
    unfold Reannounced at hone hlater ⊢
    rw [hlater, hone]

theorem Reannounced.live {w v : WheelRecord} (h : Reannounced w v) : LiveKept w v :=
  .of_eq h.reading.status h.reading.pc h.reading.pg h.active h.counters

section
variable {before s : State} {rows : List Row} {q : Row}

theorem raiseRows_raisedUp (hq : q ∈ rows) (hin : (s.wheel q).status ≠ .vacant) : RaisedUp (raiseRows before rows s) q := by
  have hmem : q ∈ inUse rows s := List.mem_filter.2 ⟨hq, decide_eq_true hin⟩
  rw [raiseRows_eq]
  have hwheel : WheelRaised ((forRows raiseWheel (inUse rows s) s).wheel q) :=
    forRows_establishes (P := fun _ => True) (fun _ _ _ => trivial) (fun t _ => raiseWheel_self q t) (fun r t h => raiseWheel_keeps r h) hmem trivial
  generalize forRows raiseWheel (inUse rows s) s = t₁ at hwheel
  have hpair : PairRaised ((forRows raisePair (inUse rows s) t₁).wheel q) :=
    forRows_establishes (P := WheelRaised) (fun r t h => ⟨raisePair_off r h.1, raisePair_off r h.2⟩) (fun t h => raisePair_self h)
      (fun r t h => ⟨⟨raisePair_off r h.1.1, raisePair_off r h.1.2⟩, raisePair_off r h.2⟩) hmem hwheel
  generalize forRows raisePair (inUse rows s) t₁ = t₂ at hpair
  have hrest : RestRaised ((forRows (raiseRest before) (inUse rows s) t₂).wheel q) :=
    forRows_establishes (P := PairRaised) (fun r t h => raiseRest_keepsPair before r h) (fun t h => raiseRest_self before h)
      (fun r t h => raiseRest_keeps before r h) hmem hpair
  generalize forRows (raiseRest before) (inUse rows s) t₂ = t₃ at hrest
  have hlast := reannounce_rows_reannounced (inUse rows s) q t₃
  obtain ⟨hcond, hring, hrate⟩ := hrest
  unfold RaisedUp condOf
  rw [hlast]
  exact ⟨hcond, hring, hrate⟩

theorem raiseRows_live : LiveKept (s.wheel q) ((raiseRows before rows s).wheel q) := by
  rw [raiseRows_eq]
  have hwheel : LiveKept (s.wheel q) ((forRows raiseWheel (inUse rows s) s).wheel q) :=
    forRows_keepsRow (P := LiveKept (s.wheel q)) (fun r t h => h.trans (raiseWheel_spares r q t).live) _ (.refl _)
  have hpair : LiveKept (s.wheel q) ((forRows raisePair (inUse rows s) (forRows raiseWheel (inUse rows s) s)).wheel q) :=
    forRows_keepsRow (P := LiveKept (s.wheel q)) (fun r t h => h.trans (raisePair_spares r q t).live) _ hwheel
  have hrest := forRows_keepsRow (P := LiveKept (s.wheel q)) (f := raiseRest before)
    (fun r t h => h.trans (raiseRest_live before r q t)) (inUse rows s) hpair
  exact hrest.trans (reannounce_rows_reannounced _ q _).live

theorem raiseRows_timed (hactive : s.osc.state = .active) (hholds : holdsMissing (s.wheel q).status = true) (hnodup : rows.Nodup) (hq : q ∈ rows) :
    TimedOnce s q (usesMoving before q) (s.wheel q) ((raiseRows before rows s).wheel q) := by
  have hmem : q ∈ inUse rows s := List.mem_filter.2 ⟨hq, decide_eq_true (holdsMissing_not_vacant hholds)⟩
  rw [raiseRows_eq]
  generalize hrows : inUse rows s = l at hmem
  have hnodup' : l.Nodup := hrows ▸ hnodup.filter _
  have hspared : Spared (s.wheel q) ((forRows raisePair l (forRows raiseWheel l s)).wheel q) := by
    have hwheel : Spared (s.wheel q) ((forRows raiseWheel l s).wheel q) :=
      forRows_keepsRow (P := Spared (s.wheel q)) (fun r t h => h.trans (raiseWheel_spares r q t)) l (.refl _)
    exact forRows_keepsRow (P := Spared (s.wheel q)) (fun r t h => h.trans (raisePair_spares r q t)) l hwheel
  have hwork : WheelWork s (forRows raisePair l (forRows raiseWheel l s)) :=
    (WheelWork.forRows _ raiseWheel_work l s).trans (.forRows _ raisePair_work l _)
  have hframe : Frame wheelFields s (forRows raisePair l (forRows raiseWheel l s)) :=
    (Frame.forRows _ (fun r t => raiseWheel_frame r t) l s).trans (.forRows _ (fun r t => raisePair_frame r t) l _) |>.mono (by decide)
  generalize forRows raisePair l (forRows raiseWheel l s) = c at hspared hwork hframe
  have hfrom : RetimedFrom s c := ⟨hframe, hwork.osc_state⟩
  have hstatus := hspared.rejudged.status
  have hrest : TimedOnce s q (usesMoving before q) (c.wheel q) ((forRows (raiseRest before) l c).wheel q) := by
    refine forRows_wheel (P := RetimedFrom s) (f := raiseRest before) (Q := TimedOnce s q (usesMoving before q) (c.wheel q))
      (fun r p t hp => raiseRest_other before hp t) (fun r t ht => ⟨ht.frame.trans (raiseRest_frame before r t), ?_⟩) (fun t ht hw => ?_)
      hnodup' hmem hfrom rfl
    · exact (raiseRest_work before r t).osc_state.trans ht.osc_state
    · have htimed := raiseRest_timed (before := before) ht hactive (q := q) (by rw [hw, hstatus]; exact hholds)
      rwa [hw] at htimed
  have hreading := (reannounce_rows_reannounced l q (forRows (raiseRest before) l c)).reading.timing
  exact (hrest.after hreading).before hspared.rejudged.reading.timing

end

end Sys2Proof.Machine
end

section
/-! All axles after a change of the lift mask, seen from one row (R97, R98). -/

namespace Sys2Proof.Machine

set_option Elab.async false

/-! ### A row of another axle -/

theorem raiseRows_other (before : State) {rows : List Row} {q : Row} (hq : q ∉ rows) (hclosed : ∀ r ∈ rows, partner r ∈ rows) (s : State) :
    (raiseRows before rows s).wheel q = s.wheel q := by
  have hin : ∀ r ∈ inUse rows s, r ∈ rows := fun r hr => (List.mem_filter.1 hr).1
  have hne : ∀ r ∈ inUse rows s, q ≠ r := fun r hr h => hq (h ▸ hin r hr)
  have hpair : ∀ r ∈ inUse rows s, ∀ t, (raisePair r t).wheel q = t.wheel q := fun r hr t => by
    unfold raisePair
    split
    · rw [setImbalance_wheel, if_neg]
      rintro (h | h)
      · exact hne r hr h
      · exact hq (h ▸ hclosed r (hin r hr))
    · rfl
  rw [raiseRows_eq, forRows_untouched fun r hr t => reannounce_other (hne r hr) t,
    forRows_untouched fun r hr t => raiseRest_other before (hne r hr) t, forRows_untouched hpair,
    forRows_untouched fun r hr t => (raiseWheel_judging r t).outside q (hne r hr)]

theorem lowerRows_other (before : State) {rows : List Row} {q : Row} (hq : q ∉ rows) (hnodup : rows.Nodup)
    (hclosed : ∀ r ∈ rows, partner r ∈ rows) (s : State) : (lowerRows before rows s).wheel q = s.wheel q := by
  obtain ⟨hkept, -⟩ := reevaluate_carried s hnodup hclosed q
  have hretimed : ∀ r ∈ rows, ∀ t, (retimeRow before r t).wheel q = t.wheel q := fun r hr t =>
    retimeRow_other before (fun h : q = r => hq (h ▸ hr)) t
  exact (forRows_untouched hretimed _).trans (hkept hq)

theorem liftAxle_other (before : State) {a : AxleNo} {q : Row} (h : rowAxle q ≠ a) (s : State) : (liftAxle before a s).wheel q = s.wheel q := by
  have hq : q ∉ axleRows a := fun hmem => h ((mem_axleRows a q).1 hmem)
  have hclosed : ∀ r ∈ axleRows a, partner r ∈ axleRows a := fun _ => partner_axleRows
  unfold liftAxle
  split
  · rfl
  · split
    · exact raiseRows_other before hq hclosed s
    · exact lowerRows_other before hq (axleRows_nodup a) hclosed s

/-! ### A row of the axle itself -/

/-- What a change of the lift mask makes of a row: kept, raised or lowered as its axle is, with its deadlines following once. -/
structure Lifted (before s : State) (q : Row) (u : State) : Prop where
  kept : raisedRow before q = raisedRow s q → u.wheel q = s.wheel q
  raised : raisedRow before q = false → raisedRow s q = true → (s.wheel q).status ≠ .vacant → RaisedUp u q
  live : ¬ (raisedRow before q = true ∧ raisedRow s q = false) → LiveKept (s.wheel q) (u.wheel q)
  judged : raisedRow before q = true → raisedRow s q = false → s.osc.state = .active ∨ s.osc.state = .parkWatch →
    LiveJudged (limitsOf s q) (groupOf s q).temp.hyst (s.wheel q) (u.wheel q)
  timed : s.osc.state = .active → holdsMissing (s.wheel q).status = true →
    TimedOnce s q (usesMoving before q) (s.wheel q) (u.wheel q) ∨ u.wheel q = s.wheel q ∧ raisedRow before q = raisedRow s q
  still : usesMoving before q = usesMoving s q → SameTiming (s.wheel q) (u.wheel q)

/-- A row that keeps its timing set keeps its deadlines. -/
theorem retimeRow_still {before c s : State} {q : Row} (hf : Frame wheelFields c s) (h : usesMoving before q = usesMoving c q) (r : Row) :
    (retimeRow before r s).wheel q = s.wheel q := by
  by_cases hr : q = r
  · subst hr
    rw [retimeRow_of_same (h.trans (hf.usesMoving (r := q)).symm)]
  · exact retimeRow_other before hr s

theorem raiseRest_still {before c s : State} {q : Row} (hf : Frame wheelFields c s) (h : usesMoving before q = usesMoving c q) (r : Row) :
    SameTiming (s.wheel q) ((raiseRest before r s).wheel q) := by
  rw [raiseRest_eq, retimeRow_still (hf.trans ((restPut_frame r s).mono (by decide))) h, restPut_wheel]
  split
  · next hr => exact hr ▸ ⟨rfl, rfl, rfl, rfl⟩
  · exact .refl _

theorem raiseRows_still {before s : State} {q : Row} (h : usesMoving before q = usesMoving s q) (rows : List Row) :
    SameTiming (s.wheel q) ((raiseRows before rows s).wheel q) := by
  rw [raiseRows_eq]
  have hframe : Frame wheelFields s (forRows raisePair (inUse rows s) (forRows raiseWheel (inUse rows s) s)) :=
    (Frame.forRows _ (fun r t => raiseWheel_frame r t) _ s).trans (.forRows _ (fun r t => raisePair_frame r t) _ _) |>.mono (by decide)
  have hspared : Spared (s.wheel q) ((forRows raisePair (inUse rows s) (forRows raiseWheel (inUse rows s) s)).wheel q) :=
    forRows_keepsRow (P := Spared (s.wheel q)) (fun r t h => h.trans (raisePair_spares r q t)) _
      (forRows_keepsRow (P := Spared (s.wheel q)) (fun r t h => h.trans (raiseWheel_spares r q t)) _ (.refl _))
  generalize forRows raisePair (inUse rows s) (forRows raiseWheel (inUse rows s) s) = c at hframe hspared
  have hrest : Frame wheelFields s (forRows (raiseRest before) (inUse rows s) c)
      ∧ SameTiming (s.wheel q) ((forRows (raiseRest before) (inUse rows s) c).wheel q) :=
    forRows_keeps (P := fun t => Frame wheelFields s t ∧ SameTiming (s.wheel q) (t.wheel q))
      (fun r _ t ht => ⟨ht.1.trans (raiseRest_frame before r t), ht.2.trans (raiseRest_still ht.1 h r)⟩) ⟨hframe, hspared.rejudged.reading.timing⟩
  exact hrest.2.trans (reannounce_rows_reannounced _ q _).reading.timing

theorem lowerRows_still {before s : State} {q : Row} (h : usesMoving before q = usesMoving s q) {rows : List Row} (hnodup : rows.Nodup)
    (hclosed : ∀ r ∈ rows, partner r ∈ rows) : SameTiming (s.wheel q) ((lowerRows before rows s).wheel q) := by
  obtain ⟨-, -, hreading⟩ := reevaluate_carried s hnodup hclosed q
  have hretimed : Frame wheelFields s (lowerRows before rows s)
      ∧ SameTiming (s.wheel q) ((lowerRows before rows s).wheel q) :=
    forRows_keeps (P := fun t => Frame wheelFields s t ∧ SameTiming (s.wheel q) (t.wheel q))
      (fun r _ t ht => ⟨ht.1.trans (retimeRow_frame before r t), by rw [retimeRow_still ht.1 h]; exact ht.2⟩)
      ⟨reevaluate_frame rows s, hreading.timing⟩
  exact hretimed.2

theorem lowerRows_judged (before : State) {rows : List Row} {q : Row} (hq : q ∈ rows) (hnodup : rows.Nodup)
    (hclosed : ∀ r ∈ rows, partner r ∈ rows) {s : State} (hstate : s.osc.state = .active ∨ s.osc.state = .parkWatch) :
    LiveJudged (limitsOf s q) (groupOf s q).temp.hyst (s.wheel q) ((lowerRows before rows s).wheel q) := by
  obtain ⟨-, hjudged, -⟩ := reevaluate_carried s hnodup hclosed q
  exact ((hjudged hq hstate).carried (.forRows (retimeRow_carried before q) rows _)).live

theorem lowerRows_timed (before : State) {rows : List Row} {q : Row} (hq : q ∈ rows) (hnodup : rows.Nodup)
    (hclosed : ∀ r ∈ rows, partner r ∈ rows) {s : State} (hactive : s.osc.state = .active) (hholds : holdsMissing (s.wheel q).status = true) :
    TimedOnce s q (usesMoving before q) (s.wheel q) ((lowerRows before rows s).wheel q) := by
  obtain ⟨-, -, hreading⟩ := reevaluate_carried s hnodup hclosed q
  have hfrom : RetimedFrom s (reevaluate rows s) := ⟨reevaluate_frame rows s, (reevaluate_work rows s).osc_state⟩
  have htimed := retimeRows_timed (before := before) (c := reevaluate rows s) (hfrom.osc_state.trans hactive)
    (by rw [hreading.status]; exact hholds) hnodup hq
  exact ⟨_, _, hreading.timing, timedAs_congr hfrom htimed, .refl _⟩

theorem liftAxle_lifted (before : State) (q : Row) (s : State) : Lifted before s q (liftAxle before (rowAxle q) s) := by
  have hq : q ∈ axleRows (rowAxle q) := (mem_axleRows _ q).2 rfl
  have hnodup := axleRows_nodup (rowAxle q)
  have hclosed : ∀ r ∈ axleRows (rowAxle q), partner r ∈ axleRows (rowAxle q) := fun _ => partner_axleRows
  unfold liftAxle
  by_cases hsame : raisedAxle before (rowAxle q) = raisedAxle s (rowAxle q)
  · rw [if_pos hsame]
    exact ⟨fun _ => rfl, fun hb hs _ => absurd (hb.symm.trans (Eq.trans hsame hs)) Bool.false_ne_true, fun _ => .refl _,
      fun hb hs => absurd (hs.symm.trans (Eq.trans (Eq.symm hsame) hb)) Bool.false_ne_true, fun _ _ => .inr ⟨rfl, hsame⟩, fun _ => .refl _⟩
  · rw [if_neg hsame]
    cases hraised : raisedAxle s (rowAxle q) with
    | true =>
      rw [if_pos rfl]
      exact ⟨fun h => absurd h hsame, fun _ _ hin => raiseRows_raisedUp hq hin, fun _ => raiseRows_live,
        fun _ hs => absurd (hs.symm.trans hraised) Bool.false_ne_true, fun hactive hholds => .inl (raiseRows_timed hactive hholds hnodup hq),
        fun h => raiseRows_still h _⟩
    | false =>
      rw [if_neg Bool.false_ne_true]
      have hb : raisedRow before q = true := by
        by_contra hno
        exact hsame ((Bool.not_eq_true _ ▸ hno).trans hraised.symm)
      exact ⟨fun h => absurd h hsame, fun _ hs => absurd (hraised.symm.trans hs) Bool.false_ne_true, fun h => absurd ⟨hb, hraised⟩ h,
        fun _ _ hstate => lowerRows_judged before hq hnodup hclosed hstate,
        fun hactive hholds => .inl (lowerRows_timed before hq hnodup hclosed hactive hholds),
        fun h => lowerRows_still h hnodup hclosed⟩

/-! ### All axles -/

theorem timedOnce_congr {c s : State} (h : RetimedFrom c s) {q : Row} {was : Bool} {w v : WheelRecord} (k : TimedOnce s q was w v) :
    TimedOnce c q was w v := by
  obtain ⟨w₁, w₂, hbefore, htimed, hafter⟩ := k
  exact ⟨w₁, w₂, hbefore, timedAs_congr h htimed, hafter⟩

theorem Lifted.congr {before c s t u : State} {q : Row} (h : Lifted before s q t) (hfrom : RetimedFrom c s) (hbefore : s.wheel q = c.wheel q)
    (hafter : u.wheel q = t.wheel q) : Lifted before c q u := by
  have hraised := hfrom.frame.raisedRow (r := q)
  have hlimits := hfrom.frame.limitsOf (r := q)
  have hgroup := hfrom.frame.groupOf (r := q)
  have hup : RaisedUp t q → RaisedUp u q := fun h => by
    unfold RaisedUp at h ⊢
    rwa [hafter]
  have huses := hfrom.frame.usesMoving (r := q)
  obtain ⟨hkept, hup', hlive, hjudged, htimed, hstill⟩ := h
  rw [hbefore] at hup' hlive hjudged htimed hkept hstill
  rw [hraised] at hup' hlive hjudged htimed hkept
  rw [huses] at hstill
  rw [hlimits, hgroup, hfrom.osc_state] at hjudged
  rw [hfrom.osc_state] at htimed
  refine ⟨fun h => hafter.trans (hkept h), fun hb hs hin => hup (hup' hb hs hin), ?_, ?_, fun hactive hholds => ?_, ?_⟩
  · rw [hafter]
    exact hlive
  · rw [hafter]
    exact hjudged
  · rw [hafter]
    exact (htimed hactive hholds).imp_left (timedOnce_congr hfrom)
  · rw [hafter]
    exact hstill

theorem liftAxles_other (before : State) {q : Row} {axles : List AxleNo} (h : rowAxle q ∉ axles) (s : State) :
    (axles.foldl (fun s a => liftAxle before a s) s).wheel q = s.wheel q := by
  induction axles generalizing s with
  | nil => rfl
  | cons a axles ih =>
    obtain ⟨hne, hnot⟩ := List.ne_and_not_mem_of_not_mem_cons h
    exact (ih hnot (liftAxle before a s)).trans (liftAxle_other before hne s)

theorem RetimedFrom.axle {c s : State} (h : RetimedFrom c s) (before : State) (a : AxleNo) : RetimedFrom c (liftAxle before a s) :=
  ⟨h.frame.trans (liftAxle_frame before a s), (liftAxle_work before a s).osc_state.trans h.osc_state⟩

theorem liftAxles_lifted (before : State) {q : Row} {axles : List AxleNo} (hnodup : axles.Nodup) (hq : rowAxle q ∈ axles) {c s : State}
    (hfrom : RetimedFrom c s) (hw : s.wheel q = c.wheel q) : Lifted before c q (axles.foldl (fun s a => liftAxle before a s) s) := by
  induction axles generalizing s with
  | nil => exact absurd hq List.not_mem_nil
  | cons a axles ih =>
    obtain ⟨hnot, hnodup'⟩ := List.nodup_cons.1 hnodup
    by_cases ha : rowAxle q = a
    · subst ha
      exact (liftAxle_lifted before q s).congr hfrom hw (liftAxles_other before hnot _)
    · have hmem : rowAxle q ∈ axles := (List.mem_cons.1 hq).resolve_left ha
      exact ih hnodup' hmem (hfrom.axle before a) ((liftAxle_other before ha s).trans hw)

/-- Each row after a change of the lift mask. -/
theorem liftChange_lifted (before : State) {s : State} (hstate : s.osc.state ≠ .offline) (q : Row) : Lifted before s q (liftChange before s) := by
  rw [liftChange, if_neg hstate]
  exact liftAxles_lifted before (List.nodup_finRange 8) (List.mem_finRange _) ⟨.refl _ s, rfl⟩ rfl

theorem liftChange_offline (before : State) {s : State} (hstate : s.osc.state = .offline) : liftChange before s = s := if_pos hstate

/-- A row whose axle is as it was. -/
theorem liftChange_kept {before s : State} {q : Row} (h : raisedRow before q = raisedRow s q) : (liftChange before s).wheel q = s.wheel q := by
  by_cases hstate : s.osc.state = .offline
  · rw [liftChange_offline before hstate]
  · exact (liftChange_lifted before hstate q).kept h

end Sys2Proof.Machine
end

section
/-! The stages of a vehicle data frame before the lift axles, each seen from one row (R83, R99, R115, R134 to R140). -/

namespace Sys2Proof.Machine

set_option Elab.async false

/-! ### The operating state and the session, stage by stage -/

/-- Work that moves the operating state at most to PARK_WATCH, where it ends a session. -/
structure Onward (s u : State) : Prop where
  state : u.osc.state = s.osc.state ∨ s.osc.state = .active ∧ u.osc.state = .parkWatch
  session : ∀ i, u.enc.session = some i → s.enc.session = some i ∧ u.osc.state = s.osc.state

/-- An open session stands in ACTIVE. -/
abbrev OpenInActive (s : State) : Prop := ∀ i, s.enc.session = some i → s.osc.state = .active

/-- The states in which wheels are judged. -/
abbrev Judges (s : State) : Prop := s.osc.state = .active ∨ s.osc.state = .parkWatch

section
variable {s t u : State}

theorem Onward.trans (h : Onward s t) (k : Onward t u) : Onward s u := by
  refine ⟨?_, fun i hi => ?_⟩
  · rcases h.state with hst | ⟨hs, ht⟩
    · rcases k.state with htu | ⟨ht, hu⟩
      · exact .inl (htu.trans hst)
      · exact .inr ⟨hst ▸ ht, hu⟩
    · rcases k.state with htu | ⟨htactive, -⟩
      · exact .inr ⟨hs, htu.trans ht⟩
      · rw [ht] at htactive
        cases htactive
  · obtain ⟨ht, htu⟩ := k.session i hi
    obtain ⟨hs, hst⟩ := h.session i ht
    exact ⟨hs, htu.trans hst⟩

theorem Onward.of_kept (hstate : u.osc.state = s.osc.state) (henc : u.enc.session = s.enc.session) : Onward s u :=
  ⟨.inl hstate, fun _ hi => ⟨henc ▸ hi, hstate⟩⟩

theorem Onward.of_frame {cs : List Field} (h : Frame cs s u) (hosc : Field.osc ∉ cs := by decide) (henc : Field.enc ∉ cs := by decide) :
    Onward s u := .of_kept (by rw [h.osc hosc]) (by rw [h.enc henc])

theorem Onward.of_work {cs : List Field} (hf : Frame cs s u) (hw : WheelWork s u) (henc : Field.enc ∉ cs := by decide) : Onward s u :=
  .of_kept hw.osc_state (by rw [hf.enc henc])

theorem Onward.openInActive (h : Onward s u) (hopen : OpenInActive s) : OpenInActive u := fun i hi => by
  obtain ⟨hs, hstate⟩ := h.session i hi
  exact hstate.trans (hopen i hs)

theorem Onward.active (h : Onward s u) (hu : u.osc.state = .active) : s.osc.state = .active := by
  rcases h.state with hsame | ⟨hs, -⟩
  · exact hsame ▸ hu
  · exact hs

theorem Onward.judges (h : Onward s u) (hu : Judges u) : Judges s := by
  rcases h.state with hsame | ⟨hs, -⟩
  · rwa [Judges, hsame] at hu
  · exact .inl hs

theorem Onward.offline (h : Onward s u) (hs : s.osc.state = .offline) : u.osc.state = .offline := by
  rcases h.state with hsame | ⟨hactive, -⟩
  · exact hsame.trans hs
  · rw [hs] at hactive
    cases hactive

end

/-- A session ended, as the operating state and the wheels see it. -/
theorem endSession_onward {s : State} (how : Ending) (hopen : OpenInActive s) :
    Onward s (endSession how s) ∧ ((endSession how s).osc.state = s.osc.state → (endSession how s).wheels = s.wheels) := by
  cases hi : s.enc.session with
  | none =>
    rw [endSession_of_closed how hi]
    exact ⟨.of_kept rfl rfl, fun _ => rfl⟩
  | some i =>
    have hactive := hopen i hi
    obtain ⟨⟨hclosed, -, -, -, -, -, -, -, -, -, -, -, -, -, hparks, hstays⟩, hwheels⟩ := endSession_ended how hi (by rw [hactive]; decide)
    by_cases hpark : s.osc.parkPending = true ∧ s.lines.ignition = false
    · have hstate := hparks hpark
      refine ⟨⟨.inr ⟨hactive, hstate⟩, fun j hj => ?_⟩, fun hsame => ?_⟩
      · rw [hclosed] at hj
        cases hj
      · rw [hstate, hactive] at hsame
        cases hsame
    · refine ⟨⟨.inl (hstays hpark), fun j hj => ?_⟩, fun _ => hwheels hpark⟩
      rw [hclosed] at hj
      cases hj

theorem sessionMoved_onward {s : State} (hopen : OpenInActive s) :
    Onward s (sessionMoved s) ∧ ((sessionMoved s).osc.state = s.osc.state → (sessionMoved s).wheels = s.wheels) := by
  unfold sessionMoved
  split
  · exact endSession_onward .moved hopen
  · exact ⟨.of_kept rfl rfl, fun _ => rfl⟩

theorem sessionTrailerLost_onward {s : State} (hopen : OpenInActive s) :
    Onward s (sessionTrailerLost s) ∧ ((sessionTrailerLost s).osc.state = s.osc.state → (sessionTrailerLost s).wheels = s.wheels) := by
  unfold sessionTrailerLost
  split
  · exact endSession_onward .trailerLost hopen
  · exact ⟨.of_kept rfl rfl, fun _ => rfl⟩

theorem active_kept {s u : State} (h : Onward s u) (hu : u.osc.state = .active) : u.osc.state = s.osc.state := hu.trans (h.active hu).symm

theorem sessionMoved_still_active {s : State} (hopen : OpenInActive s) (h : (sessionMoved s).osc.state = .active) (q : Row) :
    s.osc.state = .active ∧ (sessionMoved s).wheel q = s.wheel q := by
  obtain ⟨honward, hkept⟩ := sessionMoved_onward hopen
  refine ⟨honward.active h, ?_⟩
  rw [State.wheel, hkept (active_kept honward h)]
  rfl

/-! ### The speed -/

/-- The state in which the deadlines are moved for a new speed. -/
abbrev atSpeed (speed : Option Nat) (s : State) : State := s.setVdm { s.vdm with speed := speed }

theorem retimed_onward (speed : Option Nat) (s : State) : Onward s (retime s (atSpeed speed s)) :=
  (Onward.of_frame (setVdm_frame _ s)).trans (.of_work (retime_frame s _) (retime_work s _))

theorem setSpeed_onward (speed : Option Nat) {s : State} (hopen : OpenInActive s) : Onward s (setSpeed speed s) := by
  by_cases h : speed = s.vdm.speed
  · rw [setSpeed_of_same h]
    exact .of_kept rfl rfl
  · have hretimed := retimed_onward speed s
    rw [setSpeed_of_change h]
    exact hretimed.trans (sessionMoved_onward (hretimed.openInActive hopen)).1

theorem setSpeed_carried (speed : Option Nat) (q : Row) {s : State} (hawake : s.osc.state ≠ .dormant) : Carried q s (setSpeed speed s) := by
  by_cases h : speed = s.vdm.speed
  · rw [setSpeed_of_same h]
    exact .refl q s
  · have hput : Carried q s (atSpeed speed s) := .of_frame (setVdm_frame _ s)
    have hretimed : Carried q s (retime s (atSpeed speed s)) := hput.trans (retime_carried s q _)
    have hawake' : (retime s (atSpeed speed s)).osc.state ≠ .dormant := retime_awake (s := atSpeed speed s) hawake
    rw [setSpeed_of_change h]
    exact hretimed.trans (sessionMoved_carried q hawake')

/-- In ACTIVE the deadlines of a row follow the speed once. -/
theorem setSpeed_timed {speed : Option Nat} {s : State} (hopen : OpenInActive s) (hactive : (setSpeed speed s).osc.state = .active) {q : Row}
    (hholds : holdsMissing (s.wheel q).status = true) :
    TimedOnce (atSpeed speed s) q (usesMoving s q) (s.wheel q) ((setSpeed speed s).wheel q)
      ∨ (setSpeed speed s).wheel q = s.wheel q ∧ usesMoving (atSpeed speed s) q = usesMoving s q := by
  by_cases h : speed = s.vdm.speed
  · rw [setSpeed_of_same h]
    refine .inr ⟨rfl, ?_⟩
    subst h
    rfl
  · have hretimed := retimed_onward speed s
    have hstate : (retime s (atSpeed speed s)).osc.state = (atSpeed speed s).osc.state := (retime_work s _).osc_state
    have htimed := retime_timed (before := s) (c := atSpeed speed s) (q := q)
    have hkept := sessionMoved_still_active (hretimed.openInActive hopen)
    rw [setSpeed_of_change h] at hactive ⊢
    generalize retime s (atSpeed speed s) = t at *
    obtain ⟨hwas, hwheel⟩ := hkept hactive q
    rw [hwheel]
    exact .inl ⟨_, _, .refl _, htimed (hstate ▸ hwas) hholds, .refl _⟩

/-! ### The loads -/

/-- A load reported leaves the applied load, or applies another and judges the rows of its unit anew. -/
theorem reportLoad_shape (v : UnitName) (rep : LoadReport) (s : State) :
    (Frame [.vdm] s (reportLoad v rep s) ∧ (unitLoad (reportLoad v rep s) v).applied = (unitLoad s v).applied)
      ∨ ∃ t, Frame [.vdm] s t ∧ reportLoad v rep s = reevaluate (unitRows v) t
        ∧ (unitLoad (reevaluate (unitRows v) t) v).applied ≠ (unitLoad s v).applied := by
  have hput : ∀ (x : UnitLoad) (t : State), Frame [.vdm] s t → x.applied = (unitLoad s v).applied →
      Frame [.vdm] s (putUnit v x t) ∧ (unitLoad (putUnit v x t) v).applied = (unitLoad s v).applied := fun x t ht hx =>
    ⟨ht.trans (putUnit_frame v x t), by rw [unitLoad_putUnit, if_pos rfl, hx]⟩
  have happly : ∀ (load : LoadState) (t : State), Frame [.vdm] s t → (unitLoad t v).applied = (unitLoad s v).applied →
      (Frame [.vdm] s (applyLoad v load t) ∧ (unitLoad (applyLoad v load t) v).applied = (unitLoad s v).applied)
        ∨ ∃ c, Frame [.vdm] s c ∧ applyLoad v load t = reevaluate (unitRows v) c
          ∧ (unitLoad (reevaluate (unitRows v) c) v).applied ≠ (unitLoad s v).applied := fun load t ht happlied => by
    by_cases hsame : (unitLoad t v).applied = load
    · rw [applyLoad_of_same hsame]
      exact .inl (hput _ t ht (hsame.symm.trans happlied))
    · rw [applyLoad_of_change hsame]
      refine .inr ⟨_, ht.trans (putUnit_frame v _ t), rfl, ?_⟩
      rw [unitLoad_congr (reevaluate_frame _ _).vdm, unitLoad_putUnit, if_pos rfl, ← happlied]
      exact Ne.symm hsame
  have hsettle : ∀ (load : LoadState) (t : State), Frame [.vdm] s t → (unitLoad t v).applied = (unitLoad s v).applied →
      (Frame [.vdm] s (settleLoad v load t) ∧ (unitLoad (settleLoad v load t) v).applied = (unitLoad s v).applied)
        ∨ ∃ c, Frame [.vdm] s c ∧ settleLoad v load t = reevaluate (unitRows v) c
          ∧ (unitLoad (reevaluate (unitRows v) c) v).applied ≠ (unitLoad s v).applied := fun load t ht happlied => by
    unfold settleLoad
    dsimp only
    split
    · exact .inl (hput _ t ht happlied)
    · split
      · exact .inl ⟨ht, happlied⟩
      · split
        · exact happly load t ht happlied
        · exact .inl (hput _ t ht happlied)
  obtain ⟨hreported, happlied⟩ := hput { unitLoad s v with reported := rep } s (.refl _ s) rfl
  unfold reportLoad
  dsimp only
  cases rep
  · exact hsettle .unladen _ hreported happlied
  · exact hsettle .laden _ hreported happlied
  · exact .inl (hput _ _ hreported happlied)
  · exact happly .laden _ hreported happlied

/-- A row, where a unit's load is reported. -/
structure LoadReported (v : UnitName) (q : Row) (s u : State) : Prop where
  frame : Frame (.vdm :: wheelFields) s u
  state : u.osc.state = s.osc.state
  reading : SameReading (s.wheel q) (u.wheel q)
  tells : TellsRow q s u
  kept : (unitOfRow q ≠ v ∨ (unitLoad u v).applied = (unitLoad s v).applied) → u.wheel q = s.wheel q
  judged : unitOfRow q = v → (unitLoad u v).applied ≠ (unitLoad s v).applied → Judges s →
    LiveJudged (limitsOf u q) (groupOf u q).temp.hyst (s.wheel q) (u.wheel q)

theorem reportLoad_reported (v : UnitName) (rep : LoadReport) (q : Row) (s : State) : LoadReported v q s (reportLoad v rep s) := by
  have hf := reportLoad_frame v rep s
  have hstate := (reportLoad_work v rep s).osc_state
  rcases reportLoad_shape v rep s with ⟨hput, happlied⟩ | ⟨t, hput, heq, hchanged⟩
  · have hwheel := hput.wheel q
    exact ⟨hf, hstate, by rw [hwheel], .of_kept fun c hc => by rw [hwheel]; exact hc, fun _ => hwheel, fun _ hno => absurd happlied hno⟩
  · have hwheel := hput.wheel q
    have hosc := hput.osc
    obtain ⟨hkept, hjudged, hreading⟩ := reevaluate_carried t (unitRows_nodup v)
      (fun r hr => mem_unitRows.2 ((partner_unit r).trans (mem_unitRows.1 hr))) q
    have htells := (reevaluate_tells (unitRows v) t).rows q
    have hlimits := (reevaluate_frame (unitRows v) t).limitsOf (r := q)
    have hgroup := (reevaluate_frame (unitRows v) t).groupOf (r := q)
    rw [hwheel] at hkept hreading
    rw [heq] at hf hstate ⊢
    refine ⟨hf, hstate, hreading, ?_, fun hother => hkept ?_, fun hq _ hjudges => ?_⟩
    · have hput' : TellsRow q s t := .of_kept fun c hc => by rw [hwheel]; exact hc
      exact hput'.trans hput (reevaluate_frame (unitRows v) t) htells
    · rw [mem_unitRows]
      exact hother.resolve_right hchanged
    · have hlive := (hjudged (mem_unitRows.2 hq) (by rw [hosc]; exact hjudges)).live
      rwa [hwheel, ← hlimits, ← hgroup] at hlive

/-! ### The coupling -/

theorem trailerGone_enc (s : State) : (trailerGone s).enc = s.enc := by
  have hunload : ∀ t : State, (unload .none t).enc = t.enc := fun t => by
    have hput : Frame [.trailer] t (t.setTrailer .none) := setTrailer_frame _ t
    exact (restartRows_frame trailerRows (t.setTrailer .none)).enc.trans hput.enc
  have hgone : (trailerGone s).enc = (if s.trailer.entry?.isSome then unload .none s else s.setTrailer .none).enc :=
    (raiseEvent_frame _ _ _ _).enc.trans rfl
  rw [hgone]
  split
  · rw [hunload]
  · rfl

theorem trailerGone_onward (s : State) : Onward s (trailerGone s) :=
  .of_kept (trailerGone_work s).osc_state (by rw [trailerGone_enc])

theorem trailerGone_wheel {q : Row} (hq : q.val < 20) (s : State) : (trailerGone s).wheel q = s.wheel q := by
  have hput : Frame [.trailer] s (s.setTrailer .none) := setTrailer_frame _ s
  have hgone : (trailerGone s).wheel q = (if s.trailer.entry?.isSome then unload .none s else s.setTrailer .none).wheel q :=
    (raiseEvent_frame _ _ _ _).wheel q
  rw [hgone]
  split
  · exact (restartRows_trailerRows_kept hq (s.setTrailer .none)).trans (hput.wheel q)
  · exact hput.wheel q

theorem trailerGone_trailer (s : State) : (trailerGone s).trailer = .none := by
  have hgone : (trailerGone s).trailer = (if s.trailer.entry?.isSome then unload .none s else s.setTrailer .none).trailer :=
    (raiseEvent_frame _ _ _ _).trailer
  rw [hgone]
  split
  · exact (restartRows_frame trailerRows (s.setTrailer .none)).trailer
  · rfl

/-- What a trailer that couples changes. -/
abbrev couplingFields : List Field := [.trailer, .window, .recog]

theorem connectTrailer_coupling (s : State) : Frame couplingFields s (connectTrailer s) :=
  .ite ((((setTrailer_frame _ s).mono (by decide)).trans ((setWindow_frame _ _).mono (by decide))).trans
    ((setRecog_frame _ _).mono (by decide))) (.refl _ s)

/-- A row, where the coupling changes; one of the trailer only where the trailer stays. -/
structure Coupled (q : Row) (s u : State) : Prop where
  onward : Onward s u
  carried : q.val < 20 ∨ u.trailer = s.trailer → Carried q s u
  wheel : q.val < 20 ∨ u.trailer = s.trailer → u.osc.state = .active → u.wheel q = s.wheel q

theorem Coupled.of_frame {cs : List Field} {q : Row} {s u : State} (h : Frame cs s u) (hosc : Field.osc ∉ cs := by decide)
    (henc : Field.enc ∉ cs := by decide) (hwheels : Field.wheels ∉ cs := by decide) (hsub : ∀ f ∈ cs, f ∈ vehicleFields := by decide) :
    Coupled q s u := ⟨.of_frame h hosc henc, fun _ => .of_frame h hwheels hsub, fun _ _ => h.wheel q hwheels⟩

theorem disconnectTrailer_coupled (q : Row) {s : State} (hopen : OpenInActive s) (hawake : s.osc.state ≠ .dormant) :
    Coupled q s (disconnectTrailer s) := by
  by_cases hnone : s.trailer = .none
  · rw [disconnectTrailer_of_none hnone]
    exact .of_frame (.refl [] s)
  · rw [disconnectTrailer_of_trailer hnone]
    have hgone := trailerGone_onward s
    have hopen' := hgone.openInActive hopen
    have hawake' : (trailerGone s).osc.state ≠ .dormant := by rwa [(trailerGone_work s).osc_state]
    obtain ⟨hlost, hkept⟩ := sessionTrailerLost_onward hopen'
    have hcarried := sessionTrailerLost_carried q hawake'
    have htrailer := (sessionTrailerLost_frame (trailerGone s)).trailer
    have hwheel : q.val < 20 → (trailerGone s).wheel q = s.wheel q := fun hq => trailerGone_wheel hq s
    have hframe := trailerGone_frame s
    have hnow := trailerGone_trailer s
    generalize trailerGone s = g at *
    generalize sessionTrailerLost g = t at *
    have hsettle := settleProposal_frame t
    have hrow : q.val < 20 ∨ (settleProposal t).trailer = s.trailer → q.val < 20 := fun h => h.resolve_right fun hsame => by
      rw [hsettle.trailer, htrailer, hnow] at hsame
      exact hnone hsame.symm
    refine ⟨(hgone.trans hlost).trans ?_, fun h => ?_, fun h hactive => ?_⟩
    · obtain ⟨p, hp⟩ := settleProposal_enc t
      exact .of_kept (by rw [hsettle.osc]) (by rw [hp])
    · have hfirst : Carried q s g := .of_wheel hframe (hwheel (hrow h))
      exact (hfirst.trans hcarried).trans (.of_frame hsettle)
    · rw [hsettle.osc] at hactive
      rw [hsettle.wheel q, State.wheel, hkept (active_kept hlost hactive)]
      exact hwheel (hrow h)

theorem setConnected_coupled (code : Nat) (q : Row) {s : State} (hopen : OpenInActive s) (hawake : s.osc.state ≠ .dormant) :
    Coupled q s (setConnected code s) := by
  unfold setConnected
  split
  · have hput : Frame [.vdm] s (s.setVdm { s.vdm with connected := true }) := setVdm_frame _ s
    generalize s.setVdm { s.vdm with connected := true } = t at hput
    exact .of_frame ((hput.mono (by decide)).trans ((connectTrailer_coupling t).mono (by decide)) : Frame (.vdm :: couplingFields) s _)
  · split
    · have hput : Frame [.vdm] s (s.setVdm { s.vdm with connected := false }) := setVdm_frame _ s
      generalize s.setVdm { s.vdm with connected := false } = t at hput
      have hosc := hput.osc
      have honward : Onward s t := .of_frame hput
      obtain ⟨honward', hcarried, hwheel⟩ := disconnectTrailer_coupled q (s := t) (honward.openInActive hopen) (by rwa [hosc])
      rw [hput.trailer] at hcarried hwheel
      rw [hput.wheel q] at hwheel
      exact ⟨honward.trans honward', fun h => Carried.trans (.of_frame hput) (hcarried h), hwheel⟩
    · exact .of_frame (.refl [] s)

end Sys2Proof.Machine
end

section
/-! A row through a whole vehicle data frame: what it is judged by, raised, and timed by (R83, R97 to R100). -/

namespace Sys2Proof.Machine

set_option Elab.async false

/-! ### Readers of another state -/

theorem axleOf_congr {s u : State} {q : Row} (htables : u.tables = s.tables) (hrow : q.val < 20 ∨ u.trailer = s.trailer) :
    axleOf u (rowAxle q) = axleOf s (rowAxle q) := by
  unfold axleOf
  rcases hrow with hq | htrailer
  · have ha : (rowAxle q).val < 5 := show q.val / 4 < 5 by omega
    rw [dif_pos ha, dif_pos ha, htables]
  · rw [htables, htrailer]

theorem groupOf_congr {s u : State} {q : Row} (htables : u.tables = s.tables) (hrow : q.val < 20 ∨ u.trailer = s.trailer) :
    groupOf u q = groupOf s q := by
  unfold groupOf
  simp only [axleOf_congr htables hrow, htables]

theorem limitsOf_of_load {s u : State} {q : Row} (htables : u.tables = s.tables) (hrow : q.val < 20 ∨ u.trailer = s.trailer)
    (happlied : (unitLoad u (unitOfRow q)).applied = (unitLoad s (unitOfRow q)).applied) : limitsOf u q = limitsOf s q := by
  unfold limitsOf
  rw [groupOf_congr htables hrow, happlied]

theorem raisedRow_congr {s u : State} {q : Row} (htables : u.tables = s.tables) (hrow : q.val < 20 ∨ u.trailer = s.trailer)
    (hmask : u.vdm.liftMask = s.vdm.liftMask) : raisedRow u q = raisedRow s q := by
  unfold raisedRow raisedAxle
  rw [axleOf_congr htables hrow, hmask]

theorem moving_congr {s u : State} (htables : u.tables = s.tables) (hspeed : u.vdm.speed = s.vdm.speed) : moving u = moving s := by
  unfold moving State.setting
  rw [htables, hspeed]

theorem TimedOnce.congr {c d : State} {q : Row} {was : Bool} {w v : WheelRecord} (h : TimedOnce c q was w v) (hnow : d.now = c.now)
    (htables : d.tables = c.tables) (huses : usesMoving d q = usesMoving c q) : TimedOnce d q was w v := by
  have hset : ∀ k, d.setting k = c.setting k := fun k => by rw [State.setting, htables]; rfl
  have hstale : staleMs d q = staleMs c q := by rw [staleMs, huses, hset]; rfl
  have hmissing : missingMs d q = missingMs c q := by rw [missingMs, huses, hset]; rfl
  obtain ⟨w₁, w₂, hbefore, ⟨hstarts, hgone, hruns, hsame⟩, hafter⟩ := h
  rw [← huses, ← hnow, ← hstale, ← hmissing] at hstarts
  rw [← huses, ← hnow, ← hmissing] at hgone
  rw [← huses, ← hnow, ← hmissing, ← hstale] at hruns
  rw [← huses] at hsame
  exact ⟨w₁, w₂, hbefore, ⟨hstarts, hgone, hruns, hsame⟩, hafter⟩

theorem TimedOnce.still {c : State} {q : Row} {w v : WheelRecord} (h : TimedOnce c q (usesMoving c q) w v) : SameTiming w v := by
  obtain ⟨w₁, w₂, hbefore, htimed, hafter⟩ := h
  rw [htimed.same rfl] at hafter
  exact hbefore.trans hafter

/-- A row whose deadlines followed the change of its timing set once. -/
theorem TimedOnce.retimed {s u : State} {q : Row} (h : TimedOnce u q (usesMoving s q) (s.wheel q) (u.wheel q)) (hnow : u.now = s.now) :
    Retimed s u q := by
  obtain ⟨w₁, w₂, ⟨hs₁, hb₁, -, -⟩, ⟨hstarts, hgone, hruns, -⟩, ⟨hs₂, hb₂, hstale₂, hmissing₂⟩⟩ := h
  rw [hs₁, hnow, ← hs₂, ← hb₂, ← hstale₂, ← hmissing₂] at hstarts
  rw [hb₁, hnow, ← hs₂, ← hmissing₂] at hgone
  rw [hb₁, hs₁, hnow, ← hs₂, ← hb₂, ← hstale₂, ← hmissing₂] at hruns
  exact ⟨hstarts, fun base hwas his hbase => ⟨hgone base hwas his hbase, hruns base hwas his hbase⟩⟩

/-- Two changes of the timing set, of which at most one counts. -/
theorem retimed_of_two {s d u : State} {q : Row} {x : WheelRecord} (hd : d.now = s.now) (hu : u.now = s.now) (htables : u.tables = d.tables)
    (hfirst : TimedOnce d q (usesMoving s q) (s.wheel q) x) (hstill : usesMoving d q = usesMoving u q → SameTiming x (u.wheel q))
    (hsecond : usesMoving s q = usesMoving d q → TimedOnce u q (usesMoving d q) x (u.wheel q)) : Retimed s u q := by
  by_cases hdu : usesMoving d q = usesMoving u q
  · exact ((hfirst.after (hstill hdu)).congr (hu.trans hd.symm) htables hdu.symm).retimed hu
  · by_cases hsd : usesMoving s q = usesMoving d q
    · have hkept : SameTiming (s.wheel q) x := by
        rw [hsd] at hfirst
        exact hfirst.still
      have hboth := (hsecond hsd).before hkept
      rw [← hsd] at hboth
      exact hboth.retimed hu
    · have hsu : usesMoving s q = usesMoving u q := by
        revert hdu hsd
        cases usesMoving s q <;> cases usesMoving d q <;> cases usesMoving u q <;> decide
      rw [Retimed, hsu]
      exact ⟨fun hno hyes => absurd (hno.symm.trans hyes) Bool.false_ne_true,
        fun _ hyes hno => absurd (hno.symm.trans hyes) Bool.false_ne_true⟩

/-! ### The stages -/

def speedTaken (data : List Byte) (s : State) : State := setSpeed (speedOf (natAt data 0)) (frameSeen s)

def loadsTaken (data : List Byte) (s : State) : State :=
  reportLoad .trailer (loadReportOf (natAt data 2)) (reportLoad .truck (loadReportOf (natAt data 1)) s)

def coupledTaken (data : List Byte) (s : State) : State := setConnected (natAt data 3) (loadsTaken data (speedTaken data s))

def liftTaken (data : List Byte) (s : State) : State := setLift (byteAt data 4) (coupledTaken data s)

theorem takeVehicleData_stages (data : List Byte) (s : State) : takeVehicleData data s =
    notice .vehicleFrame ((liftTaken data s).setVdm { (liftTaken data s).vdm with
      ambient := ambientFrom (liftTaken data s).vdm.ambient (natAt2 data 5) }) := rfl

/-- A row, where the loads of both units are reported. -/
structure LoadsReported (q : Row) (s u : State) : Prop where
  frame : Frame (.vdm :: wheelFields) s u
  state : u.osc.state = s.osc.state
  reading : SameReading (s.wheel q) (u.wheel q)
  tells : TellsRow q s u
  kept : (unitLoad u (unitOfRow q)).applied = (unitLoad s (unitOfRow q)).applied → u.wheel q = s.wheel q
  judged : (unitLoad u (unitOfRow q)).applied ≠ (unitLoad s (unitOfRow q)).applied → Judges s →
    LiveJudged (limitsOf u q) (groupOf u q).temp.hyst (s.wheel q) (u.wheel q)

theorem reportLoad_otherUnit {v w : UnitName} (h : w ≠ v) (rep : LoadReport) (s : State) : unitLoad (reportLoad v rep s) w = unitLoad s w := by
  have hvdm := reportLoad_vdm v rep s
  cases v <;> cases w <;> simp_all [unitLoad, withUnit]

theorem SameReading.comp {w v x : WheelRecord} (h : SameReading w v) (k : SameReading v x) : SameReading w x := by
  unfold SameReading at h k ⊢
  rw [k, h]

theorem loadsTaken_reported (data : List Byte) (q : Row) (s : State) : LoadsReported q s (loadsTaken data s) := by
  have htruck := reportLoad_reported .truck (loadReportOf (natAt data 1)) q s
  have hloads : unitLoad (reportLoad .truck (loadReportOf (natAt data 1)) s) .trailer = unitLoad s .trailer :=
    reportLoad_otherUnit (by decide) _ s
  unfold loadsTaken
  generalize reportLoad .truck (loadReportOf (natAt data 1)) s = t at htruck hloads
  have htrailer := reportLoad_reported .trailer (loadReportOf (natAt data 2)) q t
  have hloads' : unitLoad (reportLoad .trailer (loadReportOf (natAt data 2)) t) .truck = unitLoad t .truck :=
    reportLoad_otherUnit (by decide) _ t
  generalize reportLoad .trailer (loadReportOf (natAt data 2)) t = u at htrailer hloads' ⊢
  have hf := htruck.frame.trans htrailer.frame
  have hreading := htruck.reading.comp htrailer.reading
  have htells := htruck.tells.trans htruck.frame htrailer.frame htrailer.tells
  have hstate := htrailer.state.trans htruck.state
  cases hunit : unitOfRow q with
  | truck =>
    have hwheel : u.wheel q = t.wheel q := htrailer.kept (.inl (by rw [hunit]; decide))
    have hlimits : limitsOf u q = limitsOf t q := limitsOf_of_load htrailer.frame.tables (.inr htrailer.frame.trailer) (by rw [hunit, hloads'])
    have hgroup : groupOf u q = groupOf t q := groupOf_congr htrailer.frame.tables (.inr htrailer.frame.trailer)
    refine ⟨hf, hstate, hreading, htells, fun hsame => ?_, fun hchanged hjudges => ?_⟩
    · rw [hunit, hloads'] at hsame
      exact hwheel.trans (htruck.kept (.inr hsame))
    · rw [hunit, hloads'] at hchanged
      rw [hlimits, hgroup, hwheel]
      exact htruck.judged hunit hchanged hjudges
  | trailer =>
    have hwheel : t.wheel q = s.wheel q := htruck.kept (.inl (by rw [hunit]; decide))
    refine ⟨hf, hstate, hreading, htells, fun hsame => ?_, fun hchanged hjudges => ?_⟩
    · rw [hunit, ← hloads] at hsame
      exact (htrailer.kept (.inr hsame)).trans hwheel
    · rw [hunit, ← hloads] at hchanged
      have hlive := htrailer.judged hunit hchanged (by rwa [Judges, htruck.state])
      rwa [hwheel] at hlive

end Sys2Proof.Machine
end

section
/-! A row through a whole vehicle data frame, put together. -/

namespace Sys2Proof.Machine

set_option Elab.async false

theorem usesMoving_congr {s u : State} {q : Row} (htables : u.tables = s.tables) (hrow : q.val < 20 ∨ u.trailer = s.trailer)
    (hspeed : u.vdm.speed = s.vdm.speed) (hmask : u.vdm.liftMask = s.vdm.liftMask) : usesMoving u q = usesMoving s q := by
  unfold usesMoving
  rw [moving_congr htables hspeed, raisedRow_congr htables hrow hmask]

/-! ### The stages as a whole -/

section
variable {s : State} (data : List Byte)

theorem speedTaken_frame (s : State) : Frame endFields s (speedTaken data s) :=
  ((frameSeen_frame s).mono (by decide)).trans (setSpeed_frame _ _)

theorem loadsTaken_frame (s : State) : Frame (.vdm :: wheelFields) s (loadsTaken data s) :=
  (reportLoad_frame _ _ s).trans (reportLoad_frame _ _ _)

theorem coupledTaken_frame (s : State) : Frame vehicleFields s (coupledTaken data s) := by
  have hspeed : Frame vehicleFields s (speedTaken data s) := (speedTaken_frame data s).mono (by decide)
  have hloads : Frame vehicleFields (speedTaken data s) (loadsTaken data (speedTaken data s)) := (loadsTaken_frame data _).mono (by decide)
  exact (hspeed.trans hloads).trans ((setConnected_frame _ _).mono (by decide))

theorem speedTaken_onward (hopen : OpenInActive s) : Onward s (speedTaken data s) := by
  have hseen : Onward s (frameSeen s) := .of_frame (frameSeen_frame s)
  exact hseen.trans (setSpeed_onward _ (hseen.openInActive hopen))

theorem loadsTaken_onward (s : State) : Onward s (loadsTaken data s) := by
  have hf := loadsTaken_frame data s
  exact .of_kept (loadsTaken_reported data 0 s).state (by rw [hf.enc])

theorem speedTaken_awake (hawake : s.osc.state ≠ .dormant) : (speedTaken data s).osc.state ≠ .dormant := setSpeed_awake (frameSeen_awake hawake)

theorem loadsTaken_awake (hawake : s.osc.state ≠ .dormant) : (loadsTaken data s).osc.state ≠ .dormant := by
  rwa [(loadsTaken_reported data 0 s).state]

theorem speedTaken_vdm (hawake : s.osc.state ≠ .dormant) :
    (speedTaken data s).vdm = { (frameSeen s).vdm with speed := speedOf (natAt data 0) } := setSpeed_vdm (frameSeen_awake hawake)

theorem loadsTaken_speed (s : State) :
    (loadsTaken data s).vdm.speed = s.vdm.speed ∧ (loadsTaken data s).vdm.liftMask = s.vdm.liftMask
      ∧ (loadsTaken data s).vdm.connected = s.vdm.connected := by
  unfold loadsTaken
  rw [reportLoad_vdm, reportLoad_vdm]
  exact ⟨rfl, rfl, rfl⟩

theorem coupledTaken_speed (hawake : s.osc.state ≠ .dormant) :
    (coupledTaken data s).vdm.speed = speedOf (natAt data 0) ∧ (coupledTaken data s).vdm.liftMask = s.vdm.liftMask := by
  obtain ⟨hspeed, hmask, -⟩ := loadsTaken_speed data (speedTaken data s)
  unfold coupledTaken
  rw [setConnected_vdm (loadsTaken_awake data (speedTaken_awake data hawake))]
  refine ⟨hspeed.trans ?_, hmask.trans ?_⟩
  · rw [speedTaken_vdm data hawake]
  · rw [speedTaken_vdm data hawake, frameSeen_vdm]

end

/-! ### A row before the lift axles -/

/-- A row, up to the coupling. -/
structure RowTaken (q : Row) (s d : State) : Prop where
  tells : TellsRow q s d
  vacant : (d.wheel q).status = .vacant → (s.wheel q).status = .vacant
  kept : (unitLoad d (unitOfRow q)).applied = (unitLoad s (unitOfRow q)).applied → LiveKept (s.wheel q) (d.wheel q)
  judged : (unitLoad d (unitOfRow q)).applied ≠ (unitLoad s (unitOfRow q)).applied → Judges d →
    LiveJudged (limitsOf d q) (groupOf d q).temp.hyst (s.wheel q) (d.wheel q)
  timed : d.osc.state = .active → holdsMissing (s.wheel q).status = true → TimedOnce d q (usesMoving s q) (s.wheel q) (d.wheel q)

theorem TimedOnce.of_same {c : State} {q : Row} {w v : WheelRecord} (h : SameTiming w v) : TimedOnce c q (usesMoving c q) w v :=
  ⟨w, w, .refl w, ⟨fun hno hyes => absurd (hno.symm.trans hyes) Bool.false_ne_true,
    fun _ hyes hno => absurd (hno.symm.trans hyes) Bool.false_ne_true, fun _ hyes hno => absurd (hno.symm.trans hyes) Bool.false_ne_true,
    fun _ => rfl⟩, h⟩

theorem speedTaken_units (data : List Byte) {s : State} (hawake : s.osc.state ≠ .dormant) (v : UnitName) :
    unitLoad (speedTaken data s) v = unitLoad s v := by
  have hvdm := speedTaken_vdm data hawake
  rw [frameSeen_vdm] at hvdm
  cases v <;> simp only [unitLoad, hvdm]

theorem coupledTaken_units (data : List Byte) {s : State} (hawake : s.osc.state ≠ .dormant) (v : UnitName) :
    unitLoad (coupledTaken data s) v = unitLoad (loadsTaken data (speedTaken data s)) v := by
  have hvdm := setConnected_vdm (code := natAt data 3) (loadsTaken_awake data (speedTaken_awake data hawake))
  unfold coupledTaken
  cases v <;> simp only [unitLoad, hvdm]

theorem speedTaken_carried (data : List Byte) {s : State} (q : Row) (hawake : s.osc.state ≠ .dormant) : Carried q s (speedTaken data s) := by
  have hseen : Carried q s (frameSeen s) := .of_frame (frameSeen_frame s)
  exact hseen.trans (setSpeed_carried _ q (frameSeen_awake hawake))

/-- The deadlines of a row after the new speed, by the timing set it then has. -/
theorem speedTaken_timed (data : List Byte) {s : State} {q : Row} (hopen : OpenInActive s) (hactive : (speedTaken data s).osc.state = .active)
    (hholds : holdsMissing (s.wheel q).status = true) {d : State} (hnow : d.now = s.now) (htables : d.tables = s.tables)
    (hrow : q.val < 20 ∨ d.trailer = s.trailer) (hspeed : d.vdm.speed = speedOf (natAt data 0)) (hmask : d.vdm.liftMask = s.vdm.liftMask) :
    TimedOnce d q (usesMoving s q) (s.wheel q) ((speedTaken data s).wheel q) := by
  have hseen := frameSeen_frame s
  have hwheel := hseen.wheel q
  have hseenon : Onward s (frameSeen s) := .of_frame hseen
  have hvdm := frameSeen_vdm s
  have htimed := setSpeed_timed (q := q) (hseenon.openInActive hopen) hactive (by rw [hwheel]; exact hholds)
  unfold speedTaken
  have htables' := hseen.tables
  have htrailer' := hseen.trailer
  have hnow' := hseen.now
  generalize hf : frameSeen s = f at htimed hwheel hvdm htables' htrailer' hnow' ⊢
  have huses : usesMoving f q = usesMoving s q := usesMoving_congr htables' (.inr htrailer') (by rw [hvdm]) (by rw [hvdm])
  have hat : usesMoving d q = usesMoving (atSpeed (speedOf (natAt data 0)) f) q :=
    usesMoving_congr (htables.trans htables'.symm) (hrow.imp_right fun h => h.trans htrailer'.symm) hspeed
      (by rw [hmask]; exact (congrArg VehicleData.liftMask hvdm).symm)
  rw [huses, hwheel] at htimed
  rcases htimed with hone | ⟨hkept, hsame⟩
  · exact hone.congr (hnow.trans hnow'.symm) (htables.trans htables'.symm) hat
  · rw [hkept, ← hsame, ← hat]
    exact .of_same (.refl _)

theorem coupledTaken_row (data : List Byte) {s : State} {q : Row} (hopen : OpenInActive s) (hawake : s.osc.state ≠ .dormant)
    (hrow : q.val < 20 ∨ (coupledTaken data s).trailer = s.trailer) : RowTaken q s (coupledTaken data s) := by
  have hspeedon := speedTaken_onward data hopen
  have hspeedrow := speedTaken_carried data q hawake
  have hspeedawake := speedTaken_awake data hawake
  have hspeedunits := speedTaken_units data hawake (unitOfRow q)
  have hspeedtimed := fun hactive hholds d => @speedTaken_timed data s q hopen hactive hholds d
  have hspeedtrailer := (speedTaken_frame data s).trailer
  have hlastunits := coupledTaken_units data hawake (unitOfRow q)
  obtain ⟨hlastspeed, hlastmask⟩ := coupledTaken_speed data hawake
  have hlastframe := coupledTaken_frame data s
  unfold coupledTaken at *
  generalize speedTaken data s = a at *
  have hloads := loadsTaken_reported data q a
  have hloadsawake := loadsTaken_awake data hspeedawake
  have hloadson := loadsTaken_onward data a
  generalize loadsTaken data a = c at *
  have hopen' := (hspeedon.trans hloadson).openInActive hopen
  have hcoupled := setConnected_coupled (natAt data 3) q hopen' hloadsawake
  have hcoupledframe := setConnected_frame (natAt data 3) c
  generalize setConnected (natAt data 3) c = d at *
  have htrailer : c.trailer = s.trailer := hloads.frame.trailer.trans hspeedtrailer
  have hrow' : q.val < 20 ∨ d.trailer = c.trailer := by rwa [htrailer]
  have hlast := hcoupled.carried hrow'
  have happlied : (unitLoad d (unitOfRow q)).applied = (unitLoad c (unitOfRow q)).applied := by rw [hlastunits]
  have hbefore : (unitLoad a (unitOfRow q)).applied = (unitLoad s (unitOfRow q)).applied := by rw [hspeedunits]
  refine ⟨?_, fun hv => ?_, fun hsame => ?_, fun hchanged hjudges => ?_, fun hactive hholds => ?_⟩
  · have hfirst := hspeedrow.tells.trans hspeedrow.frame hloads.frame hloads.tells
    exact hfirst.trans (hspeedrow.frame.trans (hloads.frame.mono (by decide))) hlast.frame hlast.tells
  · have hc := hlast.vacant hv
    rw [hloads.reading.status] at hc
    exact hspeedrow.vacant hc
  · have hkept := hloads.kept (happlied.symm.trans (hsame.trans hbefore.symm))
    have hlive := hspeedrow.live
    rw [← hkept] at hlive
    exact hlive.trans hlast.live
  · have hjudged := hloads.judged (by rwa [← happlied, hbefore]) ((hloadson.trans hcoupled.onward).judges hjudges)
    rw [limitsOf_of_load hcoupledframe.tables hrow' happlied, groupOf_congr hcoupledframe.tables hrow']
    exact (LiveKept.judged hspeedrow.live hjudged).kept hlast.live
  · have ha := (hloadson.trans hcoupled.onward).active hactive
    have htimed := hspeedtimed ha hholds d hlastframe.now hlastframe.tables hrow hlastspeed hlastmask
    rw [hcoupled.wheel hrow' hactive]
    exact htimed.after hloads.reading.timing

end Sys2Proof.Machine
end

section
/-! A row at the end of a vehicle data frame: retimed, judged anew, or raised (R83, R97, R98, R100). -/

namespace Sys2Proof.Machine

set_option Elab.async false

/-- The state in which the axles are raised and lowered. -/
abbrev atMask (mask : BitVec 8) (s : State) : State := s.setVdm { s.vdm with liftMask := mask }

theorem setLift_frame (mask : BitVec 8) (s : State) : Frame (.vdm :: wheelFields) s (setLift mask s) :=
  ((setVdm_frame _ s).mono (by decide)).trans ((liftChange_frame s _).mono (by decide))

/-- A row from before the lift axles to the end. -/
structure RowLifted (q : Row) (d u : State) : Prop where
  tells : TellsRow q d u
  raised : raisedRow d q = false → raisedRow u q = true → d.osc.state ≠ .offline → (d.wheel q).status ≠ .vacant → RaisedUp u q
  live : ¬ (raisedRow d q = true ∧ raisedRow u q = false) → LiveKept (d.wheel q) (u.wheel q)
  judged : raisedRow d q = true → raisedRow u q = false → Judges d →
    LiveJudged (limitsOf u q) (groupOf u q).temp.hyst (d.wheel q) (u.wheel q)
  timed : d.osc.state = .active → holdsMissing (d.wheel q).status = true → TimedOnce u q (usesMoving d q) (d.wheel q) (u.wheel q)
  still : usesMoving d q = usesMoving u q → SameTiming (d.wheel q) (u.wheel q)

theorem setLift_row (mask : BitVec 8) (q : Row) (d : State) : RowLifted q d (setLift mask d) := by
  have hput : Frame [.vdm] d (atMask mask d) := setVdm_frame _ d
  have hwheel := hput.wheel q
  have hstate : (atMask mask d).osc.state = d.osc.state := by rw [hput.osc]
  have hlimits : limitsOf (atMask mask d) q = limitsOf d q := limitsOf_of_load hput.tables (.inr hput.trailer) (by cases unitOfRow q <;> rfl)
  have hmoving : moving (atMask mask d) = moving d := moving_congr hput.tables rfl
  have hframe : Frame wheelFields (atMask mask d) (setLift mask d) := liftChange_frame d _
  have htells := (liftChange_tells d (atMask mask d)).rows q
  have hkept := fun h => liftChange_kept (before := d) (s := atMask mask d) (q := q) h
  have hlifted := fun h => liftChange_lifted d (s := atMask mask d) h q
  have hidle : (atMask mask d).osc.state = .offline → (liftChange d (atMask mask d)).wheel q = (atMask mask d).wheel q := fun h => by
    rw [liftChange_offline d h]
  change TellsRow q (atMask mask d) (setLift mask d) at htells
  change raisedRow d q = raisedRow (atMask mask d) q → (setLift mask d).wheel q = (atMask mask d).wheel q at hkept
  change (atMask mask d).osc.state ≠ .offline → Lifted d (atMask mask d) q (setLift mask d) at hlifted
  change (atMask mask d).osc.state = .offline → (setLift mask d).wheel q = (atMask mask d).wheel q at hidle
  generalize setLift mask d = u at *
  have hraised := hframe.raisedRow (r := q)
  have huses := hframe.usesMoving (r := q)
  have hlimits' := hframe.limitsOf (r := q)
  have hgroup' := hframe.groupOf (r := q)
  have hnow := hframe.now
  have htables := hframe.tables
  generalize atMask mask d = c at *
  rw [hwheel, ← hraised] at hkept
  have hone : d.osc.state = .active → c.osc.state ≠ .offline := fun h => by rw [hstate, h]; decide
  refine ⟨?_, fun hno hyes hin hvacant => ?_, fun h => ?_, fun hyes hno hjudges => ?_, fun hactive hholds => ?_, fun hsame => ?_⟩
  · have hfirst : TellsRow q d c := .of_kept fun k hk => by rw [hwheel]; exact hk
    exact hfirst.trans hput hframe htells
  · exact (hlifted (hstate ▸ hin)).raised hno (hraised ▸ hyes) (hwheel ▸ hvacant)
  · by_cases hoff : c.osc.state = .offline
    · rw [hidle hoff, hwheel]
      exact .refl _
    · have hlive := (hlifted hoff).live (by rwa [← hraised])
      rwa [hwheel] at hlive
  · have hrun : c.osc.state = .active ∨ c.osc.state = .parkWatch := by rwa [hstate]
    have hlive := (hlifted (by rcases hrun with h | h <;> rw [h] <;> decide)).judged hyes (hraised ▸ hno) hrun
    rwa [hwheel, ← hlimits', ← hgroup'] at hlive
  · have hl := hlifted (hone hactive)
    rcases hl.timed (hstate ▸ hactive) (by rw [hwheel]; exact hholds) with htimed | ⟨hsame, hboth⟩
    · rw [hwheel] at htimed
      exact htimed.congr hnow htables huses
    · have hu : usesMoving d q = usesMoving u q := by
        rw [huses]
        unfold usesMoving
        rw [hmoving, hboth]
      rw [hsame, hwheel, hu]
      exact .of_same (.refl _)
  · by_cases hoff : c.osc.state = .offline
    · rw [hidle hoff, hwheel]
      exact .refl _
    · have hstill := (hlifted hoff).still (by rw [hsame, huses])
      rwa [hwheel] at hstill

/-! ### The whole frame -/

section
variable {data : List Byte} {s u : State}

/-- What the last step of a frame, the ambient pressure and the notice, leaves. -/
structure FrameDone (l u : State) : Prop where
  frame : Frame [.vdm, .osc] l u
  state : u.osc.state = l.osc.state
  units : ∀ v, unitLoad u v = unitLoad l v
  speed : u.vdm.speed = l.vdm.speed
  mask : u.vdm.liftMask = l.vdm.liftMask

theorem takeVehicleData_done (data : List Byte) (s : State) : FrameDone (liftTaken data s) (takeVehicleData data s) := by
  rw [takeVehicleData_stages]
  generalize liftTaken data s = l
  have hput : Frame [.vdm] l (l.setVdm { l.vdm with ambient := ambientFrom l.vdm.ambient (natAt2 data 5) }) := setVdm_frame _ l
  have hvdm : (l.setVdm { l.vdm with ambient := ambientFrom l.vdm.ambient (natAt2 data 5) }).vdm
      = { l.vdm with ambient := ambientFrom l.vdm.ambient (natAt2 data 5) } := rfl
  generalize l.setVdm { l.vdm with ambient := ambientFrom l.vdm.ambient (natAt2 data 5) } = m at hput hvdm
  have hnotice := notice_frame .vehicleFrame m
  have hlast : (notice .vehicleFrame m).vdm = _ := hnotice.vdm.trans hvdm
  have hframe : Frame [.vdm, .osc] l m := hput.mono (by decide)
  refine ⟨hframe.trans (hnotice.mono (by decide)), ?_, fun v => ?_, ?_, ?_⟩
  · rw [notice_osc_state, hput.osc]
  · cases v <;> simp only [unitLoad, hlast]
  · rw [hlast]
  · rw [hlast]

/-- A row of the truck, or of a trailer that stays, at the end of a frame. -/
structure RowDone (q : Row) (s u : State) : Prop where
  tells : TellsRow q s u
  retimed : s.osc.state = .active → u.osc.state = .active → holdsMissing (s.wheel q).status = true → Retimed s u q
  reevaluated : Alive (u.wheel q) → Judges u →
    (unitLoad u (unitOfRow q)).applied ≠ (unitLoad s (unitOfRow q)).applied ∨ (raisedRow s q = true ∧ raisedRow u q = false) → Reevaluated s u q
  raised : raisedRow s q = false → raisedRow u q = true → u.osc.state ≠ .offline → (s.wheel q).status ≠ .vacant → RaisedUp u q

/-- Judged before the lift axles, by them, or by both. -/
theorem LiveJudged.once {p : PressureLimits} {hyst : Nat} {w x v : WheelRecord} {changed lowered : Prop} (hkept : ¬ changed → LiveKept w x)
    (hjudged : changed → LiveJudged p hyst w x) (hkept' : ¬ lowered → LiveKept x v) (hjudged' : lowered → LiveJudged p hyst x v)
    (h : changed ∨ lowered) : LiveJudged p hyst w v := by
  by_cases hc : changed
  · by_cases hl : lowered
    · exact (hjudged hc).again (hjudged' hl)
    · exact (hjudged hc).kept (hkept' hl)
  · exact (hkept hc).judged (hjudged' (h.resolve_left hc))

theorem LiveJudged.reevaluated {q : Row} (h : LiveJudged (limitsOf u q) (groupOf u q).temp.hyst (s.wheel q) (u.wheel q))
    (halive : Alive (u.wheel q)) : Reevaluated s u q := by
  obtain ⟨-, -, -, hcrit, hcounters⟩ := h halive
  exact ⟨hcrit, hcounters⟩

theorem takeVehicleData_row {q : Row} (hopen : OpenInActive s) (hawake : s.osc.state ≠ .dormant)
    (hrow : q.val < 20 ∨ (takeVehicleData data s).trailer = s.trailer) : RowDone q s (takeVehicleData data s) := by
  obtain ⟨hlast, hlaststate, hlastunits, hlastspeed, hlastmask⟩ := takeVehicleData_done data s
  have hlift : RowLifted q (coupledTaken data s) (liftTaken data s) := setLift_row _ q _
  have hliftframe : Frame (.vdm :: wheelFields) (coupledTaken data s) (liftTaken data s) := setLift_frame _ _
  have hliftvdm : (liftTaken data s).vdm = { (coupledTaken data s).vdm with liftMask := byteAt data 4 } := setLift_vdm _ _
  have hliftstate : (liftTaken data s).osc.state = (coupledTaken data s).osc.state := by
    have honward := liftChange_work (coupledTaken data s) (atMask (byteAt data 4) (coupledTaken data s))
    exact honward.osc_state
  have hfirstframe := coupledTaken_frame data s
  obtain ⟨hspeed, hmask⟩ := coupledTaken_speed data hawake
  have hfirst := @coupledTaken_row data s q hopen hawake
  generalize takeVehicleData data s = u at *
  generalize liftTaken data s = l at *
  generalize coupledTaken data s = d at *
  have hrow' : q.val < 20 ∨ d.trailer = s.trailer := hrow.imp_right fun h => by rw [← h, hlast.trailer, hliftframe.trailer]
  obtain ⟨htells, hvacant, hkept, hjudged, htimed⟩ := hfirst hrow'
  have hwheel := hlast.wheel q
  have hstate : u.osc.state = d.osc.state := hlaststate.trans hliftstate
  have htables : u.tables = l.tables := hlast.tables
  have hraisedu : raisedRow u q = raisedRow l q := raisedRow_congr htables (.inr hlast.trailer) hlastmask
  have hraisedd : raisedRow d q = raisedRow s q := raisedRow_congr hfirstframe.tables hrow' hmask
  have hunitl : ∀ v, unitLoad l v = unitLoad d v := fun v => by cases v <;> simp only [unitLoad, hliftvdm]
  have hunitu : ∀ v, unitLoad u v = unitLoad d v := fun v => (hlastunits v).trans (hunitl v)
  have hlimitsd : limitsOf d q = limitsOf u q := (limitsOf_of_load (htables.trans hliftframe.tables)
    (.inr (hlast.trailer.trans hliftframe.trailer)) (by rw [hunitu])).symm
  have hgroupd : groupOf d q = groupOf u q := (groupOf_congr (htables.trans hliftframe.tables) (.inr (hlast.trailer.trans hliftframe.trailer))).symm
  have hlimitsl : limitsOf l q = limitsOf u q := (limitsOf_of_load htables (.inr hlast.trailer) (by rw [hunitu, hunitl])).symm
  have hgroupl : groupOf l q = groupOf u q := (groupOf_congr htables (.inr hlast.trailer)).symm
  have huses : usesMoving u q = usesMoving l q :=
    usesMoving_congr htables (.inr hlast.trailer) hlastspeed hlastmask
  obtain ⟨htells', hraised, hlive', hjudged', htimed', hstill'⟩ := hlift
  rw [← hraisedu, hraisedd] at hraised hlive' hjudged'
  rw [hlimitsl, hgroupl, ← hwheel] at hjudged'
  rw [← hwheel] at hlive'
  rw [hlimitsd, hgroupd] at hjudged
  refine ⟨?_, fun hactive hactive' hholds => ?_, fun halive hjudges h => ?_, fun hno hyes hin hin' => ?_⟩
  · have hend : TellsRow q l u := .of_kept fun c hc => by rw [hwheel]; exact hc
    exact (htells.trans hfirstframe hliftframe htells').trans (hfirstframe.trans (hliftframe.mono (by decide))) hlast hend
  · rw [hstate] at hactive'
    have hone := htimed hactive' hholds
    rw [← huses] at hstill'
    rw [← hwheel] at hstill' htimed'
    refine retimed_of_two hfirstframe.now (hlast.now.trans (hliftframe.now.trans hfirstframe.now)) (htables.trans hliftframe.tables) hone hstill'
      fun hsame => ?_
    rw [hsame] at hone
    obtain ⟨hstatus, -⟩ := hone.still
    exact (htimed' hactive' (by rw [hstatus]; exact hholds)).congr hlast.now htables huses
  · rw [Judges, hstate] at hjudges
    have happlied : (unitLoad u (unitOfRow q)).applied = (unitLoad d (unitOfRow q)).applied := by rw [hunitu]
    rw [happlied] at h
    exact (LiveJudged.once (fun hsame => hkept (not_not.1 hsame)) (fun hchanged => hjudged hchanged hjudges) hlive'
      (fun hl => hjudged' hl.1 hl.2 hjudges) h).reevaluated halive
  · have hup := hraised hno hyes (hstate ▸ hin) fun hv => hin' (hvacant hv)
    unfold RaisedUp at hup ⊢
    rwa [hwheel]

end

end Sys2Proof.Machine
end

section
/-! The trailer and the session through a vehicle data frame (R19, R24, R115, R116, R129). -/

namespace Sys2Proof.Machine

set_option Elab.async false

/-! ### The coupling -/

/-- The state in which the coupling acts. -/
abbrev atCoupling (on : Bool) (s : State) : State := s.setVdm { s.vdm with connected := on }

theorem setConnected_couples {s : State} (h : s.vdm.connected = false) : setConnected 1 s = connectTrailer (atCoupling true s) := if_pos ⟨rfl, h⟩

theorem setConnected_uncouples {s : State} (h : s.vdm.connected = true) : setConnected 0 s = disconnectTrailer (atCoupling false s) := by
  unfold setConnected
  rw [if_neg (by simp), if_pos ⟨rfl, h⟩]

theorem setConnected_idle {code : Nat} {s : State} (hon : code = 1 → s.vdm.connected = true) (hoff : code = 0 → s.vdm.connected = false) :
    setConnected code s = s := by
  unfold setConnected
  rw [if_neg fun h => Bool.false_ne_true (h.2.symm.trans (hon h.1)), if_neg fun h => Bool.false_ne_true ((hoff h.1).symm.trans h.2)]

theorem disconnectTrailer_trailer (s : State) : (disconnectTrailer s).trailer = .none := by
  by_cases h : s.trailer = .none
  · rw [disconnectTrailer_of_none h, h]
  · rw [disconnectTrailer_of_trailer h, (settleProposal_frame _).trailer, (sessionTrailerLost_frame _).trailer, trailerGone_trailer]

theorem trailerGone_recognition (s : State) : (trailerGone s).window = none ∧ (trailerGone s).recog = noRecog := by
  have hgone := raiseEvent_frame .trailerRemoved none none
    (((if s.trailer.entry?.isSome then unload .none s else s.setTrailer .none).setWindow none).setRecog noRecog)
  exact ⟨hgone.window, hgone.recog⟩

theorem trailerGone_raised (s : State) : Raised { kind := .trailerRemoved, time := s.now / 1000 } s (trailerGone s) := by
  have hunload : Frame trailerFields s (if s.trailer.entry?.isSome then unload .none s else s.setTrailer .none) :=
    .ite (unload_frame _ s) ((setTrailer_frame _ s).mono (by decide))
  have hfirst : Frame trailerFields s
      (((if s.trailer.entry?.isSome then unload .none s else s.setTrailer .none).setWindow none).setRecog noRecog) :=
    (hunload.trans ((setWindow_frame _ _).mono (by decide))).trans ((setRecog_frame _ _).mono (by decide))
  exact raised_between (kind := .trailerRemoved) (row := none) (value := none) hfirst (.refl [] _)

theorem rowId_of_no_trailer {s : State} (h : s.trailer = .none) {q : Row} (hq : 20 ≤ q.val) : rowId s q = none := by
  unfold rowId
  rw [dif_neg (Nat.not_lt.2 hq), h]

/-- The rows of an identified trailer that is gone, restarted without an ID. -/
theorem trailerGone_restarted {s : State} {k : EntryNo} (h : s.trailer = .identified k) {q : Row} (hq : 20 ≤ q.val) :
    Restarted (trailerGone s) q := by
  have hgone : (trailerGone s).wheel q = (if s.trailer.entry?.isSome then unload .none s else s.setTrailer .none).wheel q :=
    (raiseEvent_frame _ _ _ _).wheel q
  have hrecord := (restartRows_restarted trailerRows (s.setTrailer .none)).restarted q ((mem_trailerRows q).2 hq)
  rw [if_pos (by rw [h]; rfl), unload, hrecord] at hgone
  have hnone : (s.setTrailer .none).trailer = .none := rfl
  exact restartedRecord_restarted ((rowId_of_no_trailer (trailerGone_trailer s) hq).trans (rowId_of_no_trailer hnone hq).symm) hgone

theorem raisedRow_of_no_trailer {s : State} (h : ∀ k, s.trailer ≠ .identified k) {q : Row} (hq : 20 ≤ q.val) : raisedRow s q = false := by
  have ha : ¬ (rowAxle q).val < 5 := show ¬ q.val / 4 < 5 by omega
  unfold raisedRow raisedAxle axleOf
  rw [dif_neg ha]
  split
  · next k hk => exact absurd hk (h k)
  · rfl

/-- A session's end leaves a restarted record as it is. -/
theorem endSession_restarted {s : State} {q : Row} (how : Ending) (hawake : s.osc.state ≠ .dormant) (h : Restarted s q) :
    Restarted (endSession how s) q := by
  cases hopen : s.enc.session with
  | none => rwa [endSession_of_closed how hopen]
  | some i =>
    have hclosed : Frame [.enc, .evq] s (withClosedEnc how i s) :=
      ((setEnc_frame _ s).mono (by decide)).trans ((raiseEvent_frame _ _ _ _).mono (by decide))
    have hids : rowId (endSession how s) q = rowId s q := (endSession_frame how s).rowId (r := q)
    rw [endSession_eq hopen] at hids ⊢
    have hosc := hclosed.osc
    have hrow : rowId (withClosedEnc how i s) q = rowId s q := hclosed.rowId (r := q)
    have hwheel := hclosed.wheel q
    generalize withClosedEnc how i s = t at *
    exact Restarted.told (s := t) (by rwa [hosc]) (hids.trans hrow.symm) ((search_frame _).wheel q) (restarted_congr hwheel hrow h)

theorem sessionTrailerLost_restarted {s : State} {q : Row} (hawake : s.osc.state ≠ .dormant) (h : Restarted s q) :
    Restarted (sessionTrailerLost s) q := by
  unfold sessionTrailerLost
  split
  · exact endSession_restarted _ hawake h
  · exact h

/-- The rows and the proposal where an identified trailer is disconnected. -/
theorem disconnectTrailer_identified {s : State} {k : EntryNo} (h : s.trailer = .identified k) (hawake : s.osc.state ≠ .dormant) :
    (∀ q : Row, 20 ≤ q.val → Restarted (disconnectTrailer s) q)
      ∧ ∀ p, (disconnectTrailer s).enc.proposal = some p → p.1.val < 20 := by
  have hgone := fun q hq => @trailerGone_restarted s k h q hq
  have hawake' : (trailerGone s).osc.state ≠ .dormant := by rwa [(trailerGone_work s).osc_state]
  rw [disconnectTrailer_of_trailer (by rw [h]; exact TrailerState.noConfusion)]
  generalize trailerGone s = g at *
  have hlost : ∀ q : Row, 20 ≤ q.val → Restarted (sessionTrailerLost g) q := fun q hq => sessionTrailerLost_restarted hawake' (hgone q hq)
  generalize sessionTrailerLost g = t at *
  refine ⟨fun q hq => ?_, fun p hp => ?_⟩
  · exact restarted_congr ((settleProposal_frame t).wheel q) ((settleProposal_frame t).rowId (r := q)) (hlost q hq)
  · obtain ⟨hmissing, -⟩ := settleProposal_proposal hp
    by_contra hno
    obtain ⟨hstatus, -⟩ := hlost p.1 (Nat.not_lt.1 hno)
    rw [hmissing] at hstatus
    split at hstatus <;> cases hstatus

end Sys2Proof.Machine
end

section
/-! The session through a vehicle data frame (R115, R116), and the events of the whole frame. -/

namespace Sys2Proof.Machine

set_option Elab.async false

/-- A session ended, with its event. -/
abbrev EndedAs (how : Ending) (i : Nat) (s u : State) : Prop :=
  u.enc.session = none ∧ u.enc.pairs = [] ∧ u.enc.lastEnding = how
    ∧ Raised { kind := .enrolEnded, row := s.enc.walk[i]?, value := some (BitVec.ofNat 32 how.code), time := s.now / 1000 } s u

theorem endSession_endedAs {s : State} {i : Nat} (how : Ending) (hopen : s.enc.session = some i) (hawake : s.osc.state ≠ .dormant) :
    EndedAs how i s (endSession how s) := by
  obtain ⟨⟨hclosed, hpairs, -, -, hlast, -, -, -, -, -, -, -, -, hraised, -⟩, -⟩ := endSession_ended how hopen hawake
  exact ⟨hclosed, hpairs, hlast, hraised⟩

theorem EndedAs.earlier {how : Ending} {i : Nat} {s t u : State} {cs : List Field} (hf : Frame cs s t) (henc : t.enc = s.enc)
    (h : EndedAs how i t u) (hclock : Field.clock ∉ cs := by decide) : EndedAs how i s u := by
  obtain ⟨hclosed, hpairs, hlast, hraised⟩ := h
  rw [henc, hf.now hclock] at hraised
  exact ⟨hclosed, hpairs, hlast, raised_earlier hf hraised⟩

theorem EndedAs.later {how : Ending} {i : Nat} {s t u : State} {cs : List Field} {p : Option (Row × SensorId)} (h : EndedAs how i s t)
    (hf : Frame cs t u) (henc : u.enc = { t.enc with proposal := p }) : EndedAs how i s u := by
  obtain ⟨hclosed, hpairs, hlast, hraised⟩ := h
  rw [EndedAs, henc]
  exact ⟨hclosed, hpairs, hlast, raised_later hraised hf⟩

/-! ### The speed -/

/-- The speed of a frame is new, and the vehicle moves at it. -/
abbrev NowMoves (data : List Byte) (s : State) : Prop :=
  ∃ v, speedOf (natAt data 0) = some v ∧ speedOf (natAt data 0) ≠ s.vdm.speed ∧ s.setting .movingSpeedKmh < v

theorem moving_of_speed {s : State} {v : Nat} (hspeed : s.vdm.speed = some v) (h : s.setting .movingSpeedKmh < v) : moving s = true := by
  rw [moving, hspeed]
  exact decide_eq_true h

theorem moving_iff {s : State} : moving s = true ↔ ∃ v, s.vdm.speed = some v ∧ s.setting .movingSpeedKmh < v := by
  unfold moving
  cases s.vdm.speed <;> simp

theorem sessionMoved_of_moving {s : State} {i : Nat} (hopen : s.enc.session = some i) (h : moving s = true) :
    sessionMoved s = endSession .moved s := if_pos ⟨by rw [sessionOpen, hopen]; rfl, h⟩

theorem sessionMoved_of_still {s : State} (h : moving s = false) : sessionMoved s = s := if_neg fun hboth => by rw [h] at hboth; cases hboth.2

/-- What moving the deadlines for a new speed leaves. -/
theorem retimed_facts (speed : Option Nat) (s : State) :
    Frame (.vdm :: wheelFields) s (retime s (atSpeed speed s)) ∧ (retime s (atSpeed speed s)).vdm.speed = speed := by
  have hput : Frame [.vdm] s (atSpeed speed s) := setVdm_frame _ s
  have hretime := retime_frame s (atSpeed speed s)
  refine ⟨(hput.mono (by decide)).trans (hretime.mono (by decide)), ?_⟩
  rw [hretime.vdm]
  rfl

theorem speedTaken_moved {data : List Byte} {s : State} {i : Nat} (hopen : s.enc.session = some i) (hawake : s.osc.state ≠ .dormant)
    (h : NowMoves data s) : EndedAs .moved i s (speedTaken data s) := by
  obtain ⟨v, hv, hnew, hfast⟩ := h
  have hseen := frameSeen_frame s
  have hvdm : (frameSeen s).vdm.speed = s.vdm.speed := by rw [frameSeen_vdm]
  have hawake' := frameSeen_awake hawake
  unfold speedTaken
  generalize frameSeen s = f at *
  obtain ⟨hframe, hspeed⟩ := retimed_facts (speedOf (natAt data 0)) f
  have hawake'' : (retime f (atSpeed (speedOf (natAt data 0)) f)).osc.state ≠ .dormant :=
    retime_awake (s := atSpeed (speedOf (natAt data 0)) f) hawake'
  have hset : setSpeed (speedOf (natAt data 0)) f = sessionMoved (retime f (atSpeed (speedOf (natAt data 0)) f)) :=
    setSpeed_of_change (by rw [hvdm]; exact hnew)
  rw [hset]
  generalize retime f (atSpeed (speedOf (natAt data 0)) f) = t at *
  have hall : Frame (.vdm :: wheelFields) s t := Frame.trans (hseen.mono (by decide)) hframe
  have hopen' : t.enc.session = some i := by rw [hall.enc, hopen]
  have hfast' : t.setting .movingSpeedKmh < v := by rwa [hall.setting]
  rw [sessionMoved_of_moving hopen' (moving_of_speed (hspeed.trans hv) hfast')]
  exact (endSession_endedAs .moved hopen' hawake'').earlier hall hall.enc

theorem speedTaken_unmoved {data : List Byte} {s : State} (h : ¬ NowMoves data s) : (speedTaken data s).enc = s.enc := by
  have hseen := frameSeen_frame s
  have hvdm : (frameSeen s).vdm.speed = s.vdm.speed := by rw [frameSeen_vdm]
  unfold speedTaken
  generalize frameSeen s = f at *
  by_cases hsame : speedOf (natAt data 0) = f.vdm.speed
  · rw [setSpeed_of_same hsame, hseen.enc]
  · obtain ⟨hframe, hspeed⟩ := retimed_facts (speedOf (natAt data 0)) f
    have hset : setSpeed (speedOf (natAt data 0)) f = sessionMoved (retime f (atSpeed (speedOf (natAt data 0)) f)) :=
      setSpeed_of_change hsame
    rw [hset]
    generalize retime f (atSpeed (speedOf (natAt data 0)) f) = t at *
    have hall : Frame (.vdm :: wheelFields) s t := Frame.trans (hseen.mono (by decide)) hframe
    have hstill : moving t = false := by
      by_contra hno
      obtain ⟨v, hv, hfast⟩ := moving_iff.1 (Bool.not_eq_false _ ▸ hno)
      rw [hspeed] at hv
      rw [hall.setting] at hfast
      exact h ⟨v, hv, by rwa [← hvdm], hfast⟩
    rw [sessionMoved_of_still hstill, hall.enc]

/-! ### The coupling -/

theorem disconnectTrailer_closed {s : State} (h : s.enc.session = none) : ∃ p, (disconnectTrailer s).enc = { s.enc with proposal := p } := by
  by_cases hnone : s.trailer = .none
  · rw [disconnectTrailer_of_none hnone]
    exact ⟨s.enc.proposal, rfl⟩
  · have henc := trailerGone_enc s
    rw [disconnectTrailer_of_trailer hnone]
    generalize trailerGone s = g at *
    rw [sessionTrailerLost_of_off (sessionOnTrailer_of_closed (by rw [henc, h]))]
    obtain ⟨p, hp⟩ := settleProposal_enc g
    exact ⟨p, by rw [hp, henc]⟩

theorem setConnected_closed (code : Nat) {s : State} (h : s.enc.session = none) : ∃ p, (setConnected code s).enc = { s.enc with proposal := p } := by
  unfold setConnected
  split
  · exact ⟨s.enc.proposal, (connectTrailer_coupling _).enc⟩
  · split
    · exact disconnectTrailer_closed (s := atCoupling false s) h
    · exact ⟨s.enc.proposal, rfl⟩

/-- A session, where a trailer is disconnected: one that concerns the trailer is lost, another goes on. -/
theorem disconnectTrailer_session {s : State} {i : Nat} (htrailer : s.trailer ≠ .none) (hopen : s.enc.session = some i)
    (hawake : s.osc.state ≠ .dormant) :
    (s.enc.walk.any isTrailerRow = true ∨ s.enc.pairs.any (fun p => p.source.any isTrailerRow) = true →
        EndedAs .trailerLost i s (disconnectTrailer s))
      ∧ (s.enc.walk.any isTrailerRow = false → s.enc.pairs.any (fun p => p.source.any isTrailerRow) = false →
        (disconnectTrailer s).enc.session = some i ∧ (disconnectTrailer s).enc.pairs = s.enc.pairs) := by
  have henc := trailerGone_enc s
  have hframe := trailerGone_frame s
  have hawake' : (trailerGone s).osc.state ≠ .dormant := by rwa [(trailerGone_work s).osc_state]
  rw [disconnectTrailer_of_trailer htrailer]
  generalize trailerGone s = g at *
  have hopen' : g.enc.session = some i := by rw [henc, hopen]
  have hon : sessionOnTrailer g = (s.enc.walk.any isTrailerRow || s.enc.pairs.any (fun p => p.source.any isTrailerRow)) := by
    rw [sessionOnTrailer, sessionOpen, hopen', henc]
    rfl
  refine ⟨fun h => ?_, fun hwalk hpairs => ?_⟩
  · have hyes : sessionOnTrailer g = true := by rw [hon, Bool.or_eq_true]; exact h
    have hended := (endSession_endedAs .trailerLost hopen' hawake').earlier hframe henc
    rw [sessionTrailerLost, if_pos hyes]
    obtain ⟨p, hp⟩ := settleProposal_enc (endSession .trailerLost g)
    exact hended.later (settleProposal_frame _) hp
  · rw [sessionTrailerLost_of_off (by rw [hon, hwalk, hpairs]; rfl)]
    obtain ⟨p, hp⟩ := settleProposal_enc g
    rw [hp]
    exact ⟨hopen', by rw [henc]⟩

end Sys2Proof.Machine
end

section
/-! A whole vehicle data frame: the trailer, the session, the rows; the settlement of O28. -/

namespace Sys2Proof.Machine

set_option Elab.async false

section
variable {data : List Byte} {s : State}

/-- What the lift axles and the last step leave of the coupling and the session. -/
theorem takeVehicleData_end (data : List Byte) (s : State) : Frame (.vdm :: wheelFields) (coupledTaken data s) (takeVehicleData data s) := by
  have hlift : Frame (.vdm :: wheelFields) (coupledTaken data s) (liftTaken data s) := setLift_frame _ _
  exact hlift.trans ((takeVehicleData_done data s).frame.mono (by decide))

/-- The state in which the coupling is taken. -/
abbrev beforeCoupling (data : List Byte) (s : State) : State := loadsTaken data (speedTaken data s)

theorem beforeCoupling_frame (data : List Byte) (s : State) : Frame endFields s (beforeCoupling data s) :=
  (speedTaken_frame data s).trans ((loadsTaken_frame data _).mono (by decide))

theorem beforeCoupling_awake (hawake : s.osc.state ≠ .dormant) : (beforeCoupling data s).osc.state ≠ .dormant :=
  loadsTaken_awake data (speedTaken_awake data hawake)

theorem beforeCoupling_connected (hawake : s.osc.state ≠ .dormant) : (beforeCoupling data s).vdm.connected = s.vdm.connected := by
  obtain ⟨-, -, hconnected⟩ := loadsTaken_speed data (speedTaken data s)
  rw [hconnected, speedTaken_vdm data hawake, frameSeen_vdm]

theorem beforeCoupling_enc (data : List Byte) (s : State) : (beforeCoupling data s).enc = (speedTaken data s).enc := (loadsTaken_frame data _).enc

/-! ### The coupling, as the frame ends -/

theorem takeVehicleData_couples (hawake : s.osc.state ≠ .dormant) (hcode : natAt data 3 = 1) (hoff : s.vdm.connected = false)
    (hnone : s.trailer = .none) :
    (takeVehicleData data s).trailer = .recognising
      ∧ (takeVehicleData data s).window = some (s.now + s.setting .recognitionWindowS * 1000)
      ∧ (takeVehicleData data s).recog = noRecog := by
  have hend := takeVehicleData_end data s
  have hbefore := beforeCoupling_frame data s
  have hconnected := beforeCoupling_connected (data := data) hawake
  rw [hend.trailer, hend.window, hend.recog, coupledTaken, hcode]
  change (setConnected 1 (beforeCoupling data s)).trailer = _ ∧ (setConnected 1 (beforeCoupling data s)).window = _
    ∧ (setConnected 1 (beforeCoupling data s)).recog = _
  generalize beforeCoupling data s = c at *
  rw [setConnected_couples (hconnected.trans hoff), ← hbefore.now, ← hbefore.setting]
  have hput : (atCoupling true c).trailer = .none := hbefore.trailer.trans hnone
  rw [connectTrailer, if_pos hput]
  exact ⟨rfl, rfl, rfl⟩

theorem takeVehicleData_stays_coupled (hcode : natAt data 3 = 1) (htrailer : s.trailer ≠ .none) :
    (takeVehicleData data s).trailer = s.trailer ∧ (takeVehicleData data s).window = s.window ∧ (takeVehicleData data s).recog = s.recog := by
  have hend := takeVehicleData_end data s
  have hbefore := beforeCoupling_frame data s
  have hkept : Frame (.vdm :: endFields) s (coupledTaken data s) := by
    rw [coupledTaken, hcode]
    change Frame _ s (setConnected 1 (beforeCoupling data s))
    generalize beforeCoupling data s = c at *
    by_cases hon : c.vdm.connected = false
    · rw [setConnected_couples hon]
      have hput : Frame [.vdm] c (atCoupling true c) := setVdm_frame _ c
      have hsame : connectTrailer (atCoupling true c) = atCoupling true c := if_neg (by rw [hput.trailer, hbefore.trailer]; exact htrailer)
      rw [hsame]
      exact (hbefore.mono (by decide)).trans (hput.mono (by decide))
    · rw [setConnected_idle (fun _ => Bool.not_eq_false _ ▸ hon) fun h => absurd h (by decide)]
      exact hbefore.mono (by decide)
  exact ⟨hend.trailer.trans hkept.trailer, hend.window.trans hkept.window, hend.recog.trans hkept.recog⟩

/-- The trailer disconnected, seen from the end of the frame. -/
theorem coupledTaken_uncouples (hawake : s.osc.state ≠ .dormant) (hcode : natAt data 3 = 0) (hon : s.vdm.connected = true) :
    ∃ c, Frame (.vdm :: endFields) s c ∧ c.osc.state ≠ .dormant ∧ c.enc = (speedTaken data s).enc ∧ coupledTaken data s = disconnectTrailer c := by
  have hbefore := beforeCoupling_frame data s
  have henc := beforeCoupling_enc data s
  have hawake' := beforeCoupling_awake (data := data) hawake
  have hconnected := beforeCoupling_connected (data := data) hawake
  rw [coupledTaken, hcode]
  change ∃ c, _ ∧ _ ∧ _ ∧ setConnected 0 (beforeCoupling data s) = _
  generalize beforeCoupling data s = c at *
  have hput : Frame [.vdm] c (atCoupling false c) := setVdm_frame _ c
  exact ⟨atCoupling false c, (hbefore.mono (by decide)).trans (hput.mono (by decide)), by rwa [hput.osc], hput.enc.trans henc,
    setConnected_uncouples (hconnected.trans hon)⟩

theorem takeVehicleData_uncoupled (hawake : s.osc.state ≠ .dormant) (hcode : natAt data 3 = 0) (hon : s.vdm.connected = true) :
    (takeVehicleData data s).trailer = .none := by
  obtain ⟨c, -, -, -, heq⟩ := coupledTaken_uncouples hawake hcode hon
  rw [(takeVehicleData_end data s).trailer, heq, disconnectTrailer_trailer]

theorem takeVehicleData_removed (hawake : s.osc.state ≠ .dormant) (hcode : natAt data 3 = 0) (hon : s.vdm.connected = true)
    (htrailer : s.trailer ≠ .none) :
    (takeVehicleData data s).window = none ∧ (takeVehicleData data s).recog = noRecog
      ∧ Raised { kind := .trailerRemoved, time := s.now / 1000 } s (takeVehicleData data s) := by
  have hend := takeVehicleData_end data s
  obtain ⟨c, hframe, -, -, heq⟩ := coupledTaken_uncouples hawake hcode hon
  rw [heq, disconnectTrailer_of_trailer (by rw [hframe.trailer]; exact htrailer)] at hend
  obtain ⟨hwindow, hrecog⟩ := trailerGone_recognition c
  have hraised := trailerGone_raised c
  have hlost := sessionTrailerLost_frame (trailerGone c)
  have hsettle := settleProposal_frame (sessionTrailerLost (trailerGone c))
  rw [hframe.now] at hraised
  refine ⟨hend.window.trans ?_, hend.recog.trans ?_, raised_later (raised_later (raised_later (raised_earlier hframe hraised) hlost) hsettle) hend⟩
  · rw [hsettle.window, hlost.window, hwindow]
  · rw [hsettle.recog, hlost.recog, hrecog]

theorem takeVehicleData_unloaded {k : EntryNo} (hawake : s.osc.state ≠ .dormant) (hcode : natAt data 3 = 0) (hon : s.vdm.connected = true)
    (htrailer : s.trailer = .identified k) :
    (∀ q : Row, 20 ≤ q.val → rowId (takeVehicleData data s) q = none ∧ Restarted (takeVehicleData data s) q)
      ∧ ∀ p, (takeVehicleData data s).enc.proposal = some p → p.1.val < 20 := by
  have hend := takeVehicleData_end data s
  have hgone := takeVehicleData_uncoupled hawake hcode hon
  have hdone := (takeVehicleData_done data s).frame
  obtain ⟨c, hframe, hawake', -, heq⟩ := coupledTaken_uncouples hawake hcode hon
  have hnone : (coupledTaken data s).trailer = .none := by rw [heq, disconnectTrailer_trailer]
  obtain ⟨hrows, hproposal⟩ := disconnectTrailer_identified (hframe.trailer.trans htrailer) hawake'
  rw [← heq] at hrows hproposal
  have hlift : ∀ q : Row, 20 ≤ q.val → (liftTaken data s).wheel q = (coupledTaken data s).wheel q := fun q hq => by
    have hraised : ∀ t : State, t.trailer = .none → raisedRow t q = false := fun t ht =>
      raisedRow_of_no_trailer (fun k hk => TrailerState.noConfusion (ht.symm.trans hk)) hq
    have hsame : raisedRow (coupledTaken data s) q = raisedRow (atMask (byteAt data 4) (coupledTaken data s)) q :=
      (hraised _ hnone).trans (hraised (atMask (byteAt data 4) (coupledTaken data s)) hnone).symm
    exact liftChange_kept hsame
  refine ⟨fun q hq => ?_, fun p hp => hproposal p (by rwa [← hend.enc])⟩
  have hid := rowId_of_no_trailer hgone hq
  exact ⟨hid, restarted_congr ((hdone.wheel q).trans (hlift q hq)) (hid.trans (rowId_of_no_trailer hnone hq).symm) (hrows q hq)⟩

/-! ### The session, as the frame ends -/

theorem takeVehicleData_moved {i : Nat} (hopen : s.enc.session = some i) (hawake : s.osc.state ≠ .dormant) (h : NowMoves data s) :
    EndedAs .moved i s (takeVehicleData data s) := by
  have hend := takeVehicleData_end data s
  have hmoved := speedTaken_moved hopen hawake h
  have hloads := loadsTaken_frame data (speedTaken data s)
  obtain ⟨hclosed, -⟩ := id hmoved
  obtain ⟨p, hp⟩ := setConnected_closed (natAt data 3) (s := beforeCoupling data s) (by rw [beforeCoupling_enc, hclosed])
  rw [beforeCoupling_enc] at hp
  have hcoupled := setConnected_frame (natAt data 3) (beforeCoupling data s)
  exact hmoved.later ((hloads.mono (by decide) : Frame vehicleFields _ _).trans
    (Frame.trans (hcoupled.mono (by decide)) (hend.mono (by decide)))) (hend.enc.trans hp)

theorem takeVehicleData_trailerLost {i : Nat} (hopen : s.enc.session = some i) (hawake : s.osc.state ≠ .dormant) (h : ¬ NowMoves data s)
    (hcode : natAt data 3 = 0) (hon : s.vdm.connected = true) (htrailer : s.trailer ≠ .none) :
    (s.enc.walk.any isTrailerRow = true ∨ s.enc.pairs.any (fun p => p.source.any isTrailerRow) = true →
        EndedAs .trailerLost i s (takeVehicleData data s))
      ∧ (s.enc.walk.any isTrailerRow = false → s.enc.pairs.any (fun p => p.source.any isTrailerRow) = false →
        (takeVehicleData data s).enc.session = some i ∧ (takeVehicleData data s).enc.pairs = s.enc.pairs) := by
  have hend := takeVehicleData_end data s
  have hstill := speedTaken_unmoved h
  obtain ⟨c, hframe, hawake', henc, heq⟩ := coupledTaken_uncouples hawake hcode hon
  rw [heq] at hend
  rw [hstill] at henc
  obtain ⟨hlost, hkept⟩ := disconnectTrailer_session (i := i) (by rw [hframe.trailer]; exact htrailer) (by rw [henc, hopen]) hawake'
  rw [henc] at hlost hkept
  exact ⟨fun h => ((hlost h).earlier hframe henc).later hend hend.enc, fun hwalk hpairs => by rw [hend.enc]; exact hkept hwalk hpairs⟩

/-! ### The rows, the data and the rest -/

theorem takeVehicleData_back (h : s.vdm.status = .lost) :
    Raised { kind := .vehicleDataBack, time := s.now / 1000 } s (takeVehicleData data s) := by
  have hseen : Raised { kind := .vehicleDataBack, time := s.now / 1000 } s (frameSeen s) := by
    have hput := setVdm_frame { (raiseEvent .vehicleDataBack none none s).vdm with
      status := .present
      frameDeadline := some ((raiseEvent .vehicleDataBack none none s).now
        + (raiseEvent .vehicleDataBack none none s).setting .vehicleDataTimeoutMs) } (raiseEvent .vehicleDataBack none none s)
    have hback : Raised { kind := .vehicleDataBack, time := s.now / 1000 } s (raiseEvent .vehicleDataBack none none s) :=
      raised_between (kind := .vehicleDataBack) (row := none) (value := none) (.refl [] s) (.refl [] _)
    unfold frameSeen
    dsimp only
    rw [if_pos h]
    exact raised_later hback hput
  have hspeed : Frame endFields (frameSeen s) (speedTaken data s) := setSpeed_frame _ _
  have hloads := loadsTaken_frame data (speedTaken data s)
  have hcoupled := setConnected_frame (natAt data 3) (beforeCoupling data s)
  exact raised_later (raised_later (raised_later (raised_later hseen hspeed) hloads) hcoupled) (takeVehicleData_end data s)

/-- The coupling identifies no trailer. -/
theorem setConnected_identified {code : Nat} {c : State} {k : EntryNo} (h : (setConnected code c).trailer = .identified k) :
    (setConnected code c).trailer = c.trailer := by
  unfold setConnected at h ⊢
  split at h
  · next hon =>
    rw [if_pos hon]
    unfold connectTrailer at h ⊢
    split at h
    · cases h
    · next hno => rw [if_neg hno, State.setVdm_trailer]
  · next hon =>
    rw [if_neg hon]
    split at h
    · rw [disconnectTrailer_trailer] at h
      cases h
    · next hoff => rw [if_neg hoff]

/-- A row whose axle is raised at the end is of the truck, or of a trailer that stayed. -/
theorem takeVehicleData_raised_row {q : Row} (h : raisedRow (takeVehicleData data s) q = true) :
    q.val < 20 ∨ (takeVehicleData data s).trailer = s.trailer := by
  by_contra hno
  obtain ⟨hq, hchanged⟩ := not_or.1 hno
  have hfree : ∀ k, (takeVehicleData data s).trailer ≠ .identified k := fun k hk => by
    rw [(takeVehicleData_end data s).trailer] at hk hchanged
    exact hchanged ((setConnected_identified hk).trans (beforeCoupling_frame data s).trailer)
  rw [raisedRow_of_no_trailer hfree (Nat.not_lt.1 hq)] at h
  cases h

end

end Sys2Proof.Machine
end

section
/-! The settlement of O28. -/

namespace Sys2Proof.Machine

set_option Elab.async false

/-- A frame of eight bytes, taken outside DORMANT, reaches VDM with the rate fixed. -/
theorem exec_vehicleData_taken {s : State} {data : List Byte} (hrun : s.phase = .running) (hawake : s.osc.state ≠ .dormant)
    (hlen : data.length = 8) :
    exec (.vehicleDataFrame (.withId s.tables.link.vehicleId data)) s = .next (takeVehicleData data { s with link := heardBy s.link }) := by
  have hlen' : (BusFrame.withId s.tables.link.vehicleId data).data.length ≤ 8 := hlen.le
  have htaken : vehicleFrame data { s with link := heardBy s.link } = takeVehicleData data { s with link := heardBy s.link } :=
    if_neg (by simp [hawake, hlen])
  rw [(exec_frame_of_length hlen' hrun).2, frameArrives_of_vehicleData, fixRate_eq, htaken]

/-- In DORMANT, or of another length, it does no more than fix the rate. -/
theorem exec_vehicleData_ignored {s : State} {data : List Byte} (hrun : s.phase = .running) (hlen : data.length ≤ 8)
    (h : s.osc.state = .dormant ∨ data.length ≠ 8) :
    exec (.vehicleDataFrame (.withId s.tables.link.vehicleId data)) s = .next { s with link := heardBy s.link } := by
  have hlen' : (BusFrame.withId s.tables.link.vehicleId data).data.length ≤ 8 := hlen
  have hleft : vehicleFrame data { s with link := heardBy s.link } = { s with link := heardBy s.link } := if_pos h
  rw [(exec_frame_of_length hlen' hrun).2, frameArrives_of_vehicleData, fixRate_eq, hleft]

theorem Retimed.of_heard {s b u : State} {q : Row} (hf : Frame [.link] s b) (h : Retimed b u q) : Retimed s u q := by
  rw [Retimed, hf.usesMoving (r := q), hf.wheel q, hf.now] at h
  exact h

/-- The facts of a row, seen from before the rate was fixed. -/
theorem RowDone.of_heard {s b u : State} {q : Row} (hf : Frame [.link] s b) (h : RowDone q b u) : RowDone q s u := by
  have hwheel := hf.wheel q
  have hraised := hf.raisedRow (r := q)
  have hunit : ∀ v, unitLoad b v = unitLoad s v := fun v => unitLoad_congr hf.vdm v
  obtain ⟨htells, hretimed, hre, hup⟩ := h
  rw [hf.osc, hwheel] at hretimed
  rw [hraised, hunit] at hre
  rw [hraised, hwheel] at hup
  refine ⟨fun c hc => ?_, fun hactive hactive' hholds => (hretimed hactive hactive' hholds).of_heard hf, fun halive hjudges h => ?_, hup⟩
  · rcases htells c (by rw [hwheel]; exact hc) with hkept | htold
    · exact .inl hkept
    · exact .inr (htold.earlier hf)
  · have hdone := hre halive hjudges h
    rw [Reevaluated, hwheel] at hdone
    exact hdone

/-- Settles O28: stage by stage, and row by row. -/
theorem vehicleDataFrameIsTaken : Obligations.VehicleDataFrameIsTaken := by
  refine ⟨fun s data hrun hawake hlen hlegal => ?taken, fun s data hrun hlen h => exec_vehicleData_ignored hrun hlen h⟩
  intro speed moved removed
  have hexec := exec_vehicleData_taken hrun hawake hlen
  have hopen : OpenInActive s := fun i hi => by
    obtain ⟨-, -, -, hsession⟩ := hlegal
    obtain ⟨-, hactive, -⟩ := hsession i hi
    exact hactive
  have hf : Frame [.link] s { s with link := heardBy s.link } := fixRate_eq s ▸ fixRate_frame s
  have hlink : ({ s with link := heardBy s.link } : State).link.state = if s.link.state = .searching then .running else s.link.state := by
    show (heardBy s.link).state = _
    unfold heardBy
    split <;> rfl
  generalize ({ s with link := heardBy s.link } : State) = b at hexec hf hlink
  have hosc := hf.osc
  have henc := hf.enc
  have hvdm := hf.vdm
  have htrailer := hf.trailer
  have hnow := hf.now
  have hset := hf.setting
  have hawake' : b.osc.state ≠ .dormant := by rwa [hosc]
  have hopen' : OpenInActive b := by rwa [OpenInActive, henc, hosc]
  have hlinkkept := (takeVehicleData_lawful data hawake').link.state
  have hdata := takeVehicleData_vdm (data := data) hawake'
  have hframe : Frame vehicleFields s (takeVehicleData data b) := (hf.mono (by decide)).trans (takeVehicleData_frame data b)
  have hmoves : moved ↔ NowMoves data b := by rw [NowMoves, hvdm, hset]; rfl
  have hended : ∀ {how i}, EndedAs how i b (takeVehicleData data b) → EndedAs how i s (takeVehicleData data b) := fun h => h.earlier hf henc
  have hrow : ∀ q : Row, q.val < 20 ∨ (takeVehicleData data b).trailer = s.trailer → RowDone q s (takeVehicleData data b) := fun q hq =>
    (takeVehicleData_row hopen' hawake' (by rwa [htrailer])).of_heard hf
  have hafter : vehicleDataAfter data b = vehicleDataAfter data s := by
    unfold vehicleDataAfter
    rw [loadAfterReport_congr hnow hset, loadAfterReport_congr hnow hset, hvdm, hnow, hset]
  rw [hafter] at hdata
  refine ⟨takeVehicleData data b, hexec, by rw [hdata]; rfl, by rw [hdata]; rfl, by rw [hdata]; rfl, by rw [hdata]; rfl, by rw [hdata]; rfl,
    by rw [hdata]; rfl, by rw [hdata]; rfl, by rw [hdata]; rfl, fun hlost => ?back, fun hcode hoff hnone => ?couples,
    fun hcode hin => ?stays, fun hcode hon => ?uncouples, fun hgone => ?removed, fun k hgone hk => ?unloaded, fun i hgo hi => ?moved,
    fun i hstill hgone hi => ?lost, fun q hq hactive hactive' hholds => ?retimed, fun q hq halive hjudges h => ?reevaluated,
    fun q hno hyes hin hin' => ?raised, by rw [hlinkkept, hlink], hframe.tables, hframe.candidates, hframe.store, hframe.mgu, hframe.lines⟩
  case back =>
    have hback := takeVehicleData_back (data := data) (s := b) (by rw [hvdm]; exact hlost)
    rw [hnow] at hback
    exact raised_earlier hf hback
  case couples =>
    have hcouples := takeVehicleData_couples hawake' hcode (by rw [hvdm]; exact hoff) (by rw [htrailer]; exact hnone)
    rwa [hnow, hset] at hcouples
  case stays =>
    have hstays := takeVehicleData_stays_coupled (s := b) hcode (by rw [htrailer]; exact hin)
    rwa [htrailer, hf.window, hf.recog] at hstays
  case uncouples => exact takeVehicleData_uncoupled hawake' hcode (by rw [hvdm]; exact hon)
  case removed =>
    obtain ⟨hcode, hon, hin⟩ := hgone
    obtain ⟨hwindow, hrecog, hraised⟩ := takeVehicleData_removed hawake' hcode (by rw [hvdm]; exact hon) (by rw [htrailer]; exact hin)
    rw [hnow] at hraised
    exact ⟨hwindow, hrecog, raised_earlier hf hraised⟩
  case unloaded =>
    obtain ⟨hcode, hon, -⟩ := hgone
    exact takeVehicleData_unloaded hawake' hcode (by rw [hvdm]; exact hon) (htrailer.trans hk)
  case moved => exact hended (takeVehicleData_moved (by rw [henc]; exact hi) hawake' (hmoves.1 hgo))
  case lost =>
    obtain ⟨hcode, hon, hin⟩ := hgone
    obtain ⟨hlost, hkept⟩ := takeVehicleData_trailerLost (i := i) (by rw [henc]; exact hi) hawake' (fun h => hstill (hmoves.2 h)) hcode
      (by rw [hvdm]; exact hon) (by rw [htrailer]; exact hin)
    rw [henc] at hlost hkept
    exact ⟨fun h => hended (hlost h), hkept⟩
  case retimed => exact (hrow q (.inl hq)).retimed hactive hactive' hholds
  case reevaluated => exact (hrow q hq).reevaluated halive hjudges h
  case raised =>
    have hq := takeVehicleData_raised_row hyes
    rw [htrailer] at hq
    obtain ⟨htells, -, -, hraised⟩ := hrow q hq
    have hup := hraised hno hyes hin hin'
    obtain ⟨hcleared, -⟩ := id hup
    refine ⟨hup, fun c hc hactive => (htells c hactive).resolve_left fun hkept => ?_⟩
    exact Bool.false_ne_true ((condOf_eq_iff.1 (hcleared c hc)).1.symm.trans hkept)

end Sys2Proof.Machine
end
